-- ==== Sys2Proof/Word.lean ====
section
/-! DEFINITION. The byte and the word of the model, and nothing else.
A structure of the manual is little-endian (R9), with bit 0 the least significant (R8): its image is one
natural number whose bit 8k is bit 0 of the byte at offset k. -/

namespace Sys2Proof

/-- One byte of a store, of a packet or of a file. -/
abbrev Byte := BitVec 8

/-- A set-up register as software sees it (R13). -/
abbrev Word := BitVec 32

end Sys2Proof
end

