-- ==== Sys2Proof/Syntax.lean ====
section
/-! DEFINITION. The commands of the block, with their operands. One constructor of `Instr` for each row of
spec/opcode_table.json. A tile engine's row names the physical tile p whose scheduler issues (R92); a control
record's row names the physical tile p, the logical tile h it carries (0: A, 1: B, R162) and the context c.
What the manual takes from outside the module (bytes of Tabok memory read by the device, blocks of a link,
pin and sensor levels, what a code finds in a word) is an operand (notes/assumptions/11.md). -/

namespace Sys2Proof

/-- What the code of a word or of a line finds (R179, R190). `syndrome` is the check syndrome of a word, or the
symbol (bits 4 to 0) and the error value (bits 20 to 5) of a corrected line, for the SYNDROME field of R343. -/
inductive Finding
  | clean
  | corrected (syndrome : Nat)
  | uncorrectable (syndrome : Nat)
  deriving DecidableEq, Repr

/-- The stores of a tile, numbered as the STORE_CE record numbers them (R343). -/
inductive StoreName
  | tileStore
  | gradientStore
  | transposingBuffer
  deriving DecidableEq, Repr

/-- What the loader lays down on a tile for a context before the write that enables it there, beside the registers
of the per-context block: the arithmetic word (R76), the context's grid and the device grid's columns (R242, R244),
whether it is the pacing context (R34), the pennant ceilings of its debug section (R256), its initial epoch number
(R228) and bytes of the tile's
stores (streams, descriptors, tensors; R239, notes/assumptions/13.md). -/
structure LoadImage where
  ctx : Nat
  arith : Nat := 0
  cols : Nat := 1
  rows : Nat := 1
  gridX : Nat := 1
  pacing : Bool := false
  ceilings : List (Nat × Nat) := []
  epochInit : Nat := 0
  stores : List (StoreName × Nat × List Byte) := []
  deriving DecidableEq, Repr

/-- One logical tile's move from physical tile `fromP` (as A, 0, or B, 1) to another place (R169). -/
structure Move where
  fromP : Nat
  fromH : Nat
  toP : Nat
  toH : Nat
  deriving DecidableEq, Repr

/-- The rings that send interrupt messages under a holdoff (R278, R422). -/
inductive IrqSource
  | completion (c : Nat)
  | event (c : Nat)
  | drain
  deriving DecidableEq, Repr

/-- How a storage work request ended (R280). `ok` carries the bytes that the remote side returned. -/
inductive WrEnd
  | ok (data : List Byte)
  | remoteAccess
  | retriesExhausted
  | nvmeStatus (status : Nat)
  deriving DecidableEq, Repr

/-- Who reads HBM outside a record or a channel (R192). -/
inductive HbmUser
  | tabok
  | ethernet (port : Nat)
  deriving DecidableEq, Repr

/-- The write that a controller accepts: the k-th of those on their way, or one of the Tabok die (R187). -/
inductive HbmWriteForm
  | queued (k : Nat)
  | tabok (addr : Nat) (data : List Byte)
  deriving DecidableEq, Repr

/-- One sensor of R378 and its reading in units of 0.125 °C: a tile (0 to 1,439), a stack (1,440 + s), or
Tabok (1,460), numbered as MON_FA numbers them (R416). -/
structure Reading where
  sensor : Nat
  value : BitVec 16
  deriving DecidableEq, Repr

/-- The boundary-scan register of R436, a cell for each 3.3 V sideband pin of R429 outside the test access port and for the
I3C pins, in the order of R429, the first lowest: MOD_PRSNT_N, MOD_MATED_N, MOD_RST_N, MOD_PWRGD, MOD_FAULT_N, MOD_ALERT_N,
MOD_THROTTLE_N, MOD_READY, MOD_SLOT_ID[0] to [5], MOD_ETH_CR8[0] to [3], MOD_HOIST_OUT, MOD_HOIST_IN, I3C_SCL, I3C_SDA. -/
abbrev BoundaryScan := BitVec 22

/-- The commands: one constructor for each row of the table of operations and events. -/
inductive Instr
  /-- MM (R111). Issue of a matrix product record, which computes D from A and B by exact-group accumulation, with optional fused row reductions into C. -/
  | mm (p : Nat)
  /-- TB_LOAD (R119). Issue of a record that copies A from the tile store into the transposing buffer through the fill path. -/
  | tbLoad (p : Nat)
  /-- ADD (R69). Issue of a vector element add, rounded once to the destination. -/
  | add (p : Nat)
  /-- SUB (R69). Issue of a vector element subtract, rounded once to the destination. -/
  | sub (p : Nat)
  /-- MUL (R69). Issue of a vector element multiply, rounded once to the destination. -/
  | mul (p : Nat)
  /-- FMA (R69). Issue of a vector fused multiply-add, A times B plus C, rounded once. -/
  | fma (p : Nat)
  /-- MAX (R71). Issue of a vector element maximum, which treats NaN according to the forerunner-compare bit. -/
  | max (p : Nat)
  /-- MIN (R71). Issue of a vector element minimum, which treats NaN according to the forerunner-compare bit. -/
  | min (p : Nat)
  /-- CMP (R452). Issue of a comparison of A against B that writes integer predicates 1 or 0 into D. -/
  | cmp (p : Nat)
  /-- CVT (R67). Issue of a conversion of A to the format of D under the rounding mode of D. -/
  | cvt (p : Nat)
  /-- DIV (R70). Issue of a correctly rounded vector divide. -/
  | div (p : Nat)
  /-- RCP (R70). Issue of a correctly rounded vector reciprocal. -/
  | rcp (p : Nat)
  /-- SQRT (R70). Issue of a correctly rounded vector square root. -/
  | sqrt (p : Nat)
  /-- RSQRT (R70). Issue of a correctly rounded vector reciprocal square root. -/
  | rsqrt (p : Nat)
  /-- EXP2 (R70). Issue of a correctly rounded vector exp2. -/
  | exp2 (p : Nat)
  /-- LOG2 (R70). Issue of a correctly rounded vector log2. -/
  | log2 (p : Nat)
  /-- REDUCE (R117). Issue of a fused reduction of a stored tensor along the axis that IMM names. -/
  | reduce (p : Nat)
  /-- UPD48 (R124). Issue of the Vf48m update multiply-add, which optionally feeds the update-ratio sums. -/
  | upd48 (p : Nat)
  /-- SELECT (R452). Issue of a record that moves the bits of A or B into D, chosen by C element by element. -/
  | select (p : Nat)
  /-- DRAW (R137). Issue of a record that fills D with Sorrel output in the distribution that IMM selects. -/
  | draw (p : Nat)
  /-- IADD (R452). Issue of an integer add, which wraps modulo the destination width. -/
  | iadd (p : Nat)
  /-- IAND (R452). Issue of a bitwise integer AND. -/
  | iand (p : Nat)
  /-- ISHIFT (R452). Issue of an integer left shift, or a logical or arithmetic right shift. -/
  | ishift (p : Nat)
  /-- SAMPLE (R147). Issue of a sampler record in mode WHOLE, SHORTLIST or FINAL, which draws one token per open stream and updates the stream states. -/
  | sample (p : Nat)
  /-- STATE_INIT (R145). Issue of a record that opens streams from templates, assigns each its epoch slot and takes its pin. -/
  | stateInit (p : Nat)
  /-- DIGEST (R103). Issue of a record that folds the elements of an existing tensor into a digest slot. -/
  | digest (p : Nat)
  /-- DIGEST_READ (R103). Issue of a record that writes a digest slot into D and clears the slot. -/
  | digestRead (p : Nat)
  /-- DMA_GO (R199). Issue of a record that loads a channel descriptor into the shadow set of a DMA channel and checks it. -/
  | dmaGo (p : Nat)
  /-- NOP (R84). Issue of a control record that carries only waits and posts. -/
  | nop (p h c : Nat)
  /-- LOOP_START (R85). Issue of a control record that pushes a loop count onto the four-deep loop stack. -/
  | loopStart (p h c : Nat)
  /-- LOOP_END (R84). Issue of a control record that decrements the innermost loop count and either continues the loop or pops it. -/
  | loopEnd (p h c : Nat)
  /-- ADVANCE (R34). Issue of a run-coordinate or collective-position advance, which also sets the context's salt step. -/
  | advance (p h c : Nat)
  /-- END (R218). Issue of the record that ends the operation stream of a launch on a logical tile. -/
  | endStream (p h c : Nat)
  /-- RECORD_DECODE (R90). The next record of a context's stream is decoded into its window once the window has room. -/
  | recordDecode (p h c : Nat)
  /-- RECORD_COMPLETE (R93). A record completes once its writes, digests and flags are done, and its pennant posts are then applied. -/
  | recordComplete (p h c n : Nat)
  /-- RECORD_AGED (R220). A record that has met rules 1 to 4 of R91 for 65,536 TCLK without a break takes an earlier deadline and is counted in TILE_AGED. -/
  | recordAged (p h c n began : Nat)
  /-- TB_OWNER_EXCHANGE (R166). On a folded tile, once the owner's buffer records complete, the transposing buffer image is swapped to the other logical tile. -/
  | tbOwnerExchange (p : Nat)
  /-- HAZARD_WAIT_LIMIT (R256). A record's waits stay unsatisfied for DBG_WAIT_LIMIT with nothing in flight, which raises a KIND 7 report. -/
  | hazardWaitLimit (p h c n : Nat)
  /-- ADVANCE_GROUP_JUDGE (R34). Once every tile of the pacing context has issued its advance of a group, the run-coordinate unit takes or refuses the group. -/
  | advanceGroupJudge
  /-- COLLECTIVE_POSITION_GROUP (R325). A group of advances of a non-pacing context is judged and moves or refuses its collective position. -/
  | collectivePositionGroup (c : Nat)
  /-- PLACEMENT_CHANGE (R40). A fired mapping change, tile rotation or unfold moves logical-tile state once the earlier transfers have completed. -/
  | placementChange (moves : List Move) (retired : List Nat)
  /-- SNAPSHOT_FRAME_WRITE (R420). A latched snapshot frame is written to Tabok memory, with its header last. -/
  | snapshotFrameWrite
  /-- LAUNCH (R218). A LAUNCH command descriptor is taken into the context's launch queue. -/
  | launch (c : Nat)
  /-- ABORT (R235). An ABORT command descriptor is taken and removes a queued launch or stops a launch in force. -/
  | abort (c : Nat)
  /-- LAUNCH_START (R219). The launch at the head of the ring is judged against its epoch fields and starts, waits or fails. -/
  | launchStart (c : Nat)
  /-- LAUNCH_COMPLETE (R218). END has completed on every logical tile and the launch is decided COMPLETED. -/
  | launchComplete (c : Nat)
  /-- COMPLETION_RECORD_WRITE (R274). A decided outcome is written as a completion record once the completion ring has room. -/
  | completionRecordWrite (c : Nat)
  /-- ABORT_QUIESCED (R235). With nothing of an aborted launch in flight, counters are reset, the pin is released and ABORTED is written. -/
  | abortQuiesced (c : Nat)
  /-- FAIL_QUIESCED (R449). With nothing of a failed launch in flight, counters are reset, the pin is released and FAILED is written. -/
  | failQuiesced (c : Nat)
  /-- DEADLINE_PASS (R221). Fabric time reaches a launch's DEADLINE before its outcome, which writes a deadline event and sets LATE. -/
  | deadlinePass (c seq : Nat)
  /-- EVENT_ENTRY_WRITE (R276). An event entry is written to the event ring, body first, when the ring has room. -/
  | eventEntryWrite (c : Nat)
  /-- IRQ_HOLDOFF_EXPIRE (R278). The interrupt holdoff ends and an interrupt message covering the records written is sent. -/
  | irqHoldoffExpire (r : IrqSource)
  /-- RING_DOORBELL (R270). A doorbell write is taken and is ignored, refused, or advances the command producer index. -/
  | ringDoorbell (v : Word)
  /-- DESC_FETCH (R272). The command unit issues a read of the next descriptor when the launch queue has room. -/
  | descFetch (c : Nat)
  /-- DESC_READ_RETURN (R272). Descriptor data returns and is taken if its SEQ matches, or otherwise schedules re-reads. -/
  | descReadReturn (c idx : Nat) (data : List Byte)
  /-- DESC_REREAD (R272). A re-read interval expires and the descriptor is read again. -/
  | descReread (c idx : Nat)
  /-- RING_CMD_RETRY (R272). A write restarts fetching of a stopped command ring at the same index. -/
  | ringCmdRetry (c : Nat)
  /-- RING_EN (R283). A write that sets or clears the ring enable resets the indices and sequences, or disables the rings. -/
  | ringEn (c : Nat) (v : Word)
  /-- RING_CQ_CONS (R275). Tabok advances the completion consumer index, which frees room for waiting records. -/
  | ringCqCons (c : Nat) (v : Word)
  /-- RING_EQ_CONS (R277). Tabok advances the event consumer index, which frees room for held entries. -/
  | ringEqCons (c : Nat) (v : Word)
  /-- ETH_DOORBELL (R280). A storage doorbell write advances the producer index of a queue pair's send ring. -/
  | ethDoorbell (port : Nat) (v : Word)
  /-- RDMA_READ (R280). A work request reads remote memory into HBM. -/
  | rdmaRead (port qp : Nat) (wr : List Byte)
  /-- RDMA_WRITE (R280). A work request writes HBM contents to remote memory. -/
  | rdmaWrite (port qp : Nat) (wr : List Byte)
  /-- SEND (R280). A work request sends data from Tabok memory. -/
  | send (port qp : Nat) (wr data : List Byte)
  /-- NVME_READ (R280). A work request reads NVMe blocks into HBM. -/
  | nvmeRead (port qp : Nat) (wr : List Byte)
  /-- NVME_WRITE (R280). A work request writes NVMe blocks from HBM. -/
  | nvmeWrite (port qp : Nat) (wr : List Byte)
  /-- WORK_REQUEST_COMPLETE (R280). A storage work request ends and its completion record is written. -/
  | workRequestComplete (port qp seq : Nat) (o : WrEnd)
  /-- ETH_QP_EN (R281). A write that enables a queue pair resets its indices and sequence counts. -/
  | ethQpEn (port : Nat) (v : Word)
  /-- ETH_PORT_TRAINED (R390). PHY training of a storage port ends and the port comes up. -/
  | ethPortTrained (port : Nat)
  /-- HOST_FRAME_RX (R279). A non-RoCE frame arrives and is delivered to the host queue. -/
  | hostFrameRx (port : Nat) (frame : List Byte)
  /-- HOST_FRAME_TX (R279). A frame from the host queue is sent on a port. -/
  | hostFrameTx (port : Nat) (frame : List Byte)
  /-- SHADOW_TO_ACTIVE (R200). A channel's shadow set moves into the active set once the active set empties and fewer than four transfers are held. -/
  | shadowToActive (p n : Nat)
  /-- DMA_READ_RETURN (R202). Read data of a transfer returns and is written to the destination, or the transfer stops on an uncorrectable read. -/
  | dmaReadReturn (p n : Nat)
  /-- DMA_WRITE_RESPONSE (R205). A write response for a landed-mode transfer arrives at its channel. -/
  | dmaWriteResponse (p n : Nat)
  /-- DMA_TRANSFER_COMPLETE (R205). A transfer reaches completion under its barrier, and its DMA_GO completes in load order. -/
  | dmaTransferComplete (p n : Nat)
  /-- TILE_DMA_PAUSE (R209). A write of 1 stops a channel from issuing new read requests. -/
  | tileDmaPause (p n : Nat)
  /-- TILE_DMA_RESUME (R209). A write of 0 to TILE_DMA_PAUSE resumes reading at the first unread byte. -/
  | tileDmaResume (p n : Nat)
  /-- DMA_PAUSE_DRAINED (R209). The outstanding reads of a paused channel return and TILE_DMA_PAUSED is set. -/
  | dmaPauseDrained (p n : Nat)
  /-- ARRIVING_WRITE_COMMIT (R96). An arriving write commits to a tile store and advances its landing counter. -/
  | arrivingWriteCommit (k : Nat)
  /-- TILE_HALT (R105). A write stops issue of a context on the tile. -/
  | tileHalt (p : Nat) (v : Word)
  /-- TILE_RESUME (R105). A write resumes issue of a context on the tile and re-arms its NaN trap. -/
  | tileResume (p : Nat) (v : Word)
  /-- TILE_PEN_WRITE (R95). A debugger write sets the count of a pennant of a halted context. -/
  | tilePenWrite (p : Nat)
  /-- TILE_CTX_EN (R239). A write enables or disables a context on a tile and moves CLK_CTX_STATE between 0 and 1. -/
  | tileCtxEn (p : Nat) (v : Word) (imgs : List LoadImage)
  /-- HBM_READ (R188). A read of an HBM line is served from the stack merged with any write-combining entry. -/
  | hbmRead (who : HbmUser) (addr len : Nat) (entry : Finding)
  /-- HBM_WRITE (R187). A write is accepted by a controller as a whole line or merged into a write-combining entry. -/
  | hbmWrite (w : HbmWriteForm) (entry : Finding)
  /-- WCB_EVICT (R187). An idle write-combining entry is evicted after 1,024 HCLK by read, merge and write-back. -/
  | wcbEvict (s line : Nat) (entry : Finding)
  /-- PATROL_SCRUB (R191). The patrol reads and corrects an HBM line in its 12-hour pass and counts corrected lines against the threshold. -/
  | patrolScrub (line : Nat) (f : Finding) (last : Bool)
  /-- TILE_SCRUB (R179). The tile scrubs a store word, corrects it and writes it back. -/
  | tileScrub (p : Nat) (st : StoreName) (word : Nat) (f : Finding)
  /-- HBM_RETIRE_GO (R195). A request to retire a pseudo-channel is accepted, which updates HBM_CAP, or is refused. -/
  | hbmRetireGo (s : Nat)
  /-- HBM_CHUNK_MOVE (R195). One chunk of a retiring pseudo-channel is moved to its new place. -/
  | hbmChunkMove (s : Nat)
  /-- HBM_STACK_TRAINED (R196). A stack ends training and zeroing as ready or failed, and HBM_CAP is set when the last stack is ready. -/
  | hbmStackTrained (s : Nat) (ok : Bool)
  /-- CLK_ARM_GO (R38). An arm request is checked and enters the armed-event table, or is refused. -/
  | clkArmGo
  /-- CLK_ARM_CANCEL (R41). A cancel removes an armed entry, or is refused as ALREADY_FIRED or as naming no entry. -/
  | clkArmCancel
  /-- CLK_RC_SET_GO (R43). A coordinate set rolls back positions, re-arms events, fires due events, frees slots and restores the mapping, or is refused. -/
  | clkRcSetGo
  /-- FLIT_RX (R292). A flit arrives and is decoded, checked and accepted or rejected, with its ACK and credits taken. -/
  | flitRx (n : Nat) (block : List Byte)
  /-- FLIT_SEND (R298). A flit slot of an output link is filled with control packets and the oldest fitting packets. -/
  | flitSend (n : Nat)
  /-- REPLAY_TIMEOUT (R293). Two microseconds pass without ACK progress and the sender resends from its oldest held flit. -/
  | replayTimeout (n : Nat)
  /-- RETRY_EXHAUSTED (R294). A flit is sent for the ninth time without an ACK and the link enters RETRAIN. -/
  | retryExhausted (n : Nat)
  /-- HEARTBEAT_SEND (R301). Every 50 µs an UP link sends a HEARTBEAT. -/
  | heartbeatSend (n : Nat)
  /-- HEARTBEAT (R301). A HEARTBEAT packet is received, carrying the sender's coordinate, liveness value and fatal bit. -/
  | heartbeat (n : Nat)
  /-- HEARTBEAT_MISSED (R301). No heartbeat is received for 150 µs and the link goes DOWN. -/
  | heartbeatMissed (n : Nat)
  /-- LINK_TRAINING_END (R300). Link training ends with the link UP, which starts MEASURE, or with the link DOWN. -/
  | linkTrainingEnd (n lanes : Nat)
  /-- LINK_TRAINING_RESTART (R300). 100 ms after a failed training, training restarts while LNK_EN is 1. -/
  | linkTrainingRestart (n : Nat)
  /-- LINK_RETRAIN_END (R300). A RETRAIN ends with the link UP and replay resumed, or DOWN with held packets discarded. -/
  | linkRetrainEnd (n lanes : Nat)
  /-- LINK_RETRAIN_TIMEOUT (R300). A RETRAIN that lasts 500 µs ends DOWN. -/
  | linkRetrainTimeout (n : Nat)
  /-- LNK_EN_SET (R300). A write of 1 to LNK_EN starts training of a DISABLED link. -/
  | lnkEnSet (n : Nat)
  /-- LNK_EN_CLEAR (R300). A write of 0 to LNK_EN disables the link and discards its held packets. -/
  | lnkEnClear (n : Nat)
  /-- LNK_RETRAIN_GO (R300). A write retrains an UP link now. -/
  | lnkRetrainGo (n : Nat)
  /-- LNK_LANE_RETIRE (R300). A write retires lanes live by starting a RETRAIN. -/
  | lnkLaneRetire (n : Nat) (v : Word)
  /-- MEASURE (R304). A MEASURE request or reply is received, and a reply sets LNK_RTT and LNK_DELAY. -/
  | measure (n turn : Nat)
  /-- IDENTITY (R306). An IDENTITY packet is received and the neighbour's serial and word are recorded. -/
  | identity (n : Nat)
  /-- TIME (R305). A TIME packet from the parent disciplines the child's fabric time. -/
  | time (n : Nat)
  /-- TIME_SEND (R303). Every 1 ms a parent sends TIME packets to its children. -/
  | timeSend (n : Nat)
  /-- HOIST_UP (R314). A HOIST_UP is received, and once every child's has arrived the device sends up or the root sends down. -/
  | hoistUp (n : Nat)
  /-- HOIST_DOWN (R314). A HOIST_DOWN arrives, is forwarded to the children and starts the release wait. -/
  | hoistDown (n : Nat)
  /-- LNK_HOIST_ENTER (R314). A write enters the hoist and holds launches. -/
  | lnkHoistEnter
  /-- LNK_HOIST_ABANDON (R314). A write abandons the hoist and sets its state to failed. -/
  | lnkHoistAbandon
  /-- HOIST_RELEASE (R314). The release delay DMAX minus depth ends, and held launches start in the same TCLK cycle. -/
  | hoistRelease
  /-- HOIST_TIMEOUT (R314). LNK_HOIST_TIMEOUT elapses without release and the hoist fails. -/
  | hoistTimeout
  /-- HOIST_WIRED_RELEASE (R316). MOD_HOIST_IN reads high for 200 ns and the wired hoist releases. -/
  | hoistWiredRelease
  /-- WRITE (R290). A WRITE packet arrives at its destination device and is handed to the destination tile, or answered as rejected. -/
  | write (n cls : Nat)
  /-- WRITE_ACK (R289). A WRITE_ACK returns to the source, releases its tag and reports commit or rejection to the channel. -/
  | writeAck (n cls : Nat)
  /-- UNDELIV (R291). An UNDELIV reaches the source of a request that could not be carried. -/
  | undeliv (n cls : Nat)
  /-- HOLD_LIMIT (R299). A packet waits LNK_HOLD_LIMIT at one device and is discarded and answered with cause 4. -/
  | holdLimit (n vc pos : Nat)
  /-- TAG_TIMEOUT (R299). A source tag gets no answer within four hold limits and is released as on cause 4. -/
  | tagTimeout (tag : Nat)
  /-- REFCLK100_A_LOSS (R383). Loss of REFCLK100_A takes every link and port DOWN while FTCLK holds its rate. -/
  | refclk100ALoss
  /-- COLLECTIVE_ENTRY_START (R326). A collective table entry starts when the position reaches its trigger and fewer than 16 collectives are open. -/
  | collectiveEntryStart (c : Nat)
  /-- COL_DATA (R331). A COL_DATA packet is received, staged, added into the partial sum and passed on or written. -/
  | colData (n cls : Nat)
  /-- COL_CREDIT (R331). A COL_CREDIT grants the sender packets of credit on one cable and stream. -/
  | colCredit (n cls : Nat)
  /-- PERM_DATA (R332). A PERM_DATA packet is checked against the receive pieces and written to HBM. -/
  | permData (n cls : Nat)
  /-- COL_ABORT (R335). A COL_ABORT is received and fails the collective, which is passed on. -/
  | colAbort (n cls : Nat)
  /-- COLLECTIVE_DONE (R333). With every byte landed and every packet handed on, the done record is written to every logical tile. -/
  | collectiveDone (k : Nat)
  /-- COLLECTIVE_STALL (R334). A started stream makes no progress for LNK_COL_STALL_MS and the collective fails with cause 3. -/
  | collectiveStall (k : Nat)
  /-- TEST_RCP_GO (R354). A write starts a recovery permute outside any context. -/
  | testRcpGo
  /-- TEST_RCP_ABORT (R368). A write fails the recovery permute with cause 6 and sends COL_ABORT. -/
  | testRcpAbort
  /-- POWER_SAMPLE (R375). The input power is sampled every 1 µs, and a sample above 4,200 W sets k_over to 14.
  The voltages at VIN and at the rails, in mV, come with it (R385). -/
  | powerSample (watts : Nat) (mv : Nat := 40000) (rails : List Nat := [])
  /-- OVER_BUDGET_STEP_UP (R375). After 200 µs, and then every 50 µs, above budget, k_over rises by one. -/
  | overBudgetStepUp
  /-- OVER_BUDGET_STEP_DOWN (R375). After each 1 ms at or below budget, k_over falls by one. -/
  | overBudgetStepDown
  /-- TOKEN_STEP_RECOMPUTE (R374). Every 1 µs the arbiter recomputes capacity and k_tok. -/
  | tokenStepRecompute
  /-- TOKEN_GRANT (R372). A heavy-unit token is granted to a waiting MM when capacity and the context figure allow. -/
  | tokenGrant (p h c n : Nat)
  /-- CLOCK_STEP_APPLY (R373). A change in the clock step takes effect on TCLK by pulse removal. -/
  | clockStepApply
  /-- SENSOR_READ (R378). The power controller reads every temperature sensor every 100 µs. -/
  | sensorRead (readings : List Reading)
  /-- THERMAL_STEP_UP (R378). At the throttle threshold, and every further 1 ms, k_therm rises by one. -/
  | thermalStepUp
  /-- THERMAL_STEP_DOWN (R378). After 10 ms below the threshold minus 5 °C, and every further 10 ms, k_therm falls by one. -/
  | thermalStepDown
  /-- THERMAL_TRIP (R378). A trip comparator sees a trip temperature for 10 µs, which raises THERMAL_TRIP as a fatal event. -/
  | thermalTrip (hbm : Bool) (unit : Nat) (temp : BitVec 16)
  /-- RAIL_FAULT (R379). A rail stays outside ±5 % for 10 µs, which raises a fatal event. With `band` it is the
  band regulator of that tile, under rail 2. -/
  | railFault (r mv : Nat) (band : Option Nat := none)
  /-- THROTTLE_ASSERT (R376). MOD_THROTTLE_N reads low for 1 µs, which forces the 2,000 W limit and withdraws lovage tokens. -/
  | throttleAssert
  /-- THROTTLE_RELEASE (R376). MOD_THROTTLE_N reads high for 1 µs and the held budget takes effect. -/
  | throttleRelease
  /-- LOAD_SHED_ENTRY (R377). VIN below 34 V for 2 µs sheds load to 2,000 W at k 14. -/
  | loadShedEntry (mv : Nat)
  /-- LOAD_SHED_EXIT (R377). VIN at or above 35 V for 1 ms ends load shedding. -/
  | loadShedExit (mv : Nat)
  /-- UNDERVOLTAGE_SHUTDOWN (R377). VIN below 30 V for 2 µs shuts the module down and loses all volatile state. -/
  | undervoltageShutdown
  /-- OVERVOLTAGE_SHUTDOWN (R377). VIN above 46 V for 10 µs opens the hot-swap switch and shuts down. -/
  | overvoltageShutdown
  /-- REFCLK100_B_LOSS (R377). REFCLK100_B absent for 1 µs shuts the module down. -/
  | refclk100BLoss
  /-- POWER_UP (R377). VIN within 36 to 44 V for 100 ms after a shutdown, with MOD_MATED_N low, starts soft start. -/
  | powerUp
  /-- BREAKER_TRIP (R439). Input above 150 A for 200 µs opens the switch and shuts down. -/
  | breakerTrip
  /-- PWR_BUDGET_W (R386). A write of the module budget takes effect, or is held while throttled. -/
  | pwrBudgetW (v : Word)
  /-- MOD_MATED_N_LOW (R432). The last-mate contact seats and enables the hot-swap switch. -/
  | modMatedNLow
  /-- MOD_MATED_N_HIGH (R432). MOD_MATED_N high for 2 µs opens the switch and shuts down. -/
  | modMatedNHigh
  /-- RAILS_IN_REGULATION (R388). Soft start ends with rails in regulation and MOD_PWRGD asserted. -/
  | railsInRegulation
  /-- MOD_RST_N_ASSERT (R432). MOD_RST_N low for 1 µs resets the module and loses volatile state. -/
  | modRstNAssert
  /-- MOD_RST_N_DEASSERT (R388). Reset ends, straps are latched and the security controller starts ROM boot. -/
  | modRstNDeassert (slot : BitVec 6) (cr8 : BitVec 4)
  /-- BOOT_VERIFY_DONE (R388). Firmware slot verification ends, and the Tabok cores start or the device enters BOOT_FAIL. -/
  | bootVerifyDone
  /-- IDENTITY_KEY_GENERATED (R400). On first boot the identity key generation ends and the key is sealed. It brings the
  modulus, and the certificates that the vendor issues: that of the signer, and the identity certificate. -/
  | identityKeyGenerated (modulus : Nat := 2 ^ 3071 + 1) (signer : List Byte := []) (cert : List Byte := [])
  /-- TILE_SELF_TEST_DONE (R390). A tile's store self-test and zeroing end, and the tile becomes spare or is retired. -/
  | tileSelfTestDone (p : Nat) (ok : Bool)
  /-- COLLECTIVE_SELF_TEST_DONE (R390). The staging self-test of the collective engines ends and CFG_RDY_COL is set. -/
  | collectiveSelfTestDone
  /-- UCIE_MODULE_TRAIN_END (R264). A UCIe module ends training or retraining and is up or disabled, and the host is lost if every module is disabled. -/
  | ucieModuleTrainEnd (m : Nat) (ok : Bool)
  /-- UCIE_FLIT_RX (R264). A Lueraris flit arrives, its CRC is checked and a failed flit is replayed, with retraining after 16 replays in 1 µs. -/
  | ucieFlitRx (m : Nat) (crcOk : Bool)
  /-- CFG_STAGE (R392). A write of a staging word counts distinct words written. -/
  | cfgStage (w : Nat) (v : Word)
  /-- CFG_STAGE_CLEAR (R392). A write clears the staging word count. -/
  | cfgStageClear
  /-- CFG_COMMIT (R393). A write starts the check of the staged configuration block. -/
  | cfgCommit
  /-- CFG_COMMIT_DONE (R395). The commit check ends, and an accepted block makes the device OPERATIONAL. -/
  | cfgCommitDone (ownerRec : List Byte)
  /-- CFG_MBOX_IN_ACK (R435). Tabok releases the inbound mailbox message. -/
  | cfgMboxInAck
  /-- CFG_MBOX_OUT_POST (R435). Tabok posts a mailbox reply. -/
  | cfgMboxOutPost
  /-- SEC_ARB_ADVANCE (R401). A write starts burning anti-rollback fuse bits up to the target. -/
  | secArbAdvance
  /-- SEC_OWNER_BURN (R399). A write burns an owner key hash into a fuse slot. -/
  | secOwnerBurn
  /-- SEC_OWNER_REVOKE (R399). A write revokes an owner key slot. -/
  | secOwnerRevoke
  /-- FUSE_OP_DONE (R399). A fuse operation ends and SEC_FUSE_RESULT reports it. -/
  | fuseOpDone (ok : Bool)
  /-- SEC_VERIFY_GO (R403). A write starts verification of a signed image. -/
  | secVerifyGo
  /-- VERIFY_DONE (R403). Verification ends, and the accepted image is copied, measured or taken in. -/
  | verifyDone (image cert : List Byte)
  /-- SEC_FW_HANDOVER (R405). Old firmware signals hand-over and the cores restart from the new slot. -/
  | secFwHandover
  /-- SEC_FW_ALIVE (R405). Running firmware reports alive, which completes boot or a switch-over. -/
  | secFwAlive
  /-- HANDOVER_TIMEOUT (R405). 20 ms pass in switching without hand-over and the cores are restarted from the new slot. -/
  | handoverTimeout
  /-- ALIVE_TIMEOUT (R405). New firmware writes no SEC_FW_ALIVE within 2 s and the device reverts, or else alerts. -/
  | aliveTimeout
  /-- SECURITY_LIVE_WRITE (R405). During a switch-over the security controller writes LNK_LIVE every 5 ms. -/
  | securityLiveWrite
  /-- SEC_UC_GO (R404). A write starts loading verified microcode into one tile. -/
  | secUcGo
  /-- MICROCODE_LOAD_DONE (R404). The microcode load ends and the tile returns to its former state. -/
  | microcodeLoadDone
  /-- SEC_CAL_APPLY (R404). A write applies verified calibration tables. -/
  | secCalApply
  /-- SEC_ATT_GO (R407). A write requests an attestation report. -/
  | secAttGo
  /-- ATT_REPORT_DONE (R407). The signed report is written and SEC_ATT_STATE becomes 2. -/
  | attReportDone
  /-- TEST_MARK_SUSPECT (R368). A write makes a SEV 2 record and sets TEST_SUSPECT. -/
  | testMarkSuspect
  /-- TEST_MARK_NOTE (R368). A write makes a SEV 0 record. -/
  | testMarkNote
  /-- TEST_DRAIN (R361). A write drains the device: routing is disabled, transmitters are off and MOD_FAULT_N is asserted. -/
  | testDrain
  /-- TEST_PACK_LOAD (R367). A write starts loading and verifying a pattern pack from HBM. -/
  | testPackLoad
  /-- PACK_LOAD_DONE (R367). A pattern pack is accepted into force or refused with a PACK_REJECTED record. -/
  | packLoadDone
  /-- TEST_L_GO (R363). A write starts a lovage run on a tile. -/
  | testLGo (k : Nat)
  /-- TEST_L_ABORT (R365). A write aborts a lovage run. -/
  | testLAbort (k : Nat) (reason : Nat)
  /-- TEST_L_TILE (R369). A write names the slot's tile and returns a completed slot to idle. -/
  | testLTile (k : Nat) (v : Word)
  /-- LOVAGE_TARGET_REACHED (R363). The tile reaches its junction target and the patterns start. -/
  | lovageTargetReached (k : Nat)
  /-- LOVAGE_HEAT_TIMEOUT (R365). The junction target is not reached within 120 s and the run aborts. -/
  | lovageHeatTimeout (k : Nat)
  /-- LOVAGE_RUN_END (R365). The patterns end and the run passes or fails on its digests. -/
  | lovageRunEnd (k : Nat) (digests : List (BitVec 64))
  /-- MONITOR_SAMPLE (R418). An event sample updates a monitor's min, max, last, count and bucket. -/
  | monitorSample
  /-- MONITOR_PERIODIC_SAMPLE (R416). Every MON_PERIOD_US a periodic source is sampled. -/
  | monitorPeriodicSample
  /-- MON_CLEAR (R418). A write clears a monitor. -/
  | monClear (m : Nat)
  /-- MON_CONFIG_WRITE (R418). A write to a monitor's configuration or filter also clears it. -/
  | monConfigWrite (m off : Nat) (v : Word)
  /-- MON_SNAP_GO (R420). A write takes a monitor snapshot now. -/
  | monSnapGo
  /-- LOG_DRAIN_COPY (R422). The next trouble-log record is copied into the drain ring when there is room. -/
  | logDrainCopy
  /-- LOG_DRAIN_EN (R427). A write that sets the drain enable resets the drain indices and starts copying. -/
  | logDrainEn (v : Word)
  /-- LOG_RING_CONS (R427). The log drain advances the drain consumer index. -/
  | logRingCons (v : Word)
  /-- PAIR_LOW_READ (R13). A read of the low word of a 64-bit pair latches its high word. `width` is that of the access, in bytes. -/
  | pairLowRead (off : Nat) (width : Nat := 4)
  /-- REGISTER_WRITE (R14). A write to a register with no row of its own acts by its type, or is refused with a register-access error. -/
  | registerWrite (off width : Nat) (v : Word)
  /-- REG_READ (R434). An I3C command reads one register without side effect. `cmd` is the command byte of the write. -/
  | regRead (off : Nat) (cmd : BitVec 8 := 0x01)
  /-- MBOX_WRITE (R434). An I3C command writes an inbound mailbox message and notifies Tabok. -/
  | mboxWrite (len : Nat) (bytes : List Byte)
  /-- MBOX_READ (R434). An I3C command reads the posted reply and clears CFG_MBOX_OUT_FULL. The controller takes `count`
  bytes, the length among them. -/
  | mboxRead (count : Nat := 258)
  /-- ENTDAA (R433). The I3C controller assigns a dynamic address. -/
  | entdaa (addr : BitVec 7)
  /-- RSTDAA (R433). The I3C controller resets the dynamic address. -/
  | rstdaa
  /-- ENEC (R433). The I3C controller enables the Hot-Join event. -/
  | enec
  /-- DISEC (R433). The I3C controller disables the Hot-Join event. -/
  | disec
  /-- GETPID (R433). The I3C controller reads the provisioned ID. -/
  | getpid
  /-- GETBCR (R433). The I3C controller reads BCR. -/
  | getbcr
  /-- GETDCR (R433). The I3C controller reads DCR. -/
  | getdcr
  /-- GETSTATUS (R433). The I3C controller reads the target status. -/
  | getstatus
  /-- GETMWL (R433). The I3C controller reads the maximum write length. -/
  | getmwl
  /-- GETMRL (R433). The I3C controller reads the maximum read length. -/
  | getmrl
  /-- HOT_JOIN (R433). After MOD_PWRGD, with no dynamic address, the port makes one Hot-Join request. -/
  | hotJoin
  /-- EXTEST (R436). The JTAG instruction drives the sideband pins from the boundary-scan register. -/
  | extest (shift : BoundaryScan)
  /-- IDCODE (R436). The JTAG instruction returns the 32-bit identity. -/
  | idcode
  /-- SAMPLE_PRELOAD (R436). The JTAG instruction samples or preloads the boundary-scan register. -/
  | samplePreload (shift : BoundaryScan)
  /-- CLAMP (R436). The JTAG instruction holds the pins from the boundary register with bypass selected. -/
  | clamp
  /-- HIGHZ (R436). The JTAG instruction places the sideband outputs at high impedance. -/
  | highz
  /-- BYPASS (R436). The JTAG instruction selects the bypass register, by its own opcode or one of no other instruction. -/
  | bypass (opcode : BitVec 8 := 0xFF)
  /-- DBG_ACCESS (R436). Update-DR makes one 32-bit register access through JTAG, refused unless CFG_JTAG_ALLOW is 1. -/
  | dbgAccess (dr : BitVec 64)
  /-- REFCLK100_A_RETURN (R383). REFCLK100_A comes back after a loss, and the domains derived from it leave CLK_DOM_STATE 3 (reference lost), with FTCLK no longer holding its last rate. -/
  | refclk100AReturn
  /-- JTAG_TRST_N (R436). The IEEE 1149.1 test access port is reset, which ends any EXTEST, CLAMP or HIGHZ in force and gives the sideband pins back to the device. -/
  | jtagTrstN
  /-- PRIORITY_FLOW_CONTROL_RX (R279). A priority-based flow control frame received on a storage port pauses or resumes sending on the priorities enabled in ETH_PFC_EN, and the paused cycles are counted in ETH_PFC_PAUSED. -/
  | priorityFlowControlRx (port : Nat) (prios : BitVec 8) (quanta : Nat)
  deriving DecidableEq, Repr

end Sys2Proof
end

