-- ==== Sys2Proof/Config.lean ====
section
/-! DEFINITION. The values that the manual leaves open. Each is an opaque constant without a body, so no proof
can use a value of it. `State.free` counts how many have been used; it says which one comes next and nothing
else (notes/assumptions/1.md). -/

namespace Sys2Proof

/-- The n-th free value, as a number. -/
opaque Config.freeNat : Nat → Nat

/-- The result of a correctly rounded EXP2, LOG2 or table entry (R70, R138, R139) at an argument where the
model's interval arithmetic has not separated the two neighbours at its last precision. No such argument is
known; the value is not chosen (notes/assumptions/12.md). -/
opaque Config.unseparated : Nat → Nat → Bool

end Sys2Proof
end

