-- ==== Sys2Proof/Machine/Bits.lean ====
section
/-! DEFINITION. Bit fields, little-endian images and division of the manual's notation (R8, R9, R17). -/

namespace Sys2Proof.Machine

/-- Bits [hi:lo] of n (R8). -/
def bitsOf (n hi lo : Nat) : Nat := (n >>> lo) % 2 ^ (hi + 1 - lo)

/-- Bit [k] of n (R8). -/
def bitOf (n k : Nat) : Bool := n.testBit k

/-- 1 for true, 0 for false. -/
def b2n (b : Bool) : Nat := if b then 1 else 0

/-- The number whose little-endian image the bytes are (R9). -/
def leNat : List Byte → Nat
  | [] => 0
  | b :: bs => b.toNat + 256 * leNat bs

/-- The little-endian image of n in `len` bytes (R9). -/
def leBytes (n : Nat) : Nat → List Byte
  | 0 => []
  | len + 1 => BitVec.ofNat 8 n :: leBytes (n / 256) len

/-- A structure from its fields, each given by its width and its value, lowest field first. -/
def packFields : List (Nat × Nat) → Nat
  | [] => 0
  | (w, v) :: fs => v % 2 ^ w + 2 ^ w * packFields fs

/-- ceil(n / d) (R17). -/
def ceilDiv (n d : Nat) : Nat := (n + d - 1) / d

/-- n as a two's complement integer of width w. -/
def toSigned (w n : Nat) : Int :=
  if n % 2 ^ w < 2 ^ (w - 1) then (n % 2 ^ w : Nat) else (n % 2 ^ w : Nat) - (2 ^ w : Nat)

/-- The low w bits of an integer, two's complement. -/
def ofSigned (w : Nat) (z : Int) : Nat := (z % (2 ^ w : Nat)).toNat

/-- n with bits [hi:lo] replaced by v. -/
def setBits (n hi lo v : Nat) : Nat :=
  n - (bitsOf n hi lo) * 2 ^ lo + v % 2 ^ (hi + 1 - lo) * 2 ^ lo

/-- The number of ones among the low w bits of n. -/
def popCount (n : Nat) : Nat → Nat
  | 0 => 0
  | w + 1 => popCount n w + b2n (n.testBit w)

/-- The bits of n below w that are set, in ascending order. -/
def onesOf (n w : Nat) : List Nat := (List.range w).filter (fun k => n.testBit k)

/-- `a` cleared of the bits of `b`, within w bits. -/
def clearBits (w a b : Nat) : Nat := (a % 2 ^ w) &&& ((2 ^ w - 1) ^^^ (b % 2 ^ w))

/-- An element placed in an ascending list, before the first that it does not follow. -/
def placeIn {α : Type} (le : α → α → Bool) (x : α) : List α → List α
  | [] => [x]
  | y :: l => if le x y then x :: y :: l else y :: placeIn le x l

/-- The elements in ascending order; those that are equal keep their order. -/
def sortBy {α : Type} (le : α → α → Bool) (l : List α) : List α := l.foldr (placeIn le) []

end Sys2Proof.Machine
end

