-- ==== Sys2Proof/Machine/Formats.lean ====
section
/-! DEFINITION. The Vf, Vi4 and integer formats, rounding and conversions (R53 to R68). A value is an exact
rational, or none for NaN. A format is named by its code of R61. -/

namespace Sys2Proof.Machine

/-- The exact value of an element; none is NaN (R55). -/
abbrev Val := Option Rat

/-- Exponent width, fraction width and bias (R54). -/
structure FpFmt where
  E : Nat
  M : Nat
  B : Nat
  deriving DecidableEq, Repr

/-- 2 to the integer power k. -/
def pow2 : Int → Rat
  | .ofNat n => ((2 ^ n : Nat) : Rat)
  | .negSucc n => mkRat 1 (2 ^ (n + 1))

/-- The parameters of R54 for the format codes of R61 that are floating-point. -/
def fpOf : Nat → Option FpFmt
  | 0 => some ⟨8, 23, 127⟩
  | 1 => some ⟨6, 9, 31⟩
  | 2 => some ⟨4, 3, 7⟩
  | 3 => some ⟨5, 2, 15⟩
  | 5 => some ⟨8, 39, 127⟩
  | _ => none

/-- Vf32. -/
def vf32 : FpFmt := ⟨8, 23, 127⟩

/-- Vf48m. -/
def vf48m : FpFmt := ⟨8, 39, 127⟩

/-- Format codes that are not reserved (R61). -/
def fmtValid (f : Nat) : Bool := f ≤ 5 || (8 ≤ f && f ≤ 11)

/-- The integer formats (R61). -/
def fmtIsInt (f : Nat) : Bool := 8 ≤ f && f ≤ 11

/-- Bits of one element. -/
def fmtBits : Nat → Nat
  | 0 => 32 | 1 => 16 | 2 => 8 | 3 => 8 | 4 => 4 | 5 => 48 | 8 => 32 | 9 => 32 | 10 => 16 | _ => 8

/-- Lowest and highest value of an integer format. -/
def intRange : Nat → Int × Int
  | 8 => (-2 ^ 31, 2 ^ 31 - 1)
  | 9 => (0, 2 ^ 32 - 1)
  | 10 => (0, 2 ^ 16 - 1)
  | _ => (0, 2 ^ 8 - 1)

/-- The NaN code of a format: sign bit 1, every other bit 0 (R55). -/
def nanCode (f : FpFmt) : Nat := 2 ^ (f.E + f.M)

/-- The Vf32 NaN code (R56). -/
def nan32 : Nat := 0x80000000

/-- The value of a code (R53). -/
def fpValue (f : FpFmt) (c : Nat) : Val :=
  let frac := bitsOf c (f.M - 1) 0
  let e := bitsOf c (f.E + f.M - 1) f.M
  let neg := bitOf c (f.E + f.M)
  if e = 0 ∧ frac = 0 then (if neg then none else some 0)
  else
    let mag : Rat := if e = 0 then frac * pow2 (1 - f.B - f.M) else (2 ^ f.M + frac : Nat) * pow2 ((e : Int) - f.B - f.M)
    some (if neg then -mag else mag)

/-- The value of a code of any format but Vi4 (R53, R61). -/
def fmtValue (f c : Nat) : Val :=
  match fpOf f with
  | some p => fpValue p c
  | none => if f = 8 then some (toSigned 32 c) else some ((c % 2 ^ fmtBits f : Nat) : Int)

/-- The integer of a Vi4 code (R59). -/
def vi4Int (c : Nat) : Int := toSigned 4 c

/-- Code times the Vf8b scale of its block (R67). -/
def vi4Value (code scale : Nat) : Val := (fpValue ⟨5, 2, 15⟩ scale).map (fun s => (vi4Int code : Rat) * s)

/-- floor(log2 a) for a > 0. -/
def floorLog2 (a : Rat) : Int :=
  let k : Int := (Nat.log2 a.num.toNat : Int) - Nat.log2 a.den
  if a < pow2 k then k - 1 else k

/-- Whether the magnitude goes up by one last place: n kept, d discarded (R63, R65). Modes: 0 RNE, 1 SR, 2 RTZ (R62). -/
def roundsUp (mode r rbits n : Nat) (d : Rat) : Bool :=
  match mode with
  | 0 => 1 < 2 * d || (2 * d == 1 && n % 2 == 1)
  | 1 => (r : Int) < (d * (2 ^ rbits : Nat) + mkRat 1 2).floor
  | _ => false

/-- round_to of R63: the code, and whether it saturated. In units of the last place of the smallest exponent the
code of a finite magnitude is (e + B − 1) · 2^M + n, a carry out of the fraction included; vmax is the code of
all ones. -/
def roundTo (f : FpFmt) (mode r rbits : Nat) (x : Rat) : Nat × Bool :=
  if x = 0 then (0, false) else
  let a := if x < 0 then -x else x
  let e := max (floorLog2 a) (1 - f.B)
  let q := a * pow2 (f.M - e)
  let n := q.floor.toNat
  let n := if roundsUp mode r rbits n (q - (n : Rat)) then n + 1 else n
  let mag := (e + f.B - 1).toNat * 2 ^ f.M + n
  let top := 2 ^ (f.E + f.M)
  let sgn := if x < 0 then top else 0
  if mag ≥ top then (sgn + (top - 1), true)
  else if mag = 0 then (0, false) else (sgn + mag, false)

/-- rne32 of R115: a value into Vf32 with RNE. -/
def rne32 (x : Rat) : Nat × Bool := roundTo vf32 0 0 0 x

/-- Rounded to an integer: R63 with M = 0 and the last place 1 (R67). -/
def roundInt (mode r rbits : Nat) (x : Rat) : Int :=
  let a := if x < 0 then -x else x
  let n := a.floor.toNat
  let n := if roundsUp mode r rbits n (a - (n : Rat)) then n + 1 else n
  if x < 0 then -n else n

/-- An integer clamped to a range, and whether it was. -/
def clampTo (lo hi z : Int) : Int × Bool := if z < lo then (lo, true) else if hi < z then (hi, true) else (z, false)

/-- A code written by an operation, its overflow and the cause of its NaN event, 0 for none (R64, R72, R75). -/
structure Conv where
  code : Nat
  ov : Bool := false
  cause : Nat := 0
  deriving DecidableEq, Repr

/-- Conversion of a value into format `f` (R67, R68). `fromInt` marks a source of an integer format, which rounds
to a Vf format with RNE. `scale` is the Vf8b scale of the element's block when `f` is Vi4. To Vi4, sources that R67's table does
not list convert as Vf32 does (the model's choice; notes/assumptions/113.md). -/
def convertTo (f mode r rbits scale : Nat) (fromInt : Bool) (v : Val) : Conv :=
  match fpOf f with
  | some p =>
    match v with
    | none => ⟨nanCode p, false, 4⟩
    | some x => let (c, ov) := roundTo p (if fromInt then 0 else mode) r rbits x; ⟨c, ov, 0⟩
  | none =>
    if f = 4 then
      match v, fpValue ⟨5, 2, 15⟩ scale with
      | some x, some s =>
        if s = 0 then ⟨0, false, 5⟩
        else let (z, ov) := clampTo (-8) 7 (roundInt mode r rbits (x / s)); ⟨ofSigned 4 z, ov, 0⟩
      | _, _ => ⟨0, false, 5⟩
    else
      match v with
      | none => ⟨0, false, 5⟩
      | some x =>
        let (lo, hi) := intRange f
        let (z, ov) := clampTo lo hi (roundInt mode r rbits x)
        ⟨ofSigned (fmtBits f) z, ov, 0⟩

/-- A finished Vf32 code narrowed to the destination's format under its rounding code (R62, R113). -/
def narrowTo (f mode r rbits scale : Nat) (code32 : Nat) : Conv :=
  if f = 0 then ⟨code32, false, 0⟩ else convertTo f mode r rbits scale false (fpValue vf32 code32)

end Sys2Proof.Machine
end

