-- ==== Sys2Proof/Machine/Functions.lean ====
section
/-! DEFINITION. The correctly rounded functions of R70 and the tables of R138 and R139. Each result is R63 with
RNE applied to the exact mathematical value. Roots are exact up to a sticky bit; EXP2, LOG2 and the tables are
enclosed in an interval of 160 fractional bits, whose two ends round alike. Where they would not,
`Config.unseparated` decides (notes/assumptions/12.md). -/

namespace Sys2Proof.Machine

/-- Fractional bits of the enclosures. -/
def fracBits : Nat := 160

/-- floor(ln 2 · 2^160). -/
def ln2Down : Nat := 1013035739299659071135698605846798551586536899366

/-- floor(π · 2^160). -/
def piDown : Nat := 4591442807048218921384805199743311128454155024418

/-- floor(√(π/2) · 2^160). -/
def sqrtHalfPiDown : Nat := 1831720663776571708077864509334038561965985101106

/-- An enclosure of a value that is not negative: lo ≤ value · 2^160 ≤ hi. -/
structure Encl where
  lo : Nat
  hi : Nat
  deriving DecidableEq, Repr

/-- n >> 160, rounded up. -/
def shiftUp (n : Nat) : Nat := (n + (2 ^ fracBits - 1)) >>> fracBits

/-- The enclosure of a product. -/
def enclMul (a b : Encl) : Encl := ⟨(a.lo * b.lo) >>> fracBits, shiftUp (a.hi * b.hi)⟩

/-- The enclosure of a quotient by a positive integer. -/
def enclDivNat (a : Encl) (d : Nat) : Encl := ⟨a.lo / d, ceilDiv a.hi d⟩

/-- The enclosure of a sum. -/
def enclAdd (a b : Encl) : Encl := ⟨a.lo + b.lo, a.hi + b.hi⟩

/-- The enclosure of a rational that is not negative. -/
def enclRat (x : Rat) : Encl :=
  let n := x.num.toNat * 2 ^ fracBits
  ⟨n / x.den, ceilDiv n x.den⟩

/-- The value 1. -/
def enclOne : Encl := ⟨2 ^ fracBits, 2 ^ fracBits⟩

/-- Σ t_k, where t_{k+1} = t_k · x / d(k + 1), over `n` further terms; the last term bounds the remainder. -/
def enclSeries (x : Encl) (d : Nat → Nat) : Nat → Nat → Encl → Encl → Encl
  | 0, _, t, acc => ⟨acc.lo, acc.hi + 2 * t.hi + 2⟩
  | n + 1, k, t, acc =>
    let t' := enclDivNat (enclMul t x) (d (k + 1))
    enclSeries x d n (k + 1) t' (enclAdd acc t')

/-- e^x for 0 ≤ x < 8. -/
def enclExp (x : Encl) : Encl := enclSeries x (fun k => k) 100 0 enclOne enclOne

/-- Σ x^(2k+1) / (2k + 1), which is atanh x, for 0 ≤ x ≤ 1/3: `pw` is x^(2k+1). -/
def enclAtanh (xx : Encl) : Nat → Nat → Encl → Encl → Encl
  | 0, _, pw, acc => ⟨acc.lo, acc.hi + 2 * pw.hi + 2⟩
  | n + 1, k, pw, acc => enclAtanh xx n (k + 1) (enclMul pw xx) (enclAdd acc (enclDivNat pw (2 * k + 1)))

/-- Both ends of an enclosure rounded into Vf32 after multiplication by `sc` and addition of `off`; `tag` names
the argument of a free choice between ends that differ. -/
def roundEncl (tag : Nat) (sc off : Rat) (e : Encl) : Nat × Bool :=
  let a := rne32 (mkRat e.lo (2 ^ fracBits) * sc + off)
  let b := rne32 (mkRat e.hi (2 ^ fracBits) * sc + off)
  if a = b then a else if Config.unseparated tag a.1 then a else b

/-- The integer square root, one bit at a time from bit `k`. -/
def isqrtFrom (n : Nat) : Nat → Nat → Nat
  | 0, r => if (r + 1) * (r + 1) ≤ n then r + 1 else r
  | k + 1, r =>
    let r' := r + 2 ^ (k + 1)
    isqrtFrom n k (if r' * r' ≤ n then r' else r)

/-- floor(√n). -/
def isqrt (n : Nat) : Nat := isqrtFrom n (Nat.log2 n / 2 + 1) 0

/-- √x correctly rounded, x > 0: 32 or more exact bits and a sticky bit (R70). -/
def sqrtRound (x : Rat) : Nat × Bool :=
  let k := ((70 - floorLog2 x) / 2 + 1).toNat
  let y := x * (4 ^ k : Nat)
  let s := isqrt y.floor.toNat
  if ((s * s : Nat) : Rat) = y then rne32 (mkRat s (2 ^ k)) else rne32 (mkRat (2 * s + 1) (2 ^ (k + 1)))

/-- 2^x correctly rounded (R70). Beyond ±400 the result has saturated or is +0. -/
def exp2Round (x : Rat) : Nat × Bool :=
  if 400 < x then rne32 (pow2 400) else if x < -400 then (0, false)
  else
    let i := x.floor
    let f := x - (i : Rat)
    if f = 0 then rne32 (pow2 i)
    else
      let ln2 : Encl := ⟨ln2Down, ln2Down + 1⟩
      roundEncl 1 (pow2 i) 0 (enclExp (enclMul (enclRat f) ln2))

/-- log2 x correctly rounded, x > 0 (R70): 2 · atanh((m − 1)/(m + 1)) / ln 2 + e for x = m · 2^e. -/
def log2Round (x : Rat) : Nat × Bool :=
  let e := floorLog2 x
  let m := x * pow2 (-e)
  if m = 1 then rne32 e
  else
    let z := enclRat ((m - 1) / (m + 1))
    let at2 := enclAtanh (enclMul z z) 60 0 z ⟨0, 0⟩
    let q : Encl := ⟨2 * at2.lo * 2 ^ fracBits / (ln2Down + 1), ceilDiv (2 * at2.hi * 2 ^ fracBits) ln2Down⟩
    roundEncl 2 1 e q

/-- Whether 2Φ(y) − 1 lies above the target: y + y³/3 + y⁵/15 + … against target · √(π/2) · e^(y²/2). Every
target lies below 2Φ(4) − 1. -/
def normalAbove (tag : Nat) (y target : Rat) : Bool :=
  if 4 ≤ y then true else
  let yy := enclRat (y * y)
  let s := enclSeries yy (fun k => 2 * k + 1) 100 0 (enclRat y) (enclRat y)
  let t := enclMul (enclMul (enclRat target) ⟨sqrtHalfPiDown, sqrtHalfPiDown + 1⟩) (enclExp (enclRat (y * y / 2)))
  if t.hi < s.lo then true else if s.hi < t.lo then false else Config.unseparated 3 tag

/-- The value half way between positive Vf32 code c and the next. -/
def midAbove (c : Nat) : Rat := ((fpValue vf32 c).getD 0 + (fpValue vf32 (c + 1)).getD 0) / 2

/-- The smallest code below 2^(k+1) + c whose upper midpoint lies above the target, one bit at a time: every code
below the answer has its upper midpoint at or below it. -/
def normalSearch (tag : Nat) (target : Rat) : Nat → Nat → Nat
  | 0, c => c
  | k + 1, c =>
    let c' := c + 2 ^ k
    normalSearch tag target k (if normalAbove tag (midAbove (c' - 1)) target then c else c')

/-- T[i] of R138 as a Vf32 code: magnitudes lie below 4, whose code is 0x4080_0000. -/
def normalT (i : Nat) : Nat :=
  if i = 0 then 0
  else if i = 4096 then normalSearch i (1 - mkRat 1 8192) 31 0
  else normalSearch i (mkRat i 4096) 31 0

/-- Σ x^k / (2k)! over even and over odd k, x the square of the angle (R139). -/
def cosSums (x : Encl) : Nat → Nat → Encl → Encl → Encl → Encl × Encl
  | 0, _, t, ev, od => (⟨ev.lo, ev.hi + t.hi + 2⟩, ⟨od.lo, od.hi + t.hi + 2⟩)
  | n + 1, k, t, ev, od =>
    let t' := enclDivNat (enclMul t x) ((2 * k + 1) * (2 * k + 2))
    if k % 2 = 0 then cosSums x n (k + 1) t' ev (enclAdd od t') else cosSums x n (k + 1) t' (enclAdd ev t') od

/-- rne32(cos(πj/2048)) for 0 ≤ j ≤ 1024, a Vf32 code. -/
def cosQuarter (j : Nat) : Nat :=
  if j = 0 then 0x3F800000
  else if j = 1024 then 0
  else
    let th : Encl := ⟨piDown * j / 2048, ceilDiv ((piDown + 1) * j) 2048⟩
    let (ev, od) := cosSums (enclMul th th) 40 0 enclOne enclOne ⟨0, 0⟩
    (roundEncl 4 1 0 ⟨ev.lo - od.hi, ev.hi - od.lo⟩).1

/-- K[i] = rne32(cos(2πi/4096)) of R139, a Vf32 code. -/
def cosK (i : Nat) : Nat :=
  let j := if i % 4096 ≤ 2048 then i % 4096 else 4096 - i % 4096
  if j ≤ 1024 then cosQuarter j
  else
    let c := cosQuarter (2048 - j)
    if c = 0 then 0 else c + 0x80000000

end Sys2Proof.Machine
end

