-- ==== Sys2Proof/Machine/Sorrel.lean ====
section
/-! DEFINITION. The Sorrel generator, its salts and draws, and the digest contribution of an element
(R130 to R139, R173). -/

namespace Sys2Proof.Machine

/-- Addition modulo 2^32 (R131). -/
def add32 (a b : Nat) : Nat := (a + b) % 2 ^ 32

/-- Rotation left within 32 bits (R131). -/
def rotl32 (x n : Nat) : Nat := (x * 2 ^ n) % 2 ^ 32 + x / 2 ^ (32 - n)

/-- C of R132. -/
def sorrelC : Nat → Nat
  | 0 => 0x5A1D3C07 | 1 => 0x2E94B6C1 | 2 => 0x71F00D5B | 3 => 0x4C639A2E
  | 4 => 0x1B8E7F49 | 5 => 0x63D21A85 | 6 => 0x3F07C4B3 | 7 => 0x0A6BE91D
  | 8 => 0x56C92F70 | 9 => 0x29A4D813 | 10 => 0x7E156B8C | _ => 0x4D38F2A6

/-- RA of R132. -/
def sorrelRA (i : Nat) : Nat := match i % 4 with | 0 => 16 | 1 => 8 | 2 => 13 | _ => 24

/-- RB of R132. -/
def sorrelRB (i : Nat) : Nat := match i % 4 with | 0 => 11 | 1 => 5 | 2 => 20 | _ => 7

/-- The four state words. -/
structure SorrelState where
  x0 : Nat
  x1 : Nat
  x2 : Nat
  x3 : Nat
  deriving DecidableEq, Repr

/-- One round of R131. -/
def sorrelRound (s : SorrelState) (i : Nat) : SorrelState :=
  let x0 := add32 (add32 s.x0 s.x1) (sorrelC i)
  let x3 := rotl32 (s.x3 ^^^ x0) (sorrelRA i)
  let x2 := add32 s.x2 x3
  let x1 := rotl32 (s.x1 ^^^ x2) (sorrelRB i)
  ⟨x0, x1, x2, x3⟩

/-- The injection of the key before round 4j (R131). -/
def sorrelInject (k0 k1 : Nat) (s : SorrelState) (j : Nat) : SorrelState :=
  ⟨add32 s.x0 k0, add32 s.x1 k1, add32 s.x2 (k0 ^^^ k1), add32 s.x3 j⟩

/-- The Sorrel function: twelve rounds, four injections (R131). -/
def sorrel (key salt block : Nat) : Nat :=
  let k0 := key % 2 ^ 32
  let k1 := key / 2 ^ 32 % 2 ^ 32
  let s0 : SorrelState := ⟨block % 2 ^ 32, block / 2 ^ 32 % 2 ^ 32, salt % 2 ^ 32, salt / 2 ^ 32 % 2 ^ 32⟩
  let four (s : SorrelState) (j : Nat) : SorrelState :=
    sorrelRound (sorrelRound (sorrelRound (sorrelRound (sorrelInject k0 k1 s j) (4 * j)) (4 * j + 1)) (4 * j + 2)) (4 * j + 3)
  let s := sorrelInject k0 k1 (four (four (four s0 0) 1) 2) 3
  s.x0 + s.x1 * 2 ^ 32 + s.x2 * 2 ^ 64 + s.x3 * 2 ^ 96

/-- The salt of a tensor (R134). -/
def tensorSalt (tensorId saltBase step : Nat) : Nat := tensorId * 2 ^ 40 + (saltBase + step) % 2 ^ 40

/-- The b bits of the element at logical linear index e (R136). -/
def elementBits (key salt e b : Nat) : Nat :=
  let n := 128 / b
  (sorrel key salt (e / n) >>> (e % n * b)) % 2 ^ b

/-- Normal by table (R138), a Vf32 code. -/
def normalTable (w : Nat) : Nat :=
  let j : Nat := w / 2 ^ 19 % 4096
  let f : Nat := w % 2 ^ 19
  let t0 := (fpValue vf32 (normalT j)).getD 0
  let t1 := (fpValue vf32 (normalT (j + 1))).getD 0
  let m := (rne32 (t0 + (t1 - t0) * mkRat (f : Int) (2 ^ 19))).1
  if w / 2 ^ 31 % 2 = 1 ∧ m ≠ 0 then m + 0x80000000 else m

/-- Normal by transform (R139) of element e from its draw, a Vf32 code. -/
def normalTransform (out e : Nat) : Nat :=
  let j := e % 4
  let h := j / 2
  let wa := out >>> (64 * h) % 2 ^ 32
  let wb := out >>> (64 * h + 32) % 2 ^ 32
  let l := (fpValue vf32 (log2Round (mkRat ((wa / 256 + 1 : Nat) : Int) (2 ^ 24))).1).getD 0
  let ln4 := (fpValue vf32 0x3FB17218).getD 0
  let p := (fpValue vf32 (rne32 (-l * ln4)).1).getD 0
  let r := if p = 0 then 0 else (fpValue vf32 (sqrtRound p).1).getD 0
  let q := wb / 2 ^ 20
  let k := (fpValue vf32 (cosK (if j % 2 = 0 then q else (q + 3072) % 4096))).getD 0
  (rne32 (r * k)).1

/-- The element of a DRAW destination of format `f` under distribution `dist` (R137). -/
def drawElement (key salt e dist f : Nat) : Nat :=
  match dist with
  | 0 => elementBits key salt e (fmtBits f)
  | 1 => (rne32 (mkRat ((elementBits key salt e 32 / 256 : Nat) : Int) (2 ^ 24))).1
  | 2 => normalTable (elementBits key salt e 32)
  | _ => normalTransform (sorrel key salt (e / 4)) e

/-- digest_mix of R173. -/
def digestMix (tensorId e fmt bits : Nat) : Nat :=
  sorrel (fmt % 16 * 2 ^ 60 + bits) tensorId e % 2 ^ 64

end Sys2Proof.Machine
end

