-- ==== Sys2Proof/Machine/Arith.lean ====
section
/-! DEFINITION. The element operations of R69 to R71 on exact values, each rounded once into Vf32 (or Vf48m), with
the cause of a NaN result (R75). Also the tree and the running combine of R115. -/

namespace Sys2Proof.Machine

/-- An element of an operation before it is narrowed: NaN with its cause, or a Vf32 code. -/
def nanOut (cause : Nat) : Conv := ⟨nan32, false, cause⟩

/-- An exact result rounded once to Vf32. -/
def exact32 (x : Rat) : Conv := let (c, ov) := rne32 x; ⟨c, ov, 0⟩

/-- NaN in, NaN out for two operands (R69). -/
def arith2 (a b : Val) (f : Rat → Rat → Conv) : Conv :=
  match a, b with
  | some x, some y => f x y
  | _, _ => nanOut 4

/-- NaN in, NaN out for one operand. -/
def arith1 (a : Val) (f : Rat → Conv) : Conv :=
  match a with
  | some x => f x
  | none => nanOut 4

def addOp (a b : Val) : Conv := arith2 a b (fun x y => exact32 (x + y))
def subOp (a b : Val) : Conv := arith2 a b (fun x y => exact32 (x - y))
def mulOp (a b : Val) : Conv := arith2 a b (fun x y => exact32 (x * y))

/-- A × B + C (R69). -/
def fmaOp (a b c : Val) : Conv :=
  match c with
  | some z => arith2 a b (fun x y => exact32 (x * y + z))
  | none => nanOut 4

/-- max or min under R71: `fcmp` is the forerunner-compare bit in force. -/
def pickOp (isMax fcmp : Bool) (a b : Val) : Conv :=
  match a, b with
  | some x, some y => exact32 (if isMax then (if x < y then y else x) else (if y < x then y else x))
  | some x, none => if fcmp then exact32 x else nanOut 4
  | none, some y => if fcmp then exact32 y else nanOut 4
  | none, none => nanOut 4

/-- Divide: any divisor of +0 is invalid (R69). -/
def divOp (a b : Val) : Conv := arith2 a b (fun x y => if y = 0 then nanOut 1 else exact32 (x / y))

/-- A rounded result of R70. -/
def rounded (r : Nat × Bool) : Conv := ⟨r.1, r.2, 0⟩

def rcpOp (a : Val) : Conv := arith1 a (fun x => if x = 0 then nanOut 1 else exact32 (1 / x))
def sqrtOp (a : Val) : Conv :=
  arith1 a (fun x => if x < 0 then nanOut 2 else if x = 0 then ⟨0, false, 0⟩ else rounded (sqrtRound x))
def rsqrtOp (a : Val) : Conv := arith1 a (fun x => if x ≤ 0 then nanOut 2 else rounded (sqrtRound (1 / x)))
def exp2Op (a : Val) : Conv := arith1 a (fun x => rounded (exp2Round x))
def log2Op (a : Val) : Conv := arith1 a (fun x => if x ≤ 0 then nanOut 3 else rounded (log2Round x))

/-- w × a + b rounded once to Vf48m (R69, R124). -/
def upd48Op (w a b : Val) : Conv :=
  match w, a, b with
  | some x, some y, some z => let (c, ov) := roundTo vf48m 0 0 0 (x * y + z); ⟨c, ov, 0⟩
  | _, _, _ => ⟨nanCode vf48m, false, 4⟩

/-- The predicate of CMP (R84, R69): 0 less, 1 less-or-equal, 2 equal, 3 not-equal, 4 greater. -/
def cmpOp (sel : Nat) (a b : Val) : Bool :=
  match a, b with
  | some x, some y =>
    match sel with
    | 0 => x < y
    | 1 => x ≤ y
    | 2 => x = y
    | 3 => x ≠ y
    | _ => y < x
  | _, _ => sel = 3

/-- Integer operations modulo 2^w (R452). -/
def iaddOp (w : Nat) (a b : Int) : Nat := ofSigned w (a + b)
def iandOp (w : Nat) (a b : Int) : Nat := (ofSigned 64 a &&& ofSigned 64 b) % 2 ^ w

/-- ISHIFT of the w-bit code a by an unsigned amount n (R452): IMM[0] right, IMM[1] arithmetic. -/
def ishiftOp (w imm a n : Nat) : Nat :=
  let a := a % 2 ^ w
  if imm % 2 = 0 then (if n ≥ w then 0 else a * 2 ^ n % 2 ^ w)
  else if imm / 2 % 2 = 1 then ofSigned w (toSigned w a / (2 ^ min n w : Nat))
  else if n ≥ w then 0 else a / 2 ^ n

/-- A partial result of a fused reduction: a Vf32 value, or (n, mean, m2) of R115. Values are those of Vf32 codes;
the second value stays +0 for maximum, sum and sum of squares. -/
structure Part where
  n : Nat
  v : Val
  m2 : Val
  ov : Bool
  deriving DecidableEq, Repr

/-- The value of a Vf32 result. -/
def val32 (c : Conv) : Val := fpValue vf32 c.code

/-- The quantities a fused reduction forms (R115). -/
inductive Quantity
  | rowMax
  | rowSum
  | sumSquares
  | meanVar
  deriving DecidableEq, Repr

/-- The leaf of element x (R115). -/
def leafOf (q : Quantity) (x : Val) : Part :=
  match q with
  | .sumSquares => let c := mulOp x x; ⟨1, val32 c, some 0, c.ov⟩
  | .meanVar => match x with
    | some y => ⟨1, some y, some 0, false⟩
    | none => ⟨1, none, none, false⟩
  | _ => ⟨1, x, some 0, false⟩

/-- Combine of two parts that are present (R115). -/
def combineParts (q : Quantity) (fcmp : Bool) (a b : Part) : Part :=
  match q with
  | .rowMax => ⟨a.n + b.n, val32 (pickOp true fcmp a.v b.v), some 0, a.ov || b.ov⟩
  | .rowSum | .sumSquares => let c := addOp a.v b.v; ⟨a.n + b.n, val32 c, some 0, a.ov || b.ov || c.ov⟩
  | .meanVar =>
    match a.v, a.m2, b.v, b.m2 with
    | some ma, some qa, some mb, some qb =>
      let n := a.n + b.n
      let d := mb - ma
      let mean := exact32 (ma + d * (b.n : Rat) / (n : Rat))
      let m2 := exact32 (qa + qb + d * d * (a.n : Rat) * (b.n : Rat) / (n : Rat))
      ⟨n, val32 mean, val32 m2, a.ov || b.ov || mean.ov || m2.ov⟩
    | _, _, _, _ => ⟨a.n + b.n, none, none, a.ov || b.ov⟩

/-- combine(absent, y) and combine(y, absent) give y (R115). -/
def combineOpt (q : Quantity) (fcmp : Bool) : Option Part → Option Part → Option Part
  | none, b => b
  | a, none => a
  | some a, some b => some (combineParts q fcmp a b)

/-- One level of the tree: neighbours combined pair by pair. -/
def treeLevel (q : Quantity) (fcmp : Bool) : List (Option Part) → List (Option Part)
  | a :: b :: t => combineOpt q fcmp a b :: treeLevel q fcmp t
  | t => t

/-- The pairwise tree over a chunk of 2^levels entries. -/
def treeOf (q : Quantity) (fcmp : Bool) : Nat → List (Option Part) → Option Part
  | 0, l => l.headD none
  | k + 1, l => treeOf q fcmp k (treeLevel q fcmp l)

/-- Chunks of w values, the last padded with absent entries (R115); `fuel` bounds the number of chunks. -/
def chunksOf (w : Nat) : Nat → List (Option Part) → List (List (Option Part))
  | 0, _ => []
  | fuel + 1, l => if l.isEmpty then [] else
      let c := l.take w
      (c ++ List.replicate (w - c.length) none) :: chunksOf w fuel (l.drop w)

/-- fused() of R115: `lw` is log2 of the logical vector width W. -/
def fusedTree (q : Quantity) (fcmp : Bool) (lw : Nat) (start : Option Part) (xs : List Val) : Option Part :=
  (chunksOf (2 ^ lw) xs.length (xs.map (fun x => some (leafOf q x)))).foldl
    (fun run c => combineOpt q fcmp run (treeOf q fcmp lw c)) start

/-- The running combine of REDUCE with AXIS 1 (R117). -/
def fusedRun (q : Quantity) (fcmp : Bool) (xs : List Val) : Option Part :=
  xs.foldl (fun run x => combineOpt q fcmp run (some (leafOf q x))) none

/-- A value of Vf32 as its code. -/
def code32 (v : Val) : Nat := match v with | some x => (rne32 x).1 | none => nan32

/-- The finish of R115: the codes the quantity contributes to C, and its overflow. -/
def finishPart (q : Quantity) (p : Option Part) : List Nat × Bool :=
  match p with
  | none => ([], false)
  | some p =>
    match q with
    | .meanVar =>
      match p.m2 with
      | some m => let c := exact32 (m / (p.n : Rat)); ([code32 p.v, c.code], p.ov || c.ov)
      | none => ([code32 p.v, nan32], p.ov)
    | _ => ([code32 p.v], p.ov)

/-- The quantities of FUSE or FN value f, in the column order of R116. -/
def quantitiesOf : Nat → List Quantity
  | 1 => [.rowMax, .rowSum]
  | 2 => [.sumSquares]
  | 3 => [.meanVar]
  | _ => []

end Sys2Proof.Machine
end

