-- ==== Sys2Proof/Machine/RegNames.lean ====
section
/-! DEFINITION. The names of the registers of the window (R266): one constructor for each field of a register
table, a 64-bit pair (R13) as one name. Written from the tables; Sys2Proof/Machine/Window.lean places them.
A SAT field holds its sticky overflow bit above its count (R413). -/

namespace Sys2Proof.Machine

/-- The registers of the tables, under the manual's names. -/
inductive Reg
  | CLK_RC
  | CLK_FT
  | CLK_RC_BOUND
  | CLK_FT_SYNCED
  | CLK_FT_MASTER
  | CLK_STEP_LIMIT
  | CLK_BAD_ADVANCE
  | CLK_BAD_SET
  | CLK_RC_SET
  | CLK_ARM_COORD
  | CLK_ARM_KIND
  | CLK_ARM_CTX
  | CLK_ARM_ACTION
  | CLK_ARM_SLOT
  | CLK_ARM_GO
  | CLK_ARM_CANCEL
  | CLK_RC_SET_GO
  | CLK_ARM_RES_SLOT
  | CLK_ARM_RES_CODE
  | CLK_ARM_FREE
  | TILE_PHYS_X
  | TILE_PHYS_Y
  | TILE_STATE
  | TILE_FOLDED
  | TILE_LOG_A
  | TILE_LOG_B
  | TILE_CTX_EN
  | TILE_HALTED
  | TILE_HALT
  | TILE_RESUME
  | TILE_MALFORMED
  | TILE_BOUNDS
  | TILE_PEN_OVF
  | TILE_LAND_REJECT
  | TILE_TS_BASE
  | TILE_TS_LIMIT
  | TILE_GS_BASE
  | TILE_GS_LIMIT
  | TILE_OPD_BASE
  | TILE_OPD_LIMIT
  | TILE_PEN_MASK
  | TILE_LAND_MASK
  | TILE_STREAM_BASE
  | TILE_DIG_MASK
  | TILE_OP_HEAD
  | TILE_OP_WINDOW
  | TILE_CTX_OVF
  | TILE_PEN_COUNT
  | TILE_PEN_SEL
  | TILE_PEN_VAL
  | TILE_PEN_WRITE
  | TILE_LAND_COUNT
  | TILE_LAND_BASE
  | TILE_DIG
  | TILE_SRL_KEY
  | TILE_SRL_SALT
  | TILE_SRL_STEP
  | TILE_FOLD_VIEW
  | TILE_FOLD_BACK
  | TILE_FOLD_TS_ON
  | TILE_FOLD_GS_ON
  | TILE_FOLD_TS_AT
  | TILE_FOLD_GS_AT
  | TILE_FOLD_TB_OWNER
  | HBM_STACK_STATE
  | HBM_PC_RETIRED
  | HBM_RETIRE_PC
  | HBM_RETIRE_GO
  | HBM_RETIRE_RESULT
  | HBM_MIGRATE_LEFT
  | HBM_CE_THRESH
  | HBM_CE_OVER
  | HBM_UE_SEEN
  | HBM_EVICT_FAIL
  | HBM_MIGRATE_UE
  | HBM_PATROL_PASSES
  | HBM_WCB_MERGED
  | HBM_WCB_RMW
  | HBM_PC_CE
  | HBM_PC_UE
  | HBM_CAP
  | HBM_RET_MAX
  | HBM_READY_MASK
  | HBM_BEYOND_CAP
  | TILE_DMA_ACT
  | TILE_DMA_IDX0
  | TILE_DMA_IDX1
  | TILE_DMA_IDX2
  | TILE_DMA_RUN_OFF
  | TILE_DMA_ACT_VALID
  | TILE_DMA_SHD_VALID
  | TILE_DMA_PAUSED
  | TILE_DMA_ACT_CTX
  | TILE_DMA_SHD_CTX
  | TILE_DMA_PENDING
  | TILE_DMA_PAUSE
  | TILE_DMA_ALLOW
  | TILE_DMA_UE
  | TILE_DMA_UNDELIVERED
  | TILE_DMA_REJECTED
  | TILE_DMA_PIECES
  | TILE_DMA_STALLS
  | TILE_DMA_SHD
  | CLK_EP_NUM
  | CLK_EP_STATE
  | CLK_EP_PINS
  | CLK_EP_PUB
  | CLK_EP_NEXT
  | CLK_EP_FILL_SEQ
  | CLK_EP_FILL_CTX
  | CLK_CTX_STATE
  | CLK_CTX_PACING
  | CLK_CTX_FILL_WAIT
  | CLK_CTX_FAIL_PEND
  | CLK_CTX_PEND_CAUSE
  | CLK_CTX_SEQ
  | CLK_CTX_DL
  | CLK_CTX_LATE
  | CLK_CTX_EP_STALLS
  | CLK_CTX_ABORTS
  | CLK_CTX_PEND_LOG
  | TILE_AGED
  | DBG_MODE
  | DBG_HZ_EN
  | DBG_HZ_HALT
  | DBG_WAIT_LIMIT
  | DBG_HZ_STATUS
  | DBG_HZ_COUNT
  | DBG_ACC_TILE
  | DBG_ACC_OP
  | DBG_ACC_ROW
  | DBG_ACC_COL
  | DBG_ACC_ARM
  | DBG_ACC_DONE
  | DBG_ACC_ADDR
  | DBG_ACC_ISSUE
  | ETH_DB_PROD
  | ETH_DB_QP
  | ETH_PORT_STATE
  | ETH_MEDIA
  | ETH_MAX_FRAME
  | ETH_PFC_EN
  | ETH_ROCE_PRIO
  | ETH_QP_SEL
  | ETH_QP_SQ
  | ETH_QP_CQ
  | ETH_QP_SQ_LOG2
  | ETH_QP_CQ_LOG2
  | ETH_QP_EN
  | ETH_QP_NVME
  | ETH_QP_SEQ0
  | ETH_QP_CQ_CONS
  | ETH_QP_SQ_CONS
  | ETH_QP_REMOTE_QPN
  | ETH_RX_BYTES
  | ETH_TX_BYTES
  | ETH_FEC_UNCORR
  | ETH_PFC_PAUSED
  | RING_DOORBELL
  | RING_DB_IGNORED
  | RING_EN
  | RING_CMD_STOPPED
  | RING_CMD_RETRY
  | RING_DB_BAD
  | RING_CQ_FULL
  | RING_GEN
  | RING_CMD_BASE
  | RING_CMD_LOG2
  | RING_CQ_LOG2
  | RING_EQ_LOG2
  | RING_CMD_SEQ0
  | RING_CMD_PROD
  | RING_CMD_CONS
  | RING_CMD_EXPECT
  | RING_CQ_BASE
  | RING_CQ_PROD
  | RING_CQ_CONS
  | RING_CQ_CSEQ
  | RING_EQ_BASE
  | RING_EQ_PROD
  | RING_EQ_CONS
  | RING_EQ_ESEQ
  | RING_IRQ_VEC_CQ
  | RING_IRQ_VEC_EQ
  | RING_IRQ_EN_CQ
  | RING_IRQ_EN_EQ
  | RING_IRQ_HOLDOFF
  | RING_DESC_REREADS
  | RING_DESC_TIMEOUTS
  | RING_CQ_STALL
  | RING_EV_LOST
  | RING_EV_HELD
  | RING_ENTRY
  | LNK_STATE
  | LNK_LANES
  | LNK_EN
  | LNK_RETRAIN_GO
  | LNK_LANE_RETIRE
  | LNK_RTT
  | LNK_DELAY
  | LNK_NBR_SERIAL
  | LNK_NBR_ADDR
  | LNK_NBR_ADDR_V
  | LNK_NBR_GRADE
  | LNK_NBR_STEP
  | LNK_NBR_SLOT
  | LNK_NBR_LINK
  | LNK_NBR_VALID
  | LNK_HB_MISS
  | LNK_RETRY_EXH
  | LNK_RETRAIN_FAIL
  | LNK_DLX_TWICE
  | LNK_VCBUF
  | LNK_FLITS_RX
  | LNK_REPLAYS
  | LNK_FEC_CORR
  | LNK_FEC_UNCORR
  | LNK_CRC_BAD
  | LNK_UNDELIV
  | LNK_HOLD_DROP
  | LNK_MY_ADDR
  | LNK_ADDR_V
  | LNK_MY_RANK
  | LNK_RANK_COUNT
  | LNK_ROUTE_EN
  | LNK_LIVE
  | LNK_HOLD_LIMIT
  | LNK_INFLIGHT
  | LNK_IRQ_VEC
  | LNK_HOIST_ID
  | LNK_HOIST_WIRED
  | LNK_HOIST_PARENT
  | LNK_HOIST_CHILD
  | LNK_HOIST_DEPTH
  | LNK_HOIST_DMAX
  | LNK_HOIST_TIMEOUT
  | LNK_HOIST_ENTER
  | LNK_HOIST_ABANDON
  | LNK_HOIST_STATE
  | LNK_LATE_RESP
  | LNK_E2E_BAD
  | LNK_ROUTE_WORD
  | LNK_RANK_WORD
  | LNK_COL_RANK
  | LNK_COL_RANK_V
  | LNK_COL_STAGED
  | LNK_COL_PKTS
  | LNK_COL_STALE
  | LNK_COL_TBL
  | LNK_COL_TBL_N
  | LNK_COL_WALK
  | LNK_COL_OPEN
  | LNK_COL_POS
  | LNK_COL_STALL_MS
  | LNK_COL_FAILED
  | LNK_COL_POS_BAD
  | LNK_COL_FAIL_PEND
  | LNK_COL_DONE
  | LNK_COL_FAILS
  | LNK_COL_QUIET
  | TEST_FATAL
  | TEST_SUSPECT
  | TEST_DRAINED
  | TEST_FATAL_CLASS
  | TEST_SUSPECT_CLASS
  | TEST_MARK_CLASS
  | TEST_MARK_SUSPECT
  | TEST_DRAIN
  | TEST_MARK_NOTE
  | TEST_PACK_ID
  | TEST_PACK_VER
  | TEST_PACK_ADDR
  | TEST_PACK_LOAD
  | TEST_PACK_RESULT
  | TEST_RUN_MAX
  | TEST_ERR_NOTE
  | TEST_ERR_STEP
  | TEST_ERR_SUSPECT
  | TEST_ERR_FATAL
  | TEST_RCP_PLAN
  | TEST_RCP_PIECES
  | TEST_RCP_ID
  | TEST_RCP_STEP
  | TEST_RCP_GO
  | TEST_RCP_ABORT
  | TEST_RCP_STATE
  | TEST_RCP_CAUSE
  | TEST_PACK_CERT
  | TEST_MARK_SYN
  | TEST_L_TILE
  | TEST_L_STATE
  | TEST_L_REASON
  | TEST_L_XCLK_MHZ
  | TEST_L_VDROP
  | TEST_L_TJ
  | TEST_L_GO
  | TEST_L_ABORT
  | TEST_L_FAIL_PAT
  | TEST_L_ELAPSED_MS
  | PWR_BUDGET_W
  | PWR_BUDGET_EFF
  | PWR_RESERVE_W
  | PWR_TOKEN_COST
  | PWR_CAPACITY
  | PWR_GRANTED
  | PWR_THROTTLED
  | PWR_SHED
  | PWR_OVER
  | PWR_THERMAL
  | PWR_TCLK_K
  | PWR_INPUT_W
  | PWR_INPUT_MV
  | PWR_TJ_THROTTLE
  | PWR_TJ_TRIP
  | PWR_TJ_HBM_TRIP
  | PWR_TJ_MAX
  | PWR_THROTTLE_SEEN
  | PWR_SHED_SEEN
  | PWR_OVER_SEEN
  | PWR_PEAK_SEEN
  | PWR_THERMAL_SEEN
  | PWR_THROTTLE_COUNT
  | PWR_SHED_COUNT
  | PWR_STEP_US
  | PWR_CTX_OVERRUN
  | PWR_CTX_TOKENS
  | PWR_CTX_FIG
  | PWR_RAIL_MV
  | CLK_DOM_STATE
  | CLK_DOM_MHZ
  | CLK_DOM_LOSS
  | CFG_GRADE
  | CFG_STEPPING
  | CFG_SERIAL
  | CFG_SLOT_ID
  | CFG_STATE
  | CFG_RDY_UCIE
  | CFG_RDY_HBM
  | CFG_RDY_COL
  | CFG_RDY_TILES
  | CFG_TILES_READY
  | CFG_UCIE_UP
  | CFG_UCIE_OFF
  | CFG_VER_FLOOR
  | CFG_VERSION
  | CFG_STAGE_CLEAR
  | CFG_COMMIT
  | CFG_COMMIT_RESULT
  | CFG_COMMIT_BUSY
  | CFG_STAGE_WORDS
  | CFG_DEBUG_ALLOW
  | CFG_JTAG_ALLOW
  | CFG_STAGE
  | SEC_ROOT_HASH
  | SEC_ARB_COUNT
  | SEC_ARB_TARGET
  | SEC_ARB_ADVANCE
  | SEC_OWNER_BURNED
  | SEC_OWNER_REVOKED
  | SEC_OWNER_ACTIVE
  | SEC_OWNER_NONE
  | SEC_OWNER_SLOT
  | SEC_OWNER_BURN
  | SEC_OWNER_REVOKE
  | SEC_FUSE_RESULT
  | SEC_OWNER_HASH
  | SEC_OWNER_FUSE
  | SEC_IMG_ADDR
  | SEC_CERT_ADDR
  | SEC_IMG_KIND
  | SEC_IMG_CTX
  | SEC_VERIFY_GO
  | SEC_VERIFY_RESULT
  | SEC_VERIFY_BUSY
  | SEC_FW_ACTIVE
  | SEC_FW_PENDING
  | SEC_FW_REVERTED
  | SEC_FW_SWITCHING
  | SEC_FW_SVN_A
  | SEC_FW_SVN_B
  | SEC_FW_HANDOVER
  | SEC_FW_ALIVE
  | SEC_UC_TILE
  | SEC_UC_GO
  | SEC_UC_STATE
  | SEC_UC_SVN
  | SEC_CAL_APPLY
  | SEC_CAL_VER
  | SEC_ATT_NONCE
  | SEC_ATT_ADDR
  | SEC_ATT_GO
  | SEC_ATT_STATE
  | SEC_ATT_LEN
  | SEC_MEAS_COUNT
  | SEC_ID_PRESENT
  | SEC_ID_KEY_ID
  | TILE_OVF_OPS
  | TILE_NAN_EVENTS
  | TILE_TS_CE
  | TILE_TS_UE
  | TILE_GS_CE
  | TILE_GS_UE
  | TILE_TB_CE
  | TILE_TB_UE
  | MON_SRC
  | MON_EN
  | MON_SHIFT
  | MON_EXP_BASE
  | MON_CTX
  | MON_CTX_ANY
  | MON_DIV
  | MON_FA
  | MON_FB
  | MON_MIN
  | MON_MAX
  | MON_COUNT
  | MON_SAT
  | MON_LAST
  | MON_CLEAR
  | MON_BUCKET
  | MON_PERIOD_US
  | MON_SNAP_ADDR
  | MON_SNAP_FRAMES
  | MON_SNAP_CLEAR
  | MON_SNAP_COUNT
  | MON_SNAP_MISSED
  | MON_SNAP_GO
  | MON_SAT_SEEN
  | MON_SAT_QUERY_OFF
  | MON_SAT_QUERY_BIT
  | MON_SAT_EVENTS
  | MON_UR_LAST
  | LOG_HEAD
  | LOG_COPY
  | LOG_RING_BASE
  | LOG_RING_LOG2
  | LOG_DRAIN_EN
  | LOG_IRQ_EN
  | LOG_RING_PROD
  | LOG_RING_CONS
  | LOG_LOST
  | LOG_IRQ_VEC
  | LOG_IRQ_HOLDOFF
  | CFG_MBOX_IN
  | CFG_MBOX_IN_LEN
  | CFG_MBOX_IN_FULL
  | CFG_MBOX_OUT_FULL
  | CFG_MBOX_IN_ACK
  | CFG_MBOX_OUT_POST
  | CFG_MBOX_OUT_LEN
  | CFG_MBOX_IRQ_VEC
  | CFG_MBOX_IRQ_EN
  | CFG_MBOX_OUT
  deriving DecidableEq, Repr

/-- Bits held: the field's width, and one more for the sticky overflow bit of a SAT field (R413). -/
def Reg.bits : Reg → Nat
  | .CLK_RC_BOUND | .CLK_FT_SYNCED | .CLK_FT_MASTER | .CLK_STEP_LIMIT | .CLK_BAD_ADVANCE | .CLK_BAD_SET
  | .CLK_ARM_GO | .CLK_ARM_CANCEL | .CLK_RC_SET_GO | .TILE_FOLDED | .TILE_MALFORMED | .TILE_BOUNDS
  | .TILE_PEN_OVF | .TILE_LAND_REJECT | .TILE_CTX_OVF | .TILE_PEN_WRITE | .TILE_FOLD_VIEW | .TILE_FOLD_TB_OWNER
  | .HBM_RETIRE_GO | .HBM_CE_OVER | .HBM_UE_SEEN | .HBM_EVICT_FAIL | .HBM_MIGRATE_UE | .HBM_BEYOND_CAP
  | .TILE_DMA_ACT_VALID | .TILE_DMA_SHD_VALID | .TILE_DMA_PAUSED | .TILE_DMA_PAUSE | .TILE_DMA_UE
  | .TILE_DMA_UNDELIVERED | .TILE_DMA_REJECTED | .CLK_CTX_PACING | .CLK_CTX_FILL_WAIT | .CLK_CTX_FAIL_PEND
  | .DBG_MODE | .DBG_HZ_EN | .DBG_HZ_HALT | .DBG_ACC_ARM | .DBG_ACC_DONE | .ETH_MEDIA | .ETH_QP_EN
  | .ETH_QP_NVME | .RING_EN | .RING_CMD_STOPPED | .RING_CMD_RETRY | .RING_DB_BAD | .RING_CQ_FULL
  | .RING_IRQ_EN_CQ | .RING_IRQ_EN_EQ | .LNK_EN | .LNK_RETRAIN_GO | .LNK_NBR_ADDR_V | .LNK_NBR_GRADE
  | .LNK_NBR_STEP | .LNK_NBR_VALID | .LNK_HB_MISS | .LNK_RETRY_EXH | .LNK_RETRAIN_FAIL | .LNK_DLX_TWICE
  | .LNK_ADDR_V | .LNK_ROUTE_EN | .LNK_HOIST_WIRED | .LNK_HOIST_ENTER | .LNK_HOIST_ABANDON | .LNK_COL_RANK_V
  | .LNK_COL_FAILED | .LNK_COL_POS_BAD | .LNK_COL_FAIL_PEND | .LNK_COL_QUIET | .TEST_FATAL | .TEST_SUSPECT
  | .TEST_DRAINED | .TEST_MARK_SUSPECT | .TEST_DRAIN | .TEST_MARK_NOTE | .TEST_PACK_LOAD | .TEST_RCP_GO
  | .TEST_RCP_ABORT | .TEST_L_GO | .TEST_L_ABORT | .PWR_THROTTLED | .PWR_SHED | .PWR_OVER | .PWR_THERMAL
  | .PWR_THROTTLE_SEEN | .PWR_SHED_SEEN | .PWR_OVER_SEEN | .PWR_PEAK_SEEN | .PWR_THERMAL_SEEN | .CFG_GRADE
  | .CFG_RDY_UCIE | .CFG_RDY_HBM | .CFG_RDY_COL | .CFG_RDY_TILES | .CFG_STAGE_CLEAR | .CFG_COMMIT
  | .CFG_COMMIT_BUSY | .CFG_DEBUG_ALLOW | .CFG_JTAG_ALLOW | .SEC_ARB_ADVANCE | .SEC_OWNER_NONE
  | .SEC_OWNER_BURN | .SEC_OWNER_REVOKE | .SEC_VERIFY_GO | .SEC_VERIFY_BUSY | .SEC_FW_ACTIVE | .SEC_FW_PENDING
  | .SEC_FW_REVERTED | .SEC_FW_SWITCHING | .SEC_FW_HANDOVER | .SEC_FW_ALIVE | .SEC_UC_GO | .SEC_CAL_APPLY
  | .SEC_ATT_GO | .SEC_ID_PRESENT | .MON_EN | .MON_CTX_ANY | .MON_SAT | .MON_CLEAR | .MON_SNAP_CLEAR
  | .MON_SNAP_GO | .MON_SAT_SEEN | .MON_SAT_QUERY_BIT | .LOG_DRAIN_EN | .LOG_IRQ_EN | .CFG_MBOX_IN_FULL
  | .CFG_MBOX_OUT_FULL | .CFG_MBOX_IN_ACK | .CFG_MBOX_OUT_POST | .CFG_MBOX_IRQ_EN => 1
  | .CLK_EP_STATE | .TEST_RCP_STATE | .CLK_DOM_STATE | .SEC_OWNER_ACTIVE | .SEC_OWNER_SLOT | .SEC_FUSE_RESULT
  | .SEC_UC_STATE | .SEC_ATT_STATE => 2
  | .CLK_ARM_CTX | .TILE_STATE | .HBM_STACK_STATE | .HBM_RETIRE_RESULT | .TILE_DMA_ACT_CTX | .TILE_DMA_SHD_CTX
  | .TILE_DMA_PENDING | .CLK_EP_FILL_CTX | .CLK_CTX_STATE | .ETH_PORT_STATE | .ETH_ROCE_PRIO | .LNK_STATE
  | .LNK_HOIST_STATE | .TEST_PACK_RESULT | .TEST_L_STATE | .CFG_STATE | .SEC_IMG_CTX | .MON_CTX => 3
  | .CLK_ARM_KIND | .CLK_ARM_RES_CODE | .HBM_RET_MAX | .LNK_LANES | .TEST_RCP_CAUSE | .TEST_L_REASON
  | .PWR_TCLK_K | .CFG_STEPPING | .CFG_COMMIT_RESULT | .SEC_OWNER_BURNED | .SEC_OWNER_REVOKED | .SEC_IMG_KIND
  | .SEC_VERIFY_RESULT | .MON_SRC | .MON_DIV => 4
  | .TILE_OP_WINDOW | .HBM_RETIRE_PC | .ETH_QP_SQ_LOG2 | .ETH_QP_CQ_LOG2 | .RING_CMD_LOG2 | .RING_CQ_LOG2
  | .RING_EQ_LOG2 | .LNK_COL_OPEN | .TEST_RUN_MAX | .MON_SHIFT | .LOG_RING_LOG2 => 5
  | .TILE_PHYS_X | .TILE_PHYS_Y | .TILE_GS_BASE | .TILE_PEN_SEL | .TILE_FOLD_GS_AT | .RING_EV_HELD
  | .LNK_NBR_SLOT | .LNK_NBR_LINK | .LNK_HOIST_PARENT | .CFG_SLOT_ID | .SEC_MEAS_COUNT => 6
  | .TILE_GS_LIMIT | .TILE_FOLD_GS_ON | .DBG_HZ_STATUS | .SEC_ARB_COUNT | .SEC_ARB_TARGET | .SEC_FW_SVN_A
  | .SEC_FW_SVN_B | .SEC_UC_SVN => 7
  | .CLK_ARM_SLOT | .CLK_ARM_RES_SLOT | .TILE_CTX_EN | .TILE_HALTED | .TILE_HALT | .TILE_RESUME
  | .TILE_PEN_COUNT | .TILE_PEN_VAL | .TILE_DMA_ALLOW | .CLK_CTX_PEND_CAUSE | .ETH_PFC_EN | .LNK_LANE_RETIRE
  | .LNK_HOIST_ID | .TEST_L_VDROP | .PWR_TOKEN_COST | .CFG_UCIE_UP | .CFG_UCIE_OFF | .MON_EXP_BASE
  | .MON_SNAP_FRAMES => 8
  | .CLK_ARM_FREE | .TILE_TS_BASE | .TILE_TS_LIMIT | .TILE_FOLD_TS_ON | .TILE_FOLD_TS_AT | .CFG_STAGE_WORDS
  | .CFG_MBOX_IN_LEN | .CFG_MBOX_OUT_LEN => 9
  | .TILE_OPD_BASE | .TILE_OPD_LIMIT | .ETH_DB_QP | .ETH_QP_SEL | .LNK_HOLD_LIMIT | .MON_FB => 10
  | .TEST_L_TILE | .PWR_CAPACITY | .PWR_GRANTED | .PWR_CTX_TOKENS | .PWR_CTX_FIG | .CFG_TILES_READY
  | .SEC_UC_TILE | .MON_FA => 11
  | .TEST_L_XCLK_MHZ => 12
  | .RING_GEN | .LNK_VCBUF | .PWR_BUDGET_W | .PWR_BUDGET_EFF | .PWR_RESERVE_W | .PWR_INPUT_W | .SEC_ATT_LEN => 13
  | .ETH_MAX_FRAME => 14
  | .CLK_ARM_ACTION | .TILE_LOG_A | .TILE_LOG_B | .HBM_CE_THRESH | .HBM_PATROL_PASSES | .CLK_EP_PINS
  | .DBG_ACC_TILE | .DBG_ACC_ROW | .DBG_ACC_COL | .ETH_DB_PROD | .ETH_QP_CQ_CONS | .ETH_QP_SQ_CONS
  | .RING_CMD_PROD | .RING_CMD_CONS | .RING_CQ_PROD | .RING_CQ_CONS | .RING_EQ_PROD | .RING_EQ_CONS
  | .RING_IRQ_VEC_CQ | .RING_IRQ_VEC_EQ | .RING_IRQ_HOLDOFF | .LNK_RTT | .LNK_DELAY | .LNK_NBR_ADDR
  | .LNK_MY_ADDR | .LNK_MY_RANK | .LNK_LIVE | .LNK_IRQ_VEC | .LNK_HOIST_TIMEOUT | .LNK_COL_RANK
  | .LNK_COL_TBL_N | .LNK_COL_WALK | .LNK_COL_STALL_MS | .TEST_FATAL_CLASS | .TEST_SUSPECT_CLASS
  | .TEST_MARK_CLASS | .TEST_PACK_ID | .TEST_PACK_VER | .TEST_RCP_ID | .TEST_L_TJ | .PWR_INPUT_MV
  | .PWR_TJ_THROTTLE | .PWR_TJ_TRIP | .PWR_TJ_HBM_TRIP | .PWR_TJ_MAX | .PWR_RAIL_MV | .CLK_DOM_MHZ
  | .MON_PERIOD_US | .LOG_RING_PROD | .LOG_RING_CONS | .LOG_IRQ_VEC | .LOG_IRQ_HOLDOFF | .CFG_MBOX_IRQ_VEC => 16
  | .TILE_STREAM_BASE | .LNK_RANK_COUNT => 17
  | .HBM_READY_MASK | .TILE_DMA_IDX0 | .TILE_DMA_IDX1 | .TILE_DMA_IDX2 => 20
  | .LNK_COL_STAGED => 21
  | .TILE_DMA_RUN_OFF => 22
  | .TILE_LAND_COUNT | .TILE_LAND_BASE | .HBM_MIGRATE_LEFT | .DBG_WAIT_LIMIT | .ETH_QP_REMOTE_QPN
  | .LNK_HOIST_DEPTH | .LNK_HOIST_DMAX => 24
  | .MON_SAT_QUERY_OFF => 26
  | .HBM_WCB_MERGED | .HBM_WCB_RMW | .HBM_PC_CE | .HBM_PC_UE | .TILE_DMA_PIECES | .TILE_DMA_STALLS
  | .CLK_CTX_LATE | .CLK_CTX_EP_STALLS | .CLK_CTX_ABORTS | .TILE_AGED | .DBG_HZ_COUNT | .ETH_RX_BYTES
  | .ETH_TX_BYTES | .ETH_FEC_UNCORR | .ETH_PFC_PAUSED | .RING_DB_IGNORED | .RING_DESC_REREADS
  | .RING_DESC_TIMEOUTS | .RING_CQ_STALL | .RING_EV_LOST | .LNK_FLITS_RX | .LNK_REPLAYS | .LNK_FEC_CORR
  | .LNK_FEC_UNCORR | .LNK_CRC_BAD | .LNK_UNDELIV | .LNK_HOLD_DROP | .LNK_LATE_RESP | .LNK_E2E_BAD
  | .LNK_COL_PKTS | .LNK_COL_STALE | .LNK_COL_DONE | .LNK_COL_FAILS | .TEST_ERR_NOTE | .TEST_ERR_STEP
  | .TEST_ERR_SUSPECT | .TEST_ERR_FATAL | .PWR_THROTTLE_COUNT | .PWR_SHED_COUNT | .PWR_STEP_US
  | .PWR_CTX_OVERRUN | .CLK_DOM_LOSS | .TILE_OVF_OPS | .TILE_NAN_EVENTS | .TILE_TS_CE | .TILE_TS_UE
  | .TILE_GS_CE | .TILE_GS_UE | .TILE_TB_CE | .TILE_TB_UE | .MON_COUNT | .MON_BUCKET | .MON_SNAP_MISSED
  | .MON_SAT_EVENTS | .LOG_LOST => 33
  | .LNK_HOIST_CHILD => 36
  | .TILE_SRL_SALT | .TILE_SRL_STEP | .TEST_RCP_STEP => 40
  | .CLK_RC | .CLK_FT | .CLK_RC_SET | .CLK_ARM_COORD | .TILE_PEN_MASK | .TILE_DIG | .TILE_SRL_KEY
  | .TILE_FOLD_BACK | .HBM_CAP | .CLK_EP_PUB | .CLK_EP_NEXT | .CLK_CTX_DL | .DBG_ACC_ADDR | .ETH_QP_SQ
  | .ETH_QP_CQ | .RING_CMD_BASE | .RING_CQ_BASE | .RING_EQ_BASE | .LNK_NBR_SERIAL | .LNK_COL_TBL | .LNK_COL_POS
  | .TEST_PACK_ADDR | .TEST_RCP_PLAN | .TEST_PACK_CERT | .CFG_SERIAL | .SEC_IMG_ADDR | .SEC_CERT_ADDR
  | .SEC_ATT_ADDR | .SEC_ID_KEY_ID | .MON_SNAP_ADDR | .LOG_RING_BASE => 64
  | _ => 32

/-- SAT fields (R14, R15). -/
def Reg.isSat : Reg → Bool
  | .HBM_WCB_MERGED | .HBM_WCB_RMW | .HBM_PC_CE | .HBM_PC_UE | .TILE_DMA_PIECES | .TILE_DMA_STALLS
  | .CLK_CTX_LATE | .CLK_CTX_EP_STALLS | .CLK_CTX_ABORTS | .TILE_AGED | .DBG_HZ_COUNT | .ETH_RX_BYTES
  | .ETH_TX_BYTES | .ETH_FEC_UNCORR | .ETH_PFC_PAUSED | .RING_DB_IGNORED | .RING_DESC_REREADS
  | .RING_DESC_TIMEOUTS | .RING_CQ_STALL | .RING_EV_LOST | .LNK_FLITS_RX | .LNK_REPLAYS | .LNK_FEC_CORR
  | .LNK_FEC_UNCORR | .LNK_CRC_BAD | .LNK_UNDELIV | .LNK_HOLD_DROP | .LNK_LATE_RESP | .LNK_E2E_BAD
  | .LNK_COL_PKTS | .LNK_COL_STALE | .LNK_COL_DONE | .LNK_COL_FAILS | .TEST_ERR_NOTE | .TEST_ERR_STEP
  | .TEST_ERR_SUSPECT | .TEST_ERR_FATAL | .PWR_THROTTLE_COUNT | .PWR_SHED_COUNT | .PWR_STEP_US
  | .PWR_CTX_OVERRUN | .CLK_DOM_LOSS | .TILE_OVF_OPS | .TILE_NAN_EVENTS | .TILE_TS_CE | .TILE_TS_UE
  | .TILE_GS_CE | .TILE_GS_UE | .TILE_TB_CE | .TILE_TB_UE | .MON_COUNT | .MON_BUCKET | .MON_SNAP_MISSED
  | .MON_SAT_EVENTS | .LOG_LOST => true
  | _ => false

/-- The value after de-assertion of MOD_RST_N (R16); values of fuses, calibration tables and straps are those of
notes/assumptions/7.md. -/
def Reg.reset : Reg → Nat
  | .LNK_COL_QUIET | .SEC_OWNER_NONE | .MON_SNAP_FRAMES => 0x1
  | .LNK_STATE => 0x4
  | .ETH_QP_SQ_LOG2 | .ETH_QP_CQ_LOG2 | .RING_CMD_LOG2 | .RING_CQ_LOG2 | .RING_EQ_LOG2 | .LOG_RING_LOG2 => 0x6
  | .TEST_RUN_MAX => 0x8
  | .LNK_HOLD_LIMIT | .LNK_COL_STALL_MS | .MON_PERIOD_US => 0xA
  | .PWR_TOKEN_COST => 0x19
  | .TEST_L_VDROP => 0x28
  | .LNK_HOIST_PARENT => 0x3F
  | .CLK_ARM_FREE | .HBM_CE_THRESH => 0x100
  | .LNK_VCBUF => 0x200
  | .TEST_L_TJ => 0x2F8
  | .PWR_TJ_THROTTLE => 0x320
  | .PWR_TJ_HBM_TRIP => 0x348
  | .PWR_TJ_TRIP => 0x398
  | .LNK_HOIST_TIMEOUT => 0x3E8
  | .ETH_MAX_FRAME => 0x5EE
  | .PWR_RESERVE_W => 0x640
  | .TEST_L_XCLK_MHZ => 0x750
  | .PWR_BUDGET_W | .PWR_BUDGET_EFF => 0xE10
  | .TILE_LOG_A | .TILE_LOG_B => 0xFFFF
  | .DBG_WAIT_LIMIT => 0x100000
  | .LNK_ROUTE_WORD => 0x3F3F3F3F
  | .RING_ENTRY | .MON_MIN => 0xFFFFFFFF
  | .CLK_EP_NEXT | .CLK_CTX_DL => 0xFFFFFFFFFFFFFFFF
  | _ => 0

/-- A register of the window: `i` numbers the block (tile, context, link, stack, port, domain), `j` and `k` the
place within it. On a tile, `k` is the logical tile, 0 for A and 1 for B, for the fields that R168 doubles. -/
structure RegKey where
  reg : Reg
  i : Nat := 0
  j : Nat := 0
  k : Nat := 0
  deriving DecidableEq, Repr

/-- Position in the order in which the register list is kept. -/
def RegKey.ord (r : RegKey) : Nat := ((r.reg.ctorIdx * 65536 + r.i) * 65536 + r.j) * 65536 + r.k

end Sys2Proof.Machine
end

