-- ==== Sys2Proof/Machine/Tables.lean ====
section
/-! DEFINITION. Tables: lists of keys and values in which a value equal to the default is not listed. Registers,
memories, streams and channels are kept in them. Writing erases the key's entry and inserts the new one in
ascending order of the key's number. -/

namespace Sys2Proof.Machine

/-- The value at a key. -/
def tblGet {κ ν : Type} [DecidableEq κ] (t : List (κ × ν)) (k : κ) (dflt : ν) : ν :=
  match t with
  | [] => dflt
  | e :: t => if e.1 = k then e.2 else tblGet t k dflt

/-- The table without a key. -/
def tblErase {κ ν : Type} [DecidableEq κ] (t : List (κ × ν)) (k : κ) : List (κ × ν) :=
  t.filter (fun e => e.1 ≠ k)

/-- The table with an entry inserted before the first of a higher number. -/
def tblInsert {κ ν : Type} (ord : κ → Nat) (t : List (κ × ν)) (k : κ) (v : ν) : List (κ × ν) :=
  match t with
  | [] => [(k, v)]
  | e :: t => if ord k < ord e.1 then (k, v) :: e :: t else e :: tblInsert ord t k v

/-- The table with the value at a key replaced. -/
def tblSet {κ ν : Type} [DecidableEq κ] [DecidableEq ν] (ord : κ → Nat) (t : List (κ × ν)) (k : κ) (v dflt : ν) :
    List (κ × ν) :=
  if v = dflt then tblErase t k else tblInsert ord (tblErase t k) k v

/-- The byte at an address; unlisted bytes read 0 (R390; notes/assumptions/4.md for Tabok memory). -/
def memGet (m : List Host.Cell) (a : Nat) : Byte := tblGet m a 0

/-- The memory with one byte replaced. -/
def memSet (m : List Host.Cell) (a : Nat) (b : Byte) : List Host.Cell := tblSet (fun k => k) m a b 0

/-- The bytes from an address. -/
def memRead (m : List Host.Cell) (a : Nat) : Nat → List Byte
  | 0 => []
  | n + 1 => memGet m a :: memRead m (a + 1) n

/-- The memory with bytes written from an address upwards. -/
def memWrite (m : List Host.Cell) (a : Nat) : List Byte → List Host.Cell
  | [] => m
  | b :: bs => memWrite (memSet m a b) (a + 1) bs

/-- The little-endian number of n bytes at an address (R9). -/
def memNat (m : List Host.Cell) (a n : Nat) : Nat := leNat (memRead m a n)

/-- The canonical form of a memory: addresses strictly rising, no byte equal to what an unlisted address reads as. -/
def memWf : List Host.Cell → Bool
  | [] => true
  | [c] => c.2 ≠ 0
  | c :: c' :: m => c.2 ≠ 0 && c.1 < c'.1 && memWf (c' :: m)

end Sys2Proof.Machine
end

