-- ==== Sys2Proof/Machine/StateTile.lean ====
section
/-! DEFINITION. The parts of the state that belong to tiles, contexts, DMA channels, HBM and rings, as plain data.
Sys2Proof/Machine/State.lean puts them together. -/

namespace Sys2Proof.Machine

/-- A record in a window (R90). `raw` is its image (R82); `a` to `d` are the images of its operand descriptors
(R87), 0 where it names none. -/
structure WinEnt where
  idx : Nat := 0
  raw : Nat := 0
  a : Nat := 0
  b : Nat := 0
  c : Nat := 0
  d : Nat := 0
  /-- Its place in the order in which records entered the tile's windows (R166), and whether its landing wait has been
  satisfied (R416). -/
  entered : Nat := 0
  landed : Bool := false
  /-- Issued, and its place in the tile's order of issues (R101). -/
  issued : Bool := false
  order : Nat := 0
  /-- OP_ISSUE (R81). -/
  issueNo : Nat := 0
  /-- A heavy-unit token is held, or asked for since an instant (R372). -/
  token : Bool := false
  asked : Option Nat := none
  /-- Counted as a token overrun (R253). -/
  overrun : Bool := false
  /-- Fabric time at which the unbroken stretch of R220 began, once it has lasted 65,536 TCLK. -/
  aged : Option Nat := none
  /-- Ended FAILED (R93). -/
  failed : Bool := false
  /-- The channel has reached completion (R205). -/
  dmaDone : Bool := false
  /-- Digest slots and what is folded into them when the record completes (R103). -/
  folds : List (Nat × Nat) := []
  /-- A hazard report of KIND 7 was made of its present wait, and one of KIND 3 of the record (R256). -/
  hazWait : Bool := false
  hazHit : Bool := false
  deriving DecidableEq, Repr

/-- What a logical tile holds for a context: stream, window, loop stack, counts, sums (R81 to R90, R128, R162). -/
structure Strm where
  /-- The context is enabled (R107). -/
  on : Bool := false
  /-- Index of the next record to decode; decoding goes on (R90). -/
  next : Nat := 0
  decoding : Bool := false
  /-- Loop stack as decoding follows it: index after the LOOP_START, and the count left. -/
  decLoops : List (Nat × Nat) := []
  /-- Loop stack of the context (R85), innermost first. -/
  loops : List (Nat × Nat) := []
  win : List WinEnt := []
  /-- Issues of each record from 1 at context load (R81). -/
  issues : List (Nat × Nat) := []
  /-- END has issued and has completed for the launch in force (R218). -/
  ended : Bool := false
  endDone : Bool := false
  /-- Update-ratio sums SDW and SW, Vf32 codes (R128). -/
  sdw : Nat := 0
  sw : Nat := 0
  /-- Values of the ADVANCE records issued in the launch in force, oldest first (R34, R325). -/
  advs : List Nat := []
  /-- Sums taken as the tile's own position left a value of phase 6, until the context's leaves it (R129). -/
  banks : List (Nat × Nat) := []
  deriving DecidableEq, Repr

/-- What a physical tile holds beside its registers. -/
structure TileSt where
  /-- Bit c: issue of context c is stopped (R105). -/
  halt : Nat := 0
  /-- Bit e: logical tile A issued to engine e in the previous cycle (R167; notes/assumptions/101.md). -/
  lastA : Nat := 0
  /-- Issues so far (R101), and records that have entered a window (R166). -/
  issues : Nat := 0
  entries : Nat := 0
  deriving DecidableEq, Repr

/-- A launch taken (R269). -/
structure Launch where
  seq : Nat := 0
  entry : Nat := 0
  deadline : Nat := 2 ^ 64 - 1
  useEn : Bool := false
  useSlot : Nat := 0
  fillEn : Bool := false
  fillSlot : Nat := 0
  fillCtx : Nat := 0
  /-- The deadline has passed (R221). -/
  late : Bool := false
  /-- The model's time at which its wait for an epoch slot began (R228). -/
  waitFrom : Option Nat := none
  /-- It has started (R218). -/
  started : Bool := false
  deriving DecidableEq, Repr

/-- How the launch in force is ending (R235, R449). -/
inductive Ending
  | running
  | aborting
  | failing
  deriving DecidableEq, Repr

/-- An outcome decided, which becomes a completion record (R274). -/
structure Done where
  seq : Nat := 0
  outcome : Nat := 0
  isAbort : Bool := false
  late : Bool := false
  ovf : Bool := false
  cause : Nat := 0
  aux : Nat := 0
  ft : Nat := 0
  rc : Nat := 0
  /-- The record ends the launch in force. -/
  ofLaunch : Bool := false
  /-- Nothing of the launch remains in flight (R234). -/
  ready : Bool := true
  deriving DecidableEq, Repr

/-- A descriptor that is being read (R272): reads outstanding, whether the first has returned, re-reads made, and
re-reads that have returned without the expected SEQ. -/
structure Fetch where
  idx : Nat := 0
  out : Nat := 1
  first : Bool := true
  asked : Nat := 0
  missed : Nat := 0
  deriving DecidableEq, Repr

/-- An event entry before it is written (R276): type and body. -/
structure EvEnt where
  type : Nat := 0
  body : Nat := 0
  deriving DecidableEq, Repr

/-- A context's command unit, rings and declarations (R215, R218, R244, R272). -/
structure Ctx where
  /-- Arithmetic word (R76), context grid (R244), pacing context (R34). -/
  arith : Nat := 0
  cols : Nat := 0
  rows : Nat := 0
  pacing : Bool := false
  /-- Pennant ceilings of the hazard detector (R256). -/
  ceilings : List (Nat × Nat) := []
  trapArmed : Bool := true
  queue : List Launch := []
  cur : Option Launch := none
  ending : Ending := .running
  /-- Outcome of the launch in force is decided (R234). -/
  decided : Bool := false
  /-- Outcomes decided whose records are not yet written, in the order of their decisions (R275). -/
  waiting : List Done := []
  /-- Descriptors whose data has returned with the expected SEQ, by command index (R272). -/
  taken : List (Nat × Nat) := []
  /-- Initial epoch number (R228, R244). -/
  epochInit : Nat := 0
  fetches : List Fetch := []
  fetchNext : Nat := 0
  /-- Event entries not yet written, and entries dropped since the last one written (R277). -/
  evq : List EvEnt := []
  dropped : Nat := 0
  /-- A message is owed, and the time of the last one, in ns (R278). -/
  irqCq : Bool := false
  irqEq : Bool := false
  irqCqAt : Option Nat := none
  irqEqAt : Option Nat := none
  /-- Collective position and the step of the walk of the table (R325, R326). -/
  pos : Nat := 0
  walkStep : Nat := 0
  /-- Entries of the table already started in this walk (R326). -/
  walkNext : Nat := 0
  /-- Groups of advances judged in the launch in force (R34, R325). -/
  judged : Nat := 0
  deriving DecidableEq, Repr

/-- A transfer of a channel (R199): its descriptor, the record that launched it, and its progress. -/
structure Xfer where
  desc : Nat := 0
  c : Nat := 0
  h : Nat := 0
  /-- Record index and issue count of the DMA_GO. -/
  idx : Nat := 0
  issueNo : Nat := 0
  /-- Indices and offset of the first byte not yet read (R209). -/
  i0 : Nat := 0
  i1 : Nat := 0
  i2 : Nat := 0
  off : Nat := 0
  /-- Writes sent and not yet answered; every write is sent; stopped by a failure (R205, R207). -/
  unanswered : Nat := 0
  allSent : Bool := false
  failed : Bool := false
  /-- An abort discards it once its reads have returned (R235). -/
  discard : Bool := false
  /-- Pieces read since (R211). -/
  after : Nat := 0
  /-- It has reached completion and waits for older ones (R206). -/
  complete : Bool := false
  deriving DecidableEq, Repr

/-- A DMA channel: active set, shadow set and transfers held, oldest first (R199, R206). -/
structure Chan where
  act : Option Xfer := none
  shd : Option Xfer := none
  held : List Xfer := []
  /-- A failed transfer of these contexts stops their later ones (R203). -/
  stopped : Nat := 0
  deriving DecidableEq, Repr

/-- Who waits for the answer to a write: a channel's transfer, an open collective, or nobody. -/
inductive WrOwner
  | channel (p n c h idx issueNo : Nat)
  | collective (handle : Nat)
  | nobody
  deriving DecidableEq, Repr

/-- A write on its way to an HBM controller; writes of one source and stack keep their order (R183). -/
structure HbmWr where
  src : Nat := 0
  addr : Nat := 0
  data : List Byte := []
  ctx : Option Nat := none
  owner : WrOwner := .nobody
  deriving DecidableEq, Repr

/-- A write on its way to a tile store (R96): destination tile by device grid number, space, offset and counter; where
it came from. -/
structure Arrival where
  src : Nat := 0
  tile : Nat := 0
  space : Nat := 0
  off : Nat := 0
  land : Nat := 0
  /-- Its bytes lie below the first byte of every store, or beyond the last (R98). -/
  out : Bool := false
  data : List Byte := []
  owner : WrOwner := .nobody
  /-- Fabric address of the source and tag of the packet, for its answer (R289). -/
  packet : Option (Nat × Nat) := none
  deriving DecidableEq, Repr

/-- An entry of a write-combining buffer (R187): line address, byte mask, bytes and context of the last write, and
whether a word of it would be found uncorrectable (R193). -/
structure WcbEnt where
  line : Nat := 0
  mask : Nat := 0
  data : List Byte := []
  ctx : Option Nat := none
  bad : Bool := false
  deriving DecidableEq, Repr

/-- A memory under a code (R179, R190). -/
inductive Coded
  | ts
  | gs
  | tb
  | hbm
  deriving DecidableEq, Repr

/-- An error that the code of a word or line will correct when it is next read: memory, number of the word or line, and
the syndrome that a record of it shows (notes/assumptions/99.md). -/
structure Slip where
  mem : Coded := .ts
  at_ : Nat := 0
  syn : Nat := 0
  deriving DecidableEq, Repr

/-- Entry of the table of armed events (R37, R447). -/
structure Armed where
  slot : Nat := 0
  coord : Nat := 0
  kind : Nat := 0
  ctx : Nat := 0
  action : Nat := 0
  fired : Bool := false
  deriving DecidableEq, Repr

/-- A line of a share under the hazard detector: tag of the last arriving write (R256). -/
structure LineTag where
  p : Nat := 0
  h : Nat := 0
  c : Nat := 0
  space : Nat := 0
  line : Nat := 0
  counter : Nat := 0
  count : Nat := 0
  deriving DecidableEq, Repr

/-- A record of the trouble log (R421): index, image of 64 bytes, and its tag. -/
structure LogEnt where
  index : Nat := 0
  img : Nat := 0
  tag : Nat := 0
  copied : Bool := false
  deriving DecidableEq, Repr

/-- A sample for the monitors (R416): source, filter value, context, value. -/
structure Sample where
  src : Nat := 0
  fa : Nat := 0
  ctx : Option Nat := none
  value : Nat := 0
  deriving DecidableEq, Repr

/-- A snapshot latched and not yet written (R420): its frame number and bytes. -/
structure Snap where
  num : Nat := 0
  data : List Byte := []
  deriving DecidableEq, Repr

/-- A note taken within the last 1 ms: class, unit, syndrome and time in ns (R347). -/
structure Note where
  cls : Nat := 0
  unit : Nat := 0
  syn : Nat := 0
  at_ : Nat := 0
  deriving DecidableEq, Repr

end Sys2Proof.Machine
end

