-- ==== Sys2Proof/Machine/StateFabric.lean ====
section
/-! DEFINITION. The parts of the state that belong to the fabric, as plain data: packets, flits, link interfaces
and open collectives. -/

namespace Sys2Proof.Machine

/-- A packet (R288); LEN is the number of its 16-byte data units. -/
structure Pkt where
  dst : Nat := 0
  src : Nat := 0
  vc : Nat := 0
  dlc : Nat := 0
  type : Nat := 0
  birth : Nat := 0
  body : Nat := 0
  e2e : Nat := 0
  data : List Byte := []
  deriving DecidableEq, Repr

/-- A packet in a buffer of the device (R296), and the cable that a collective packet of its own must leave on
(R330). -/
structure Queued where
  pkt : Pkt := {}
  via : Option Nat := none
  deriving DecidableEq, Repr

/-- A sequenced flit in the replay buffer (R293): its number, its packets, how often it was sent. -/
structure Flit where
  seq : Nat := 0
  pkts : List Pkt := []
  sends : Nat := 0
  deriving DecidableEq, Repr

/-- A link interface; number 36 is local injection (R298). Virtual channels are numbered 2 × VC + DLC. -/
structure Link where
  /-- Packets received, oldest first, of every virtual channel. -/
  rx : List Queued := []
  /-- Expected FSEQ, whether any flit was accepted since training, whether a NAK is owed, and whether flits are
  rejected until the expected one arrives (R292). -/
  rxNext : Nat := 0
  rxAny : Bool := false
  nak : Bool := false
  rejecting : Bool := false
  /-- Next FSEQ to send, replay buffer, and the place in it from which flits are resent (R293). -/
  txNext : Nat := 0
  replay : List Flit := []
  resend : Option Nat := none
  /-- Words of credit held, and words freed but not yet returned, by virtual channel (R296). -/
  credit : List (Nat × Nat) := []
  owed : List (Nat × Nat) := []
  /-- Control packets to send, and MEASURE exchanges still to come (R298, R303). -/
  ctl : List Pkt := []
  measures : Nat := 0
  /-- It is DOWN because a training failed, and trains again (R300). -/
  again : Bool := false
  deriving DecidableEq, Repr

/-- A stream of an open collective at one end (R328, R329, R332). -/
structure ColStream where
  /-- 0 up, 1 down; sent or received. -/
  dir : Nat := 0
  out : Bool := false
  /-- Rank of the other end, and the cables to it: none stands for the routed path. -/
  peer : Nat := 0
  cables : List (Option Nat) := []
  /-- First shard of the stream; packets in it, or bytes of the receive pieces of a permute. -/
  first : Nat := 0
  total : Nat := 0
  /-- By number of the cable: packets sent or taken (bytes for the receive pieces of a permute), and packets of credit
  that the sender still holds. -/
  moved : List (Nat × Nat) := []
  credit : List (Nat × Nat) := []
  /-- Packets ready to be passed on: number, link whose engine stages them, bytes. -/
  ready : List (Nat × Nat × List Byte) := []
  /-- Images of the plan pieces of the stream (R332). -/
  pieces : List Nat := []
  /-- First credit or packet has come (R332, R334). -/
  started : Bool := false
  deriving DecidableEq, Repr

/-- An open collective (R324 to R333), or the recovery permute (R354), whose context is 8. -/
structure Col where
  handle : Nat := 0
  c : Nat := 0
  /-- The table entry's image (R324). -/
  img : Nat := 0
  step : Nat := 0
  member : Nat := 0
  streams : List ColStream := []
  /-- Writes to HBM not yet accepted. -/
  unlanded : Nat := 0
  ovf : Bool := false
  deriving DecidableEq, Repr

/-- A work request that was started (R280): SEQ, operation, HBM address, length, and the FAIL_CAUSE and AUX of one that
has failed already. -/
structure Wr where
  seq : Nat := 0
  op : Nat := 0
  local_ : Nat := 0
  len : Nat := 0
  cause : Nat := 0
  aux : Nat := 0
  deriving DecidableEq, Repr

/-- A queue pair (R280): send ring indices, expected SEQ, reads of the next request that found another SEQ, whether it
takes no further request, completion ring, and requests started. -/
structure Qp where
  prod : Nat := 0
  cons : Nat := 0
  expect : Nat := 0
  missed : Nat := 0
  stopped : Bool := false
  cqProd : Nat := 0
  cseq : Nat := 0
  flights : List Wr := []
  deriving DecidableEq, Repr

end Sys2Proof.Machine
end

