-- ==== Sys2Proof/Machine/StateTrust.lean ====
section
/-! DEFINITION. The parts of the state that belong to fuses, boot flash, measurements, lovage runs, the management port
and the test access port, as plain data. -/

namespace Sys2Proof.Machine

/-- A measurement (R406): the digest is 32 bytes in the order of FIPS 180-4. -/
structure Meas where
  kind : Nat := 0
  slot : Nat := 0
  pending : Bool := false
  version : Nat := 0
  keyId : Nat := 0
  ft : Nat := 0
  digest : List Byte := []
  deriving DecidableEq, Repr

/-- A firmware slot of the boot flash (R388, R402): what its verification reads. -/
structure FwSlot where
  present : Bool := true
  svn : Nat := 0
  version : Nat := 0
  keyId : Nat := 0
  maxArb : Nat := 127
  digest : List Byte := List.replicate 32 0
  deriving DecidableEq, Repr

/-- Calibration tables (R371, R402, R404): RES, COST, VERSION, SVN, and the payload, whose sensor offsets, regulator trims
and SerDes presets have no layout that the manual gives (notes/assumptions/115.md). -/
structure Cal where
  res : Nat := 1600
  cost : Nat := 25
  version : Nat := 0
  svn : Nat := 0
  tables : List Byte := []
  deriving DecidableEq, Repr

/-- The vendor root key record (R397, R398): the key, its KEY_MAX_ARB, and whether the record is a well-formed certificate
of PURPOSE 0 that its own key signs. The key is the model's own (notes/assumptions/7.md). -/
structure RootRec where
  modulus : Nat := 2 ^ 3071 + 1
  maxArb : Nat := 127
  selfSigned : Bool := true
  deriving DecidableEq, Repr

/-- Fuses and the boot flash (R388, R399, R401): what outlives reset and loss of power. -/
structure NonVol where
  gradeE : Bool := false
  stepping : Nat := 0
  serial : Nat := 1
  /-- Hash of the vendor root key in the fuses, byte 0 lowest, and the root key record (R398, R409). -/
  rootHash : Nat := 0x2a30db009afec11110d0e9cc6eef18d9bfbd0b840ce5cf0c2eb00aca6d385f68
  rootRec : RootRec := {}
  /-- Anti-rollback bits burned; owner slots burned and revoked, and their hashes (R399, R401). -/
  arbCount : Nat := 0
  ownerBurned : Nat := 0
  ownerRevoked : Nat := 0
  ownerHash : List (Nat × List Byte) := []
  /-- Firmware slots, the slot that the boot record names, its version floor (R388, R395). -/
  slotA : FwSlot := {}
  slotB : FwSlot := {}
  bootSlot : Nat := 0
  verFloor : Nat := 0
  cal : Cal := {}
  /-- Last committed configuration block and owner key record; empty where there is none (R392, R395). -/
  cfgBlock : List Byte := []
  ownerRec : List Byte := []
  /-- Modulus of the identity key, 0 before the first boot; whether the sealed key can be read; the certificate of the key
  that signs identity certificates, and the identity certificate, empty where they cannot be read (R398, R400). -/
  idModulus : Nat := 0
  idSealed : Bool := true
  idSigner : List Byte := []
  idCert : List Byte := []
  deriving DecidableEq, Repr

/-- A fuse operation in progress (R399, R401). -/
inductive FuseOp
  | advance (target : Nat)
  | burn (slot : Nat) (hash : List Byte)
  | revoke (slot : Nat)
  deriving DecidableEq, Repr

/-- A verification under way (R403): Tabok addresses, kind and context as they were when it began. -/
structure VerifyReq where
  img : Nat := 0
  cert : Nat := 0
  kind : Nat := 0
  ctx : Nat := 0
  deriving DecidableEq, Repr

/-- A pattern of a pack (R366): its operation records, the stores' initial contents, executions, and the digest expected. -/
structure Pattern where
  stream : List Byte := []
  data : List Byte := []
  repeats : Nat := 1
  expect : Nat := 0
  deriving DecidableEq, Repr

/-- A pattern pack in force (R366): its patterns in order. -/
structure Pack where
  id : Nat := 0
  ver : Nat := 0
  pats : List Pattern := []
  deriving DecidableEq, Repr

/-- A report being signed (R407): where it goes and what precedes the signature tail. -/
structure Report where
  addr : Nat := 0
  body : List Byte := []
  deriving DecidableEq, Repr

/-- The I3C port (R433): dynamic address, Hot-Join enabled, Hot-Join request made. -/
structure I3c where
  addr : Option Nat := none
  hotJoinOn : Bool := true
  hotJoinMade : Bool := false
  deriving DecidableEq, Repr

/-- The instruction in force at the test access port (R436). -/
inductive JtagInstr
  | extest
  | idcode
  | samplePreload
  | clamp
  | highz
  | dbgAccess
  | bypass
  deriving DecidableEq, Repr

/-- The test access port (R436): instruction, update register of the boundary scan, and whether the last access of
DBG_ACCESS was refused, with the data it read; the rate of TCK in MHz while it runs (R382). -/
structure Jtag where
  instr : JtagInstr := .idcode
  bsr : Nat := 0
  refused : Bool := false
  data : Nat := 0
  tck : Option Nat := none
  deriving DecidableEq, Repr

/-- What the board brings to the module (R429, R432): the levels of MOD_RST_N and MOD_THROTTLE_N, the straps, and whether VIN
has lain within 36 to 44 V for 100 ms. -/
structure Inputs where
  rst : Bool := true
  throttle : Bool := true
  slot : Nat := 0
  cr8 : Nat := 0
  vin : Bool := true
  deriving DecidableEq, Repr

end Sys2Proof.Machine
end

