-- ==== Sys2Proof/Machine/State.lean ====
section
/-! DEFINITION. The state of the module as plain data: everything the device holds (`Dev`), its clocks (`Clock`),
what outlives a reset (`NonVol`) and the queue of waiting commands. -/

namespace Sys2Proof.Machine

/-- Whether the module has its supplies and its reset (R388, R432). -/
inductive Power
  | off
  | softStart
  | inReset
  | running
  deriving DecidableEq, Repr

/-- The levels the module drives, true where the pin is asserted (R430). -/
structure Pins where
  prsnt : Bool := true
  pwrgd : Bool := true
  fault : Bool := false
  alert : Bool := false
  ready : Bool := false
  hoistOut : Bool := false
  deriving DecidableEq, Repr

/-- What the module has sent out (notes/assumptions/11.md). -/
inductive Out
  /-- An interrupt message to Tabok with its vector (R278). -/
  | irq (vec : Nat)
  /-- A change of the LINK interrupt or of another service interrupt that a rule names. -/
  | service (what : String) (arg : Nat)
  /-- A 448-byte block on a link (R285). -/
  | block (link : Nat) (bytes : List Byte)
  /-- A frame on a storage port, or one delivered to the host queue (R279). -/
  | frame (port : Nat) (toHost : Bool) (bytes : List Byte)
  /-- A RoCEv2 or NVMe operation sent to a peer: operation, remote address, key, length, data (R280). -/
  | remote (port qp op remote key len : Nat) (data : List Byte)
  /-- Data of a read of HBM to Tabok or to a port; none when it failed (R192). -/
  | hbmData (who : HbmUser) (data : Option (List Byte))
  /-- A register value read, over UCIe, I3C or JTAG (R13, R434, R436). -/
  | word (v : Nat)
  /-- What a neighbour's HEARTBEAT tells Tabok's fabric manager (R301, R302). -/
  | heartbeat (link rc live : Nat) (fatal : Bool)
  /-- Bytes answered on I3C, a write that was not acknowledged, and the Hot-Join request (R433, R434). -/
  | i3c (bytes : List Byte)
  | nack
  | hotJoin
  deriving DecidableEq, Repr

/-- The device. -/
structure Dev where
  power : Power := .running
  pins : Pins := {}
  outbox : List Out := []
  /-- Registers that differ from their reset values. -/
  regs : List (RegKey × Nat) := []
  /-- HBM by byte address (R180); tile stores, gradient stores and transposing buffers of tile p at p · 2^21,
  p · 2^22 and p · 2^16 (R99 to R101); Tabok memory as the device has written it (R261). -/
  hbm : List Host.Cell := []
  ts : List Host.Cell := []
  gs : List Host.Cell := []
  tb : List Host.Cell := []
  lp : List Host.Cell := []
  /-- Words of the stores that read uncorrectable: 8-byte words numbered within their memory (R179, R192). -/
  tsUE : List Nat := []
  gsUE : List Nat := []
  tbUE : List Nat := []
  /-- Lines of HBM that read uncorrectable (R190, R192). -/
  lineUE : List Nat := []
  /-- Words and lines with an error that their code corrects (R179, R190). -/
  slips : List Slip := []
  /-- Write-combining buffers, oldest entry first; writes on their way to the controllers (R183, R187). -/
  wcb : List WcbEnt := []
  hbmWr : List HbmWr := []
  /-- Migrations under way by stack: pseudo-channel retired and next row (R195). -/
  migs : List (Nat × Option (Nat × Nat)) := []
  /-- Corrected lines of the patrol period under way, by stack × 32 + pseudo-channel (R191). -/
  patrolCe : List (Nat × Nat) := []
  /-- Pseudo-channels whose count has reached the threshold in the patrol period under way (R191). -/
  patrolOver : List Nat := []
  /-- Streams by tile, logical tile and context; tiles; channels; arriving writes (R81, R105, R199, R96). -/
  strms : List (Nat × Strm) := []
  tiles : List (Nat × TileSt) := []
  chans : List (Nat × Chan) := []
  arrivals : List Arrival := []
  /-- Responses to writes on their way to channels (R205). -/
  answers : List WrOwner := []
  /-- Link interfaces, tags taken by requests, and the HOIST_UPs that have come, by child link × 256 + ID (R295, R297, R314). -/
  links : List (Nat × Link) := []
  tags : List (Nat × WrOwner) := []
  hoistUps : List Nat := []
  /-- The hoist's HOIST_DOWN has come, or the root has sent it (R314); links and ports that the committed block lets
  run (R395). -/
  hoistArrived : Bool := false
  linkMask : Nat := 0
  ethMask : Nat := 0
  /-- Open collectives and the handle of the next one (R326); credits of a peer whose collective opens here later, with
  the link they came on (R331). -/
  cols : List Col := []
  colNext : Nat := 0
  early : List Queued := []
  /-- Queue pairs by port × 1024 + number (R280), bytes of payload beyond the last 4 KiB counted by port × 2 (+ 1 for
  sent, R281), and the model's ns until which a priority of a port is paused, by port × 8 + priority (R279). -/
  qps : List (Nat × Qp) := []
  ethRem : List (Nat × Nat) := []
  pfc : List (Nat × Nat) := []
  /-- Contexts (R215). -/
  ctxs : List (Nat × Ctx) := []
  /-- Columns of the device grid (R242), table of armed events (R37), stopped at the step limit (R49). -/
  gridX : Nat := 0
  rc : Nat := 0
  armed : List Armed := []
  rcStopped : Bool := false
  /-- Hazard detector (R256). -/
  lineTags : List LineTag := []
  shadowBases : List (Nat × Nat) := []
  /-- Trouble log, its next index, and notes of the last 1 ms (R421, R347). -/
  log : List LogEnt := []
  logNext : Nat := 0
  notes : List Note := []
  /-- Records lost since the last one copied to the drain ring (R423). -/
  logLost : Nat := 0
  /-- Samples not yet taken in by the monitors, oldest first (R418). -/
  samples : List Sample := []
  /-- Events counted by each monitor since its last clear (R416), and the snapshot not yet written (R420). -/
  monDiv : List (Nat × Nat) := []
  snap : Option Snap := none
  /-- Coordinates of the fired changes of placement that are still to be made, oldest first (R40); the moves of each
  change made, by its coordinate; and moves that take back changes made above a coordinate that was set (R43). -/
  placeDue : List Nat := []
  mapLog : List (Nat × List Move) := []
  undo : List (List Move) := []
  /-- Classes of the fatal events outstanding, in order (R346); restarted firmware did not come alive (R405). -/
  fatals : List Nat := []
  fwDead : Bool := false
  /-- Last readings of the temperature sensors, numbered as in R416; the parts of the clock step (R374), and MOD_MATED_N
  seated (R432). -/
  sensors : List (Nat × Nat) := []
  kTok : Nat := 0
  kOver : Nat := 0
  kTherm : Nat := 0
  mated : Bool := true
  /-- Levels at the input pins and at VIN (R429, R432). -/
  inputs : Inputs := {}
  /-- RES and COST of calibration tables that were applied, until the arbiter's next recomputation (R404). -/
  calNext : Option (Nat × Nat) := none
  /-- Staging words written (R392); MAC addresses by port (R395). -/
  stageMask : Nat := 0
  ethMacs : List (Nat × Nat) := []
  /-- Measurements but those of microcode; microcode and calibration (with its VERSION and payload) held verified; release of each
  tile; loads of microcode under way, oldest first: tile, former state and release (R403, R404). -/
  meas : List Meas := []
  ucHeld : Option Meas := none
  calHeld : Option (Meas × Nat × List Byte) := none
  ucTiles : List (Nat × Meas) := []
  ucLoad : List (Nat × Nat × Meas) := []
  /-- Fuse operation, verification and report in progress (R399, R403, R407). -/
  fuseOp : Option FuseOp := none
  verify : Option VerifyReq := none
  report : Option Report := none
  /-- Firmware restarted by a switch-over that awaits SEC_FW_ALIVE: 1 the new one, 2 the old one again, 3 neither came
  (R405). -/
  fwWait : Nat := 0
  /-- Pack load under way from HBM: addresses of pack and certificate; pack in force; patterns of each lovage
  slot (R367). -/
  packLoad : Option (Nat × Nat) := none
  pack : Option Pack := none
  lovPack : List (Nat × List Pattern) := []
  /-- The model's ns of each lovage slot's TEST_L_GO (R368). -/
  lovGo : List (Nat × Nat) := []
  /-- UCIe modules retraining, failures of training since the last success, and replays of the last 1 µs as module and
  time (R264). -/
  ucieRetrain : Nat := 0
  ucieFails : List (Nat × Nat) := []
  ucieReplays : List (Nat × Nat) := []
  /-- Low words of pairs written and not yet applied, high words latched by a read over UCIe and over I3C, by offset
  (R13, R434). -/
  pairLow : List (Nat × Nat) := []
  pairHigh : List (Nat × Nat) := []
  pairHighI3c : List (Nat × Nat) := []
  /-- RWO registers already written (R14). -/
  onceWritten : List RegKey := []
  /-- Management port and test access port (R433, R436). -/
  i3c : I3c := {}
  jtag : Jtag := {}
  /-- Drain ring: a message is owed, and the time of the last one, in ns (R422). -/
  irqLog : Bool := false
  irqLogAt : Option Nat := none
  /-- Free values used (notes/assumptions/1.md). -/
  free : Nat := 0
  deriving DecidableEq, Repr

/-- Nanoseconds of the model's own count, fabric time, the nanoseconds for which fabric time holds, and the
correction that its rate still has to make, in ns (R44, R46); the disciplined rate, in ppm above or below 1 GHz (R47), the
millionths of a ns that have added up, and the model's ns of the last TIME (notes/assumptions/45.md). -/
structure Clock where
  ns : Nat := 0
  ft : Nat := 0
  hold : Nat := 0
  trim : Int := 0
  rate : Int := 0
  acc : Int := 0
  seen : Nat := 0
  deriving DecidableEq, Repr

/-- What a command finds beside the device: time and fuses. -/
structure Env where
  clk : Clock
  nv : NonVol

/-- The machine. -/
structure State where
  dev : Dev := {}
  clk : Clock := {}
  nv : NonVol := {}
  /-- Commands that wait, first in first out. -/
  pending : List Instr := []
  deriving DecidableEq, Repr

/-- No command of this module stops it with a fault: what goes wrong on the module is state that its rules name. -/
inductive Fault
  deriving DecidableEq, Repr

/-- Why a command has no meaning. -/
inductive Refusal
  /-- Raised by exec's arm of a command that the model has not reached. Safe. -/
  | notModelled (mnemonic : String)
  /-- Raised by a command that names a unit the module does not have: a tile beyond 1,439, a link beyond 35, a
  stack beyond 19 and so on. Safe: no such command reaches the module. -/
  | noSuchUnit
  deriving DecidableEq, Repr

/-- The machine after de-assertion of MOD_RST_N. -/
def State.reset : State := {}

end Sys2Proof.Machine
end

