-- ==== Sys2Proof/Machine/Window.lean ====
section
/-! DEFINITION. The window of set-up registers (R13, R266): one row for each line of a register table, with its
offset in the window, the strides of its indices, its bits and its type (R14). -/

namespace Sys2Proof.Machine

/-- Register field types (R14). -/
inductive FieldType
  | rw
  | ro
  | w1c
  | wo
  | rwo
  | sat
  deriving DecidableEq, Repr

/-- A line of a register table: the field `reg`, of which bits from `part` upwards stand in bits [hi:lo] of the
word at base + Σ index · stride; `dims` gives stride and count of each index, the block's first. -/
structure WinRow where
  base : Nat
  dims : List (Nat × Nat)
  hi : Nat
  lo : Nat
  reg : Reg
  part : Nat
  type : FieldType
  deriving DecidableEq, Repr

/-- Lines of the window from 0x00000000. -/
def winRows0 : List WinRow := [
  ⟨0x0, [], 0, 0, .CFG_GRADE, 0, .ro⟩,
  ⟨0x0, [], 4, 1, .CFG_STEPPING, 0, .ro⟩,
  ⟨0x4, [], 31, 0, .CFG_SERIAL, 0, .ro⟩,
  ⟨0x8, [], 31, 0, .CFG_SERIAL, 32, .ro⟩,
  ⟨0xC, [], 5, 0, .CFG_SLOT_ID, 0, .ro⟩,
  ⟨0x10, [], 2, 0, .CFG_STATE, 0, .ro⟩,
  ⟨0x14, [], 0, 0, .CFG_RDY_UCIE, 0, .ro⟩,
  ⟨0x14, [], 1, 1, .CFG_RDY_HBM, 0, .ro⟩,
  ⟨0x14, [], 2, 2, .CFG_RDY_COL, 0, .ro⟩,
  ⟨0x14, [], 3, 3, .CFG_RDY_TILES, 0, .ro⟩,
  ⟨0x18, [], 10, 0, .CFG_TILES_READY, 0, .ro⟩,
  ⟨0x1C, [], 7, 0, .CFG_UCIE_UP, 0, .ro⟩,
  ⟨0x1C, [], 15, 8, .CFG_UCIE_OFF, 0, .ro⟩,
  ⟨0x20, [], 31, 0, .CFG_VER_FLOOR, 0, .rwo⟩,
  ⟨0x24, [], 31, 0, .CFG_VERSION, 0, .ro⟩,
  ⟨0x28, [], 0, 0, .CFG_STAGE_CLEAR, 0, .wo⟩,
  ⟨0x28, [], 1, 1, .CFG_COMMIT, 0, .wo⟩,
  ⟨0x2C, [], 3, 0, .CFG_COMMIT_RESULT, 0, .ro⟩,
  ⟨0x2C, [], 4, 4, .CFG_COMMIT_BUSY, 0, .ro⟩,
  ⟨0x2C, [], 16, 8, .CFG_STAGE_WORDS, 0, .ro⟩,
  ⟨0x30, [], 0, 0, .CFG_DEBUG_ALLOW, 0, .ro⟩,
  ⟨0x30, [], 1, 1, .CFG_JTAG_ALLOW, 0, .ro⟩,
  ⟨0x1000, [(0x4, 256)], 31, 0, .CFG_STAGE, 0, .rw⟩,
  ⟨0x2000, [(0x4, 64)], 31, 0, .CFG_MBOX_IN, 0, .ro⟩,
  ⟨0x2100, [], 8, 0, .CFG_MBOX_IN_LEN, 0, .ro⟩,
  ⟨0x2100, [], 16, 16, .CFG_MBOX_IN_FULL, 0, .ro⟩,
  ⟨0x2100, [], 17, 17, .CFG_MBOX_OUT_FULL, 0, .ro⟩,
  ⟨0x2104, [], 0, 0, .CFG_MBOX_IN_ACK, 0, .wo⟩,
  ⟨0x2104, [], 1, 1, .CFG_MBOX_OUT_POST, 0, .wo⟩,
  ⟨0x2108, [], 8, 0, .CFG_MBOX_OUT_LEN, 0, .rw⟩,
  ⟨0x210C, [], 15, 0, .CFG_MBOX_IRQ_VEC, 0, .rw⟩,
  ⟨0x210C, [], 16, 16, .CFG_MBOX_IRQ_EN, 0, .rw⟩,
  ⟨0x2200, [(0x4, 64)], 31, 0, .CFG_MBOX_OUT, 0, .rw⟩,
  ⟨0x100000, [], 31, 0, .RING_DOORBELL, 0, .wo⟩,
  ⟨0x100004, [], 31, 0, .RING_DB_IGNORED, 0, .sat⟩,
  ⟨0x101000, [(0x400, 8)], 0, 0, .RING_EN, 0, .rw⟩,
  ⟨0x101000, [(0x400, 8)], 1, 1, .RING_CMD_STOPPED, 0, .ro⟩,
  ⟨0x101000, [(0x400, 8)], 2, 2, .RING_CMD_RETRY, 0, .wo⟩,
  ⟨0x101000, [(0x400, 8)], 3, 3, .RING_DB_BAD, 0, .w1c⟩,
  ⟨0x101000, [(0x400, 8)], 4, 4, .RING_CQ_FULL, 0, .ro⟩,
  ⟨0x101004, [(0x400, 8)], 12, 0, .RING_GEN, 0, .rw⟩,
  ⟨0x101008, [(0x400, 8)], 31, 0, .RING_CMD_BASE, 0, .rw⟩,
  ⟨0x10100C, [(0x400, 8)], 31, 0, .RING_CMD_BASE, 32, .rw⟩,
  ⟨0x101010, [(0x400, 8)], 4, 0, .RING_CMD_LOG2, 0, .rw⟩,
  ⟨0x101010, [(0x400, 8)], 12, 8, .RING_CQ_LOG2, 0, .rw⟩,
  ⟨0x101010, [(0x400, 8)], 20, 16, .RING_EQ_LOG2, 0, .rw⟩,
  ⟨0x101014, [(0x400, 8)], 31, 0, .RING_CMD_SEQ0, 0, .rw⟩,
  ⟨0x101018, [(0x400, 8)], 15, 0, .RING_CMD_PROD, 0, .ro⟩,
  ⟨0x101018, [(0x400, 8)], 31, 16, .RING_CMD_CONS, 0, .ro⟩,
  ⟨0x10101C, [(0x400, 8)], 31, 0, .RING_CMD_EXPECT, 0, .ro⟩,
  ⟨0x101020, [(0x400, 8)], 31, 0, .RING_CQ_BASE, 0, .rw⟩,
  ⟨0x101024, [(0x400, 8)], 31, 0, .RING_CQ_BASE, 32, .rw⟩,
  ⟨0x101028, [(0x400, 8)], 15, 0, .RING_CQ_PROD, 0, .ro⟩,
  ⟨0x101028, [(0x400, 8)], 31, 16, .RING_CQ_CONS, 0, .rw⟩,
  ⟨0x10102C, [(0x400, 8)], 31, 0, .RING_CQ_CSEQ, 0, .ro⟩,
  ⟨0x101030, [(0x400, 8)], 31, 0, .RING_EQ_BASE, 0, .rw⟩,
  ⟨0x101034, [(0x400, 8)], 31, 0, .RING_EQ_BASE, 32, .rw⟩,
  ⟨0x101038, [(0x400, 8)], 15, 0, .RING_EQ_PROD, 0, .ro⟩,
  ⟨0x101038, [(0x400, 8)], 31, 16, .RING_EQ_CONS, 0, .rw⟩,
  ⟨0x10103C, [(0x400, 8)], 31, 0, .RING_EQ_ESEQ, 0, .ro⟩,
  ⟨0x101040, [(0x400, 8)], 15, 0, .RING_IRQ_VEC_CQ, 0, .rw⟩,
  ⟨0x101040, [(0x400, 8)], 31, 16, .RING_IRQ_VEC_EQ, 0, .rw⟩]

/-- Lines of the window from 0x00101044. -/
def winRows1 : List WinRow := [
  ⟨0x101044, [(0x400, 8)], 0, 0, .RING_IRQ_EN_CQ, 0, .rw⟩,
  ⟨0x101044, [(0x400, 8)], 1, 1, .RING_IRQ_EN_EQ, 0, .rw⟩,
  ⟨0x101044, [(0x400, 8)], 31, 16, .RING_IRQ_HOLDOFF, 0, .rw⟩,
  ⟨0x101048, [(0x400, 8)], 31, 0, .RING_DESC_REREADS, 0, .sat⟩,
  ⟨0x10104C, [(0x400, 8)], 31, 0, .RING_DESC_TIMEOUTS, 0, .sat⟩,
  ⟨0x101050, [(0x400, 8)], 31, 0, .RING_CQ_STALL, 0, .sat⟩,
  ⟨0x101054, [(0x400, 8)], 31, 0, .RING_EV_LOST, 0, .sat⟩,
  ⟨0x101058, [(0x400, 8)], 5, 0, .RING_EV_HELD, 0, .ro⟩,
  ⟨0x101200, [(0x400, 8), (0x4, 64)], 31, 0, .RING_ENTRY, 0, .rw⟩,
  ⟨0x200000, [], 12, 0, .PWR_BUDGET_W, 0, .rw⟩,
  ⟨0x200004, [], 12, 0, .PWR_BUDGET_EFF, 0, .ro⟩,
  ⟨0x200008, [], 12, 0, .PWR_RESERVE_W, 0, .ro⟩,
  ⟨0x20000C, [], 7, 0, .PWR_TOKEN_COST, 0, .ro⟩,
  ⟨0x200010, [], 10, 0, .PWR_CAPACITY, 0, .ro⟩,
  ⟨0x200010, [], 26, 16, .PWR_GRANTED, 0, .ro⟩,
  ⟨0x200014, [], 0, 0, .PWR_THROTTLED, 0, .ro⟩,
  ⟨0x200014, [], 1, 1, .PWR_SHED, 0, .ro⟩,
  ⟨0x200014, [], 2, 2, .PWR_OVER, 0, .ro⟩,
  ⟨0x200014, [], 3, 3, .PWR_THERMAL, 0, .ro⟩,
  ⟨0x200014, [], 7, 4, .PWR_TCLK_K, 0, .ro⟩,
  ⟨0x200018, [], 12, 0, .PWR_INPUT_W, 0, .ro⟩,
  ⟨0x20001C, [], 15, 0, .PWR_INPUT_MV, 0, .ro⟩,
  ⟨0x200020, [], 15, 0, .PWR_TJ_THROTTLE, 0, .rw⟩,
  ⟨0x200024, [], 15, 0, .PWR_TJ_TRIP, 0, .ro⟩,
  ⟨0x200024, [], 31, 16, .PWR_TJ_HBM_TRIP, 0, .ro⟩,
  ⟨0x200028, [], 15, 0, .PWR_TJ_MAX, 0, .ro⟩,
  ⟨0x20002C, [], 0, 0, .PWR_THROTTLE_SEEN, 0, .w1c⟩,
  ⟨0x20002C, [], 1, 1, .PWR_SHED_SEEN, 0, .w1c⟩,
  ⟨0x20002C, [], 2, 2, .PWR_OVER_SEEN, 0, .w1c⟩,
  ⟨0x20002C, [], 3, 3, .PWR_PEAK_SEEN, 0, .w1c⟩,
  ⟨0x20002C, [], 4, 4, .PWR_THERMAL_SEEN, 0, .w1c⟩,
  ⟨0x200030, [], 31, 0, .PWR_THROTTLE_COUNT, 0, .sat⟩,
  ⟨0x200034, [], 31, 0, .PWR_SHED_COUNT, 0, .sat⟩,
  ⟨0x200038, [], 31, 0, .PWR_STEP_US, 0, .sat⟩,
  ⟨0x200100, [(0x4, 8)], 31, 0, .PWR_CTX_OVERRUN, 0, .sat⟩,
  ⟨0x200120, [(0x4, 8)], 10, 0, .PWR_CTX_TOKENS, 0, .ro⟩,
  ⟨0x200200, [(0x40, 8), (0x4, 9)], 10, 0, .PWR_CTX_FIG, 0, .rw⟩,
  ⟨0x200400, [(0x4, 12)], 15, 0, .PWR_RAIL_MV, 0, .ro⟩,
  ⟨0x280100, [], 31, 0, .CLK_RC, 0, .ro⟩,
  ⟨0x280104, [], 31, 0, .CLK_RC, 32, .ro⟩,
  ⟨0x280108, [], 31, 0, .CLK_FT, 0, .ro⟩,
  ⟨0x28010C, [], 31, 0, .CLK_FT, 32, .ro⟩,
  ⟨0x280110, [], 0, 0, .CLK_RC_BOUND, 0, .ro⟩,
  ⟨0x280110, [], 1, 1, .CLK_FT_SYNCED, 0, .ro⟩,
  ⟨0x280110, [], 2, 2, .CLK_FT_MASTER, 0, .ro⟩,
  ⟨0x280110, [], 3, 3, .CLK_STEP_LIMIT, 0, .w1c⟩,
  ⟨0x280110, [], 4, 4, .CLK_BAD_ADVANCE, 0, .w1c⟩,
  ⟨0x280110, [], 5, 5, .CLK_BAD_SET, 0, .w1c⟩,
  ⟨0x280118, [], 31, 0, .CLK_RC_SET, 0, .rw⟩,
  ⟨0x28011C, [], 31, 0, .CLK_RC_SET, 32, .rw⟩,
  ⟨0x280120, [], 31, 0, .CLK_ARM_COORD, 0, .rw⟩,
  ⟨0x280124, [], 31, 0, .CLK_ARM_COORD, 32, .rw⟩,
  ⟨0x280128, [], 3, 0, .CLK_ARM_KIND, 0, .rw⟩,
  ⟨0x280128, [], 6, 4, .CLK_ARM_CTX, 0, .rw⟩,
  ⟨0x280128, [], 23, 8, .CLK_ARM_ACTION, 0, .rw⟩,
  ⟨0x280128, [], 31, 24, .CLK_ARM_SLOT, 0, .rw⟩,
  ⟨0x28012C, [], 0, 0, .CLK_ARM_GO, 0, .wo⟩,
  ⟨0x28012C, [], 1, 1, .CLK_ARM_CANCEL, 0, .wo⟩,
  ⟨0x28012C, [], 2, 2, .CLK_RC_SET_GO, 0, .wo⟩,
  ⟨0x280130, [], 7, 0, .CLK_ARM_RES_SLOT, 0, .ro⟩,
  ⟨0x280130, [], 11, 8, .CLK_ARM_RES_CODE, 0, .ro⟩,
  ⟨0x280134, [], 8, 0, .CLK_ARM_FREE, 0, .ro⟩]

/-- Lines of the window from 0x00280200. -/
def winRows2 : List WinRow := [
  ⟨0x280200, [(0x80, 8), (0x20, 4)], 31, 0, .CLK_EP_NUM, 0, .rw⟩,
  ⟨0x280204, [(0x80, 8), (0x20, 4)], 1, 0, .CLK_EP_STATE, 0, .rw⟩,
  ⟨0x280204, [(0x80, 8), (0x20, 4)], 17, 2, .CLK_EP_PINS, 0, .rw⟩,
  ⟨0x280208, [(0x80, 8), (0x20, 4)], 31, 0, .CLK_EP_PUB, 0, .rw⟩,
  ⟨0x28020C, [(0x80, 8), (0x20, 4)], 31, 0, .CLK_EP_PUB, 32, .rw⟩,
  ⟨0x280210, [(0x80, 8), (0x20, 4)], 31, 0, .CLK_EP_NEXT, 0, .rw⟩,
  ⟨0x280214, [(0x80, 8), (0x20, 4)], 31, 0, .CLK_EP_NEXT, 32, .rw⟩,
  ⟨0x280218, [(0x80, 8), (0x20, 4)], 31, 0, .CLK_EP_FILL_SEQ, 0, .ro⟩,
  ⟨0x28021C, [(0x80, 8), (0x20, 4)], 2, 0, .CLK_EP_FILL_CTX, 0, .ro⟩,
  ⟨0x280600, [(0x20, 8)], 2, 0, .CLK_CTX_STATE, 0, .ro⟩,
  ⟨0x280600, [(0x20, 8)], 3, 3, .CLK_CTX_PACING, 0, .ro⟩,
  ⟨0x280600, [(0x20, 8)], 4, 4, .CLK_CTX_FILL_WAIT, 0, .ro⟩,
  ⟨0x280600, [(0x20, 8)], 5, 5, .CLK_CTX_FAIL_PEND, 0, .ro⟩,
  ⟨0x280600, [(0x20, 8)], 15, 8, .CLK_CTX_PEND_CAUSE, 0, .ro⟩,
  ⟨0x280604, [(0x20, 8)], 31, 0, .CLK_CTX_SEQ, 0, .ro⟩,
  ⟨0x280608, [(0x20, 8)], 31, 0, .CLK_CTX_DL, 0, .ro⟩,
  ⟨0x28060C, [(0x20, 8)], 31, 0, .CLK_CTX_DL, 32, .ro⟩,
  ⟨0x280610, [(0x20, 8)], 31, 0, .CLK_CTX_LATE, 0, .sat⟩,
  ⟨0x280614, [(0x20, 8)], 31, 0, .CLK_CTX_EP_STALLS, 0, .sat⟩,
  ⟨0x280618, [(0x20, 8)], 31, 0, .CLK_CTX_ABORTS, 0, .sat⟩,
  ⟨0x28061C, [(0x20, 8)], 31, 0, .CLK_CTX_PEND_LOG, 0, .ro⟩,
  ⟨0x280800, [(0x10, 18)], 1, 0, .CLK_DOM_STATE, 0, .ro⟩,
  ⟨0x280804, [(0x10, 18)], 15, 0, .CLK_DOM_MHZ, 0, .ro⟩,
  ⟨0x280808, [(0x10, 18)], 31, 0, .CLK_DOM_LOSS, 0, .sat⟩,
  ⟨0x300000, [(0x1000, 20)], 2, 0, .HBM_STACK_STATE, 0, .ro⟩,
  ⟨0x300004, [(0x1000, 20)], 31, 0, .HBM_PC_RETIRED, 0, .ro⟩,
  ⟨0x300008, [(0x1000, 20)], 4, 0, .HBM_RETIRE_PC, 0, .rw⟩,
  ⟨0x30000C, [(0x1000, 20)], 0, 0, .HBM_RETIRE_GO, 0, .wo⟩,
  ⟨0x300010, [(0x1000, 20)], 2, 0, .HBM_RETIRE_RESULT, 0, .ro⟩,
  ⟨0x300014, [(0x1000, 20)], 23, 0, .HBM_MIGRATE_LEFT, 0, .ro⟩,
  ⟨0x300018, [(0x1000, 20)], 15, 0, .HBM_CE_THRESH, 0, .rw⟩,
  ⟨0x30001C, [(0x1000, 20)], 0, 0, .HBM_CE_OVER, 0, .w1c⟩,
  ⟨0x30001C, [(0x1000, 20)], 1, 1, .HBM_UE_SEEN, 0, .w1c⟩,
  ⟨0x30001C, [(0x1000, 20)], 2, 2, .HBM_EVICT_FAIL, 0, .w1c⟩,
  ⟨0x30001C, [(0x1000, 20)], 3, 3, .HBM_MIGRATE_UE, 0, .w1c⟩,
  ⟨0x300020, [(0x1000, 20)], 15, 0, .HBM_PATROL_PASSES, 0, .ro⟩,
  ⟨0x300024, [(0x1000, 20)], 31, 0, .HBM_WCB_MERGED, 0, .sat⟩,
  ⟨0x300028, [(0x1000, 20)], 31, 0, .HBM_WCB_RMW, 0, .sat⟩,
  ⟨0x300100, [(0x1000, 20), (0x4, 32)], 31, 0, .HBM_PC_CE, 0, .sat⟩,
  ⟨0x300200, [(0x1000, 20), (0x4, 32)], 31, 0, .HBM_PC_UE, 0, .sat⟩,
  ⟨0x314000, [], 31, 0, .HBM_CAP, 0, .ro⟩,
  ⟨0x314004, [], 31, 0, .HBM_CAP, 32, .ro⟩,
  ⟨0x314008, [], 3, 0, .HBM_RET_MAX, 0, .ro⟩,
  ⟨0x31400C, [], 19, 0, .HBM_READY_MASK, 0, .ro⟩,
  ⟨0x314010, [], 0, 0, .HBM_BEYOND_CAP, 0, .w1c⟩,
  ⟨0x400000, [(0x1000, 36)], 2, 0, .LNK_STATE, 0, .ro⟩,
  ⟨0x400000, [(0x1000, 36)], 6, 3, .LNK_LANES, 0, .ro⟩,
  ⟨0x400004, [(0x1000, 36)], 0, 0, .LNK_EN, 0, .rw⟩,
  ⟨0x400008, [(0x1000, 36)], 0, 0, .LNK_RETRAIN_GO, 0, .wo⟩,
  ⟨0x40000C, [(0x1000, 36)], 7, 0, .LNK_LANE_RETIRE, 0, .rw⟩,
  ⟨0x400010, [(0x1000, 36)], 15, 0, .LNK_RTT, 0, .ro⟩,
  ⟨0x400010, [(0x1000, 36)], 31, 16, .LNK_DELAY, 0, .ro⟩,
  ⟨0x400014, [(0x1000, 36)], 31, 0, .LNK_NBR_SERIAL, 0, .ro⟩,
  ⟨0x400018, [(0x1000, 36)], 31, 0, .LNK_NBR_SERIAL, 32, .ro⟩,
  ⟨0x40001C, [(0x1000, 36)], 15, 0, .LNK_NBR_ADDR, 0, .ro⟩,
  ⟨0x40001C, [(0x1000, 36)], 16, 16, .LNK_NBR_ADDR_V, 0, .ro⟩,
  ⟨0x40001C, [(0x1000, 36)], 17, 17, .LNK_NBR_GRADE, 0, .ro⟩,
  ⟨0x40001C, [(0x1000, 36)], 18, 18, .LNK_NBR_STEP, 0, .ro⟩,
  ⟨0x40001C, [(0x1000, 36)], 24, 19, .LNK_NBR_SLOT, 0, .ro⟩,
  ⟨0x40001C, [(0x1000, 36)], 30, 25, .LNK_NBR_LINK, 0, .ro⟩,
  ⟨0x40001C, [(0x1000, 36)], 31, 31, .LNK_NBR_VALID, 0, .ro⟩,
  ⟨0x400020, [(0x1000, 36)], 0, 0, .LNK_HB_MISS, 0, .w1c⟩]

/-- Lines of the window from 0x00400020. -/
def winRows3 : List WinRow := [
  ⟨0x400020, [(0x1000, 36)], 1, 1, .LNK_RETRY_EXH, 0, .w1c⟩,
  ⟨0x400020, [(0x1000, 36)], 2, 2, .LNK_RETRAIN_FAIL, 0, .w1c⟩,
  ⟨0x400020, [(0x1000, 36)], 3, 3, .LNK_DLX_TWICE, 0, .w1c⟩,
  ⟨0x400040, [(0x1000, 36), (0x4, 8)], 12, 0, .LNK_VCBUF, 0, .rw⟩,
  ⟨0x400060, [(0x1000, 36)], 31, 0, .LNK_FLITS_RX, 0, .sat⟩,
  ⟨0x400064, [(0x1000, 36)], 31, 0, .LNK_REPLAYS, 0, .sat⟩,
  ⟨0x400068, [(0x1000, 36)], 31, 0, .LNK_FEC_CORR, 0, .sat⟩,
  ⟨0x40006C, [(0x1000, 36)], 31, 0, .LNK_FEC_UNCORR, 0, .sat⟩,
  ⟨0x400070, [(0x1000, 36)], 31, 0, .LNK_CRC_BAD, 0, .sat⟩,
  ⟨0x400074, [(0x1000, 36)], 31, 0, .LNK_UNDELIV, 0, .sat⟩,
  ⟨0x400078, [(0x1000, 36)], 31, 0, .LNK_HOLD_DROP, 0, .sat⟩,
  ⟨0x400100, [(0x1000, 36)], 15, 0, .LNK_COL_RANK, 0, .rw⟩,
  ⟨0x400100, [(0x1000, 36)], 16, 16, .LNK_COL_RANK_V, 0, .rw⟩,
  ⟨0x400104, [(0x1000, 36)], 20, 0, .LNK_COL_STAGED, 0, .ro⟩,
  ⟨0x400108, [(0x1000, 36)], 31, 0, .LNK_COL_PKTS, 0, .sat⟩,
  ⟨0x40010C, [(0x1000, 36)], 31, 0, .LNK_COL_STALE, 0, .sat⟩,
  ⟨0x424000, [], 15, 0, .LNK_MY_ADDR, 0, .rw⟩,
  ⟨0x424000, [], 16, 16, .LNK_ADDR_V, 0, .rw⟩,
  ⟨0x424004, [], 15, 0, .LNK_MY_RANK, 0, .rw⟩,
  ⟨0x424008, [], 16, 0, .LNK_RANK_COUNT, 0, .rw⟩,
  ⟨0x42400C, [], 0, 0, .LNK_ROUTE_EN, 0, .rw⟩,
  ⟨0x424010, [], 15, 0, .LNK_LIVE, 0, .rw⟩,
  ⟨0x424014, [], 9, 0, .LNK_HOLD_LIMIT, 0, .rw⟩,
  ⟨0x424018, [], 31, 0, .LNK_INFLIGHT, 0, .ro⟩,
  ⟨0x42401C, [], 15, 0, .LNK_IRQ_VEC, 0, .rw⟩,
  ⟨0x424020, [], 7, 0, .LNK_HOIST_ID, 0, .rw⟩,
  ⟨0x424020, [], 8, 8, .LNK_HOIST_WIRED, 0, .rw⟩,
  ⟨0x424024, [], 5, 0, .LNK_HOIST_PARENT, 0, .rw⟩,
  ⟨0x424028, [], 31, 0, .LNK_HOIST_CHILD, 0, .rw⟩,
  ⟨0x42402C, [], 3, 0, .LNK_HOIST_CHILD, 32, .rw⟩,
  ⟨0x424030, [], 23, 0, .LNK_HOIST_DEPTH, 0, .rw⟩,
  ⟨0x424034, [], 23, 0, .LNK_HOIST_DMAX, 0, .rw⟩,
  ⟨0x424038, [], 15, 0, .LNK_HOIST_TIMEOUT, 0, .rw⟩,
  ⟨0x42403C, [], 0, 0, .LNK_HOIST_ENTER, 0, .wo⟩,
  ⟨0x42403C, [], 1, 1, .LNK_HOIST_ABANDON, 0, .wo⟩,
  ⟨0x424040, [], 2, 0, .LNK_HOIST_STATE, 0, .ro⟩,
  ⟨0x424044, [], 31, 0, .LNK_LATE_RESP, 0, .sat⟩,
  ⟨0x424048, [], 31, 0, .LNK_E2E_BAD, 0, .sat⟩,
  ⟨0x42404C, [], 0, 0, .LNK_COL_QUIET, 0, .ro⟩,
  ⟨0x425000, [(0x100, 8)], 31, 0, .LNK_COL_TBL, 0, .rw⟩,
  ⟨0x425004, [(0x100, 8)], 31, 0, .LNK_COL_TBL, 32, .rw⟩,
  ⟨0x425008, [(0x100, 8)], 15, 0, .LNK_COL_TBL_N, 0, .rw⟩,
  ⟨0x42500C, [(0x100, 8)], 15, 0, .LNK_COL_WALK, 0, .ro⟩,
  ⟨0x42500C, [(0x100, 8)], 20, 16, .LNK_COL_OPEN, 0, .ro⟩,
  ⟨0x425010, [(0x100, 8)], 31, 0, .LNK_COL_POS, 0, .ro⟩,
  ⟨0x425014, [(0x100, 8)], 31, 0, .LNK_COL_POS, 32, .ro⟩,
  ⟨0x425018, [(0x100, 8)], 15, 0, .LNK_COL_STALL_MS, 0, .rw⟩,
  ⟨0x42501C, [(0x100, 8)], 0, 0, .LNK_COL_FAILED, 0, .w1c⟩,
  ⟨0x42501C, [(0x100, 8)], 1, 1, .LNK_COL_POS_BAD, 0, .w1c⟩,
  ⟨0x42501C, [(0x100, 8)], 2, 2, .LNK_COL_FAIL_PEND, 0, .ro⟩,
  ⟨0x425020, [(0x100, 8)], 31, 0, .LNK_COL_DONE, 0, .sat⟩,
  ⟨0x425024, [(0x100, 8)], 31, 0, .LNK_COL_FAILS, 0, .sat⟩,
  ⟨0x480000, [(0x4, 16384)], 31, 0, .LNK_ROUTE_WORD, 0, .rw⟩,
  ⟨0x4C0000, [(0x4, 32768)], 31, 0, .LNK_RANK_WORD, 0, .rw⟩,
  ⟨0x500000, [(0x1000, 4)], 15, 0, .ETH_DB_PROD, 0, .wo⟩,
  ⟨0x500000, [(0x1000, 4)], 25, 16, .ETH_DB_QP, 0, .wo⟩,
  ⟨0x500004, [(0x1000, 4)], 2, 0, .ETH_PORT_STATE, 0, .ro⟩,
  ⟨0x500004, [(0x1000, 4)], 3, 3, .ETH_MEDIA, 0, .ro⟩,
  ⟨0x500008, [(0x1000, 4)], 13, 0, .ETH_MAX_FRAME, 0, .rw⟩,
  ⟨0x50000C, [(0x1000, 4)], 7, 0, .ETH_PFC_EN, 0, .rw⟩,
  ⟨0x50000C, [(0x1000, 4)], 10, 8, .ETH_ROCE_PRIO, 0, .rw⟩,
  ⟨0x500010, [(0x1000, 4)], 9, 0, .ETH_QP_SEL, 0, .rw⟩]

/-- Lines of the window from 0x00500014. -/
def winRows4 : List WinRow := [
  ⟨0x500014, [(0x1000, 4)], 31, 0, .ETH_QP_SQ, 0, .rw⟩,
  ⟨0x500018, [(0x1000, 4)], 31, 0, .ETH_QP_SQ, 32, .rw⟩,
  ⟨0x50001C, [(0x1000, 4)], 31, 0, .ETH_QP_CQ, 0, .rw⟩,
  ⟨0x500020, [(0x1000, 4)], 31, 0, .ETH_QP_CQ, 32, .rw⟩,
  ⟨0x500024, [(0x1000, 4)], 4, 0, .ETH_QP_SQ_LOG2, 0, .rw⟩,
  ⟨0x500024, [(0x1000, 4)], 12, 8, .ETH_QP_CQ_LOG2, 0, .rw⟩,
  ⟨0x500024, [(0x1000, 4)], 16, 16, .ETH_QP_EN, 0, .rw⟩,
  ⟨0x500024, [(0x1000, 4)], 17, 17, .ETH_QP_NVME, 0, .rw⟩,
  ⟨0x500028, [(0x1000, 4)], 31, 0, .ETH_QP_SEQ0, 0, .rw⟩,
  ⟨0x50002C, [(0x1000, 4)], 15, 0, .ETH_QP_CQ_CONS, 0, .rw⟩,
  ⟨0x50002C, [(0x1000, 4)], 31, 16, .ETH_QP_SQ_CONS, 0, .ro⟩,
  ⟨0x500030, [(0x1000, 4)], 23, 0, .ETH_QP_REMOTE_QPN, 0, .rw⟩,
  ⟨0x500040, [(0x1000, 4)], 31, 0, .ETH_RX_BYTES, 0, .sat⟩,
  ⟨0x500044, [(0x1000, 4)], 31, 0, .ETH_TX_BYTES, 0, .sat⟩,
  ⟨0x500048, [(0x1000, 4)], 31, 0, .ETH_FEC_UNCORR, 0, .sat⟩,
  ⟨0x50004C, [(0x1000, 4)], 31, 0, .ETH_PFC_PAUSED, 0, .sat⟩,
  ⟨0x600000, [(0x100, 64)], 3, 0, .MON_SRC, 0, .rw⟩,
  ⟨0x600000, [(0x100, 64)], 4, 4, .MON_EN, 0, .rw⟩,
  ⟨0x600000, [(0x100, 64)], 9, 5, .MON_SHIFT, 0, .rw⟩,
  ⟨0x600000, [(0x100, 64)], 17, 10, .MON_EXP_BASE, 0, .rw⟩,
  ⟨0x600000, [(0x100, 64)], 20, 18, .MON_CTX, 0, .rw⟩,
  ⟨0x600000, [(0x100, 64)], 21, 21, .MON_CTX_ANY, 0, .rw⟩,
  ⟨0x600000, [(0x100, 64)], 25, 22, .MON_DIV, 0, .rw⟩,
  ⟨0x600004, [(0x100, 64)], 10, 0, .MON_FA, 0, .rw⟩,
  ⟨0x600004, [(0x100, 64)], 25, 16, .MON_FB, 0, .rw⟩,
  ⟨0x600008, [(0x100, 64)], 31, 0, .MON_MIN, 0, .ro⟩,
  ⟨0x60000C, [(0x100, 64)], 31, 0, .MON_MAX, 0, .ro⟩,
  ⟨0x600010, [(0x100, 64)], 31, 0, .MON_COUNT, 0, .sat⟩,
  ⟨0x600014, [(0x100, 64)], 0, 0, .MON_SAT, 0, .w1c⟩,
  ⟨0x600018, [(0x100, 64)], 31, 0, .MON_LAST, 0, .ro⟩,
  ⟨0x60001C, [(0x100, 64)], 0, 0, .MON_CLEAR, 0, .wo⟩,
  ⟨0x600080, [(0x100, 64), (0x4, 32)], 31, 0, .MON_BUCKET, 0, .sat⟩,
  ⟨0x604000, [], 15, 0, .MON_PERIOD_US, 0, .rw⟩,
  ⟨0x604004, [], 31, 0, .MON_SNAP_ADDR, 0, .rw⟩,
  ⟨0x604008, [], 31, 0, .MON_SNAP_ADDR, 32, .rw⟩,
  ⟨0x60400C, [], 7, 0, .MON_SNAP_FRAMES, 0, .rw⟩,
  ⟨0x60400C, [], 8, 8, .MON_SNAP_CLEAR, 0, .rw⟩,
  ⟨0x604010, [], 31, 0, .MON_SNAP_COUNT, 0, .ro⟩,
  ⟨0x604014, [], 31, 0, .MON_SNAP_MISSED, 0, .sat⟩,
  ⟨0x604018, [], 0, 0, .MON_SNAP_GO, 0, .wo⟩,
  ⟨0x60401C, [], 0, 0, .MON_SAT_SEEN, 0, .w1c⟩,
  ⟨0x604020, [], 25, 0, .MON_SAT_QUERY_OFF, 0, .rw⟩,
  ⟨0x604024, [], 0, 0, .MON_SAT_QUERY_BIT, 0, .ro⟩,
  ⟨0x604028, [], 31, 0, .MON_SAT_EVENTS, 0, .sat⟩,
  ⟨0x608000, [(0x1000, 8), (0x4, 1024)], 31, 0, .MON_UR_LAST, 0, .ro⟩,
  ⟨0x680000, [], 31, 0, .LOG_HEAD, 0, .ro⟩,
  ⟨0x680004, [], 31, 0, .LOG_COPY, 0, .ro⟩,
  ⟨0x680008, [], 31, 0, .LOG_RING_BASE, 0, .rw⟩,
  ⟨0x68000C, [], 31, 0, .LOG_RING_BASE, 32, .rw⟩,
  ⟨0x680010, [], 4, 0, .LOG_RING_LOG2, 0, .rw⟩,
  ⟨0x680010, [], 8, 8, .LOG_DRAIN_EN, 0, .rw⟩,
  ⟨0x680010, [], 9, 9, .LOG_IRQ_EN, 0, .rw⟩,
  ⟨0x680014, [], 15, 0, .LOG_RING_PROD, 0, .ro⟩,
  ⟨0x680014, [], 31, 16, .LOG_RING_CONS, 0, .rw⟩,
  ⟨0x680018, [], 31, 0, .LOG_LOST, 0, .sat⟩,
  ⟨0x68001C, [], 15, 0, .LOG_IRQ_VEC, 0, .rw⟩,
  ⟨0x68001C, [], 31, 16, .LOG_IRQ_HOLDOFF, 0, .rw⟩,
  ⟨0x700000, [], 0, 0, .TEST_FATAL, 0, .ro⟩,
  ⟨0x700000, [], 1, 1, .TEST_SUSPECT, 0, .ro⟩,
  ⟨0x700000, [], 2, 2, .TEST_DRAINED, 0, .ro⟩,
  ⟨0x700004, [], 15, 0, .TEST_FATAL_CLASS, 0, .ro⟩,
  ⟨0x700004, [], 31, 16, .TEST_SUSPECT_CLASS, 0, .ro⟩]

/-- Lines of the window from 0x00700008. -/
def winRows5 : List WinRow := [
  ⟨0x700008, [], 15, 0, .TEST_MARK_CLASS, 0, .rw⟩,
  ⟨0x70000C, [], 0, 0, .TEST_MARK_SUSPECT, 0, .wo⟩,
  ⟨0x70000C, [], 1, 1, .TEST_DRAIN, 0, .wo⟩,
  ⟨0x70000C, [], 2, 2, .TEST_MARK_NOTE, 0, .wo⟩,
  ⟨0x700010, [], 15, 0, .TEST_PACK_ID, 0, .ro⟩,
  ⟨0x700010, [], 31, 16, .TEST_PACK_VER, 0, .ro⟩,
  ⟨0x700014, [], 31, 0, .TEST_PACK_ADDR, 0, .rw⟩,
  ⟨0x700018, [], 31, 0, .TEST_PACK_ADDR, 32, .rw⟩,
  ⟨0x70001C, [], 0, 0, .TEST_PACK_LOAD, 0, .wo⟩,
  ⟨0x700020, [], 2, 0, .TEST_PACK_RESULT, 0, .ro⟩,
  ⟨0x700024, [], 4, 0, .TEST_RUN_MAX, 0, .rw⟩,
  ⟨0x700028, [], 31, 0, .TEST_ERR_NOTE, 0, .sat⟩,
  ⟨0x70002C, [], 31, 0, .TEST_ERR_STEP, 0, .sat⟩,
  ⟨0x700030, [], 31, 0, .TEST_ERR_SUSPECT, 0, .sat⟩,
  ⟨0x700034, [], 31, 0, .TEST_ERR_FATAL, 0, .sat⟩,
  ⟨0x700040, [], 31, 0, .TEST_RCP_PLAN, 0, .rw⟩,
  ⟨0x700044, [], 31, 0, .TEST_RCP_PLAN, 32, .rw⟩,
  ⟨0x700048, [], 31, 0, .TEST_RCP_PIECES, 0, .rw⟩,
  ⟨0x70004C, [], 15, 0, .TEST_RCP_ID, 0, .rw⟩,
  ⟨0x700050, [], 31, 0, .TEST_RCP_STEP, 0, .rw⟩,
  ⟨0x700054, [], 7, 0, .TEST_RCP_STEP, 32, .rw⟩,
  ⟨0x700058, [], 0, 0, .TEST_RCP_GO, 0, .wo⟩,
  ⟨0x700058, [], 1, 1, .TEST_RCP_ABORT, 0, .wo⟩,
  ⟨0x70005C, [], 1, 0, .TEST_RCP_STATE, 0, .ro⟩,
  ⟨0x70005C, [], 5, 2, .TEST_RCP_CAUSE, 0, .ro⟩,
  ⟨0x700060, [], 31, 0, .TEST_PACK_CERT, 0, .rw⟩,
  ⟨0x700064, [], 31, 0, .TEST_PACK_CERT, 32, .rw⟩,
  ⟨0x700080, [(0x4, 4)], 31, 0, .TEST_MARK_SYN, 0, .rw⟩,
  ⟨0x700100, [(0x20, 16)], 10, 0, .TEST_L_TILE, 0, .rw⟩,
  ⟨0x700100, [(0x20, 16)], 18, 16, .TEST_L_STATE, 0, .ro⟩,
  ⟨0x700100, [(0x20, 16)], 22, 19, .TEST_L_REASON, 0, .ro⟩,
  ⟨0x700104, [(0x20, 16)], 11, 0, .TEST_L_XCLK_MHZ, 0, .rw⟩,
  ⟨0x700108, [(0x20, 16)], 7, 0, .TEST_L_VDROP, 0, .rw⟩,
  ⟨0x70010C, [(0x20, 16)], 15, 0, .TEST_L_TJ, 0, .rw⟩,
  ⟨0x700110, [(0x20, 16)], 0, 0, .TEST_L_GO, 0, .wo⟩,
  ⟨0x700110, [(0x20, 16)], 1, 1, .TEST_L_ABORT, 0, .wo⟩,
  ⟨0x700114, [(0x20, 16)], 31, 0, .TEST_L_FAIL_PAT, 0, .ro⟩,
  ⟨0x700118, [(0x20, 16)], 31, 0, .TEST_L_ELAPSED_MS, 0, .ro⟩,
  ⟨0x780000, [(0x4, 8)], 31, 0, .SEC_ROOT_HASH, 0, .ro⟩,
  ⟨0x780020, [], 6, 0, .SEC_ARB_COUNT, 0, .ro⟩,
  ⟨0x780024, [], 6, 0, .SEC_ARB_TARGET, 0, .rw⟩,
  ⟨0x780028, [], 0, 0, .SEC_ARB_ADVANCE, 0, .wo⟩,
  ⟨0x78002C, [], 3, 0, .SEC_OWNER_BURNED, 0, .ro⟩,
  ⟨0x78002C, [], 7, 4, .SEC_OWNER_REVOKED, 0, .ro⟩,
  ⟨0x78002C, [], 9, 8, .SEC_OWNER_ACTIVE, 0, .ro⟩,
  ⟨0x78002C, [], 10, 10, .SEC_OWNER_NONE, 0, .ro⟩,
  ⟨0x780030, [], 1, 0, .SEC_OWNER_SLOT, 0, .rw⟩,
  ⟨0x780034, [], 0, 0, .SEC_OWNER_BURN, 0, .wo⟩,
  ⟨0x780034, [], 1, 1, .SEC_OWNER_REVOKE, 0, .wo⟩,
  ⟨0x780038, [], 1, 0, .SEC_FUSE_RESULT, 0, .ro⟩,
  ⟨0x780040, [(0x4, 8)], 31, 0, .SEC_OWNER_HASH, 0, .rw⟩,
  ⟨0x780100, [(0x20, 4), (0x4, 8)], 31, 0, .SEC_OWNER_FUSE, 0, .ro⟩,
  ⟨0x780200, [], 31, 0, .SEC_IMG_ADDR, 0, .rw⟩,
  ⟨0x780204, [], 31, 0, .SEC_IMG_ADDR, 32, .rw⟩,
  ⟨0x780208, [], 31, 0, .SEC_CERT_ADDR, 0, .rw⟩,
  ⟨0x78020C, [], 31, 0, .SEC_CERT_ADDR, 32, .rw⟩,
  ⟨0x780210, [], 3, 0, .SEC_IMG_KIND, 0, .rw⟩,
  ⟨0x780210, [], 6, 4, .SEC_IMG_CTX, 0, .rw⟩,
  ⟨0x780214, [], 0, 0, .SEC_VERIFY_GO, 0, .wo⟩,
  ⟨0x780218, [], 3, 0, .SEC_VERIFY_RESULT, 0, .ro⟩,
  ⟨0x780218, [], 4, 4, .SEC_VERIFY_BUSY, 0, .ro⟩,
  ⟨0x780220, [], 0, 0, .SEC_FW_ACTIVE, 0, .ro⟩]

/-- Lines of the window from 0x00780220. -/
def winRows6 : List WinRow := [
  ⟨0x780220, [], 1, 1, .SEC_FW_PENDING, 0, .ro⟩,
  ⟨0x780220, [], 2, 2, .SEC_FW_REVERTED, 0, .w1c⟩,
  ⟨0x780220, [], 3, 3, .SEC_FW_SWITCHING, 0, .ro⟩,
  ⟨0x780224, [], 6, 0, .SEC_FW_SVN_A, 0, .ro⟩,
  ⟨0x780224, [], 14, 8, .SEC_FW_SVN_B, 0, .ro⟩,
  ⟨0x780228, [], 0, 0, .SEC_FW_HANDOVER, 0, .wo⟩,
  ⟨0x780228, [], 1, 1, .SEC_FW_ALIVE, 0, .wo⟩,
  ⟨0x780230, [], 10, 0, .SEC_UC_TILE, 0, .rw⟩,
  ⟨0x780234, [], 0, 0, .SEC_UC_GO, 0, .wo⟩,
  ⟨0x780238, [], 1, 0, .SEC_UC_STATE, 0, .ro⟩,
  ⟨0x780238, [], 8, 2, .SEC_UC_SVN, 0, .ro⟩,
  ⟨0x780240, [], 0, 0, .SEC_CAL_APPLY, 0, .wo⟩,
  ⟨0x780244, [], 31, 0, .SEC_CAL_VER, 0, .ro⟩,
  ⟨0x780300, [(0x4, 8)], 31, 0, .SEC_ATT_NONCE, 0, .rw⟩,
  ⟨0x780320, [], 31, 0, .SEC_ATT_ADDR, 0, .rw⟩,
  ⟨0x780324, [], 31, 0, .SEC_ATT_ADDR, 32, .rw⟩,
  ⟨0x780328, [], 0, 0, .SEC_ATT_GO, 0, .wo⟩,
  ⟨0x78032C, [], 1, 0, .SEC_ATT_STATE, 0, .ro⟩,
  ⟨0x78032C, [], 28, 16, .SEC_ATT_LEN, 0, .ro⟩,
  ⟨0x780330, [], 5, 0, .SEC_MEAS_COUNT, 0, .ro⟩,
  ⟨0x780334, [], 0, 0, .SEC_ID_PRESENT, 0, .ro⟩,
  ⟨0x780338, [], 31, 0, .SEC_ID_KEY_ID, 0, .ro⟩,
  ⟨0x78033C, [], 31, 0, .SEC_ID_KEY_ID, 32, .ro⟩,
  ⟨0x800000, [(0x100, 8)], 0, 0, .DBG_MODE, 0, .rw⟩,
  ⟨0x800000, [(0x100, 8)], 1, 1, .DBG_HZ_EN, 0, .rw⟩,
  ⟨0x800000, [(0x100, 8)], 2, 2, .DBG_HZ_HALT, 0, .rw⟩,
  ⟨0x800004, [(0x100, 8)], 23, 0, .DBG_WAIT_LIMIT, 0, .rw⟩,
  ⟨0x800008, [(0x100, 8)], 6, 0, .DBG_HZ_STATUS, 0, .w1c⟩,
  ⟨0x80000C, [(0x100, 8)], 31, 0, .DBG_HZ_COUNT, 0, .sat⟩,
  ⟨0x800010, [(0x100, 8)], 15, 0, .DBG_ACC_TILE, 0, .rw⟩,
  ⟨0x800014, [(0x100, 8)], 31, 0, .DBG_ACC_OP, 0, .rw⟩,
  ⟨0x800018, [(0x100, 8)], 15, 0, .DBG_ACC_ROW, 0, .rw⟩,
  ⟨0x800018, [(0x100, 8)], 31, 16, .DBG_ACC_COL, 0, .rw⟩,
  ⟨0x80001C, [(0x100, 8)], 0, 0, .DBG_ACC_ARM, 0, .rw⟩,
  ⟨0x80001C, [(0x100, 8)], 1, 1, .DBG_ACC_DONE, 0, .w1c⟩,
  ⟨0x800020, [(0x100, 8)], 31, 0, .DBG_ACC_ADDR, 0, .rw⟩,
  ⟨0x800024, [(0x100, 8)], 31, 0, .DBG_ACC_ADDR, 32, .rw⟩,
  ⟨0x800028, [(0x100, 8)], 31, 0, .DBG_ACC_ISSUE, 0, .ro⟩,
  ⟨0x1000000, [(0x4000, 1440)], 5, 0, .TILE_PHYS_X, 0, .ro⟩,
  ⟨0x1000000, [(0x4000, 1440)], 11, 6, .TILE_PHYS_Y, 0, .ro⟩,
  ⟨0x1000004, [(0x4000, 1440)], 2, 0, .TILE_STATE, 0, .ro⟩,
  ⟨0x1000004, [(0x4000, 1440)], 3, 3, .TILE_FOLDED, 0, .ro⟩,
  ⟨0x1000008, [(0x4000, 1440)], 15, 0, .TILE_LOG_A, 0, .rw⟩,
  ⟨0x1000008, [(0x4000, 1440)], 31, 16, .TILE_LOG_B, 0, .rw⟩,
  ⟨0x100000C, [(0x4000, 1440)], 7, 0, .TILE_CTX_EN, 0, .rw⟩,
  ⟨0x1000010, [(0x4000, 1440)], 7, 0, .TILE_HALTED, 0, .ro⟩,
  ⟨0x1000014, [(0x4000, 1440)], 7, 0, .TILE_HALT, 0, .wo⟩,
  ⟨0x1000014, [(0x4000, 1440)], 15, 8, .TILE_RESUME, 0, .wo⟩,
  ⟨0x1000018, [(0x4000, 1440)], 0, 0, .TILE_MALFORMED, 0, .w1c⟩,
  ⟨0x1000018, [(0x4000, 1440)], 1, 1, .TILE_BOUNDS, 0, .w1c⟩,
  ⟨0x1000018, [(0x4000, 1440)], 2, 2, .TILE_PEN_OVF, 0, .w1c⟩,
  ⟨0x1000018, [(0x4000, 1440)], 3, 3, .TILE_LAND_REJECT, 0, .w1c⟩,
  ⟨0x100001C, [(0x4000, 1440)], 0, 0, .TILE_FOLD_VIEW, 0, .rw⟩,
  ⟨0x1000020, [(0x4000, 1440)], 31, 0, .TILE_FOLD_BACK, 0, .rw⟩,
  ⟨0x1000024, [(0x4000, 1440)], 31, 0, .TILE_FOLD_BACK, 32, .rw⟩,
  ⟨0x1000028, [(0x4000, 1440)], 8, 0, .TILE_FOLD_TS_ON, 0, .rw⟩,
  ⟨0x1000028, [(0x4000, 1440)], 22, 16, .TILE_FOLD_GS_ON, 0, .rw⟩,
  ⟨0x100002C, [(0x4000, 1440)], 8, 0, .TILE_FOLD_TS_AT, 0, .rw⟩,
  ⟨0x100002C, [(0x4000, 1440)], 21, 16, .TILE_FOLD_GS_AT, 0, .rw⟩,
  ⟨0x1000030, [(0x4000, 1440)], 0, 0, .TILE_FOLD_TB_OWNER, 0, .ro⟩,
  ⟨0x1000100, [(0x4000, 1440), (0x20, 8)], 8, 0, .TILE_TS_BASE, 0, .rw⟩,
  ⟨0x1000100, [(0x4000, 1440), (0x20, 8)], 24, 16, .TILE_TS_LIMIT, 0, .rw⟩]

/-- Lines of the window from 0x01000104. -/
def winRows7 : List WinRow := [
  ⟨0x1000104, [(0x4000, 1440), (0x20, 8)], 5, 0, .TILE_GS_BASE, 0, .rw⟩,
  ⟨0x1000104, [(0x4000, 1440), (0x20, 8)], 22, 16, .TILE_GS_LIMIT, 0, .rw⟩,
  ⟨0x1000108, [(0x4000, 1440), (0x20, 8)], 9, 0, .TILE_OPD_BASE, 0, .rw⟩,
  ⟨0x1000108, [(0x4000, 1440), (0x20, 8)], 25, 16, .TILE_OPD_LIMIT, 0, .rw⟩,
  ⟨0x100010C, [(0x4000, 1440), (0x20, 8)], 31, 0, .TILE_PEN_MASK, 0, .rw⟩,
  ⟨0x1000110, [(0x4000, 1440), (0x20, 8)], 31, 0, .TILE_PEN_MASK, 32, .rw⟩,
  ⟨0x1000114, [(0x4000, 1440), (0x20, 8)], 31, 0, .TILE_LAND_MASK, 0, .rw⟩,
  ⟨0x1000118, [(0x4000, 1440), (0x20, 8)], 20, 4, .TILE_STREAM_BASE, 0, .rw⟩,
  ⟨0x100011C, [(0x4000, 1440), (0x20, 8)], 31, 0, .TILE_DIG_MASK, 0, .rw⟩,
  ⟨0x1000200, [(0x4000, 1440), (0x10, 8)], 31, 0, .TILE_OP_HEAD, 0, .ro⟩,
  ⟨0x1000204, [(0x4000, 1440), (0x10, 8)], 4, 0, .TILE_OP_WINDOW, 0, .ro⟩,
  ⟨0x1000208, [(0x4000, 1440), (0x10, 8)], 0, 0, .TILE_CTX_OVF, 0, .ro⟩,
  ⟨0x1000400, [(0x4000, 1440), (0x4, 64)], 7, 0, .TILE_PEN_COUNT, 0, .ro⟩,
  ⟨0x1000500, [(0x4000, 1440)], 5, 0, .TILE_PEN_SEL, 0, .rw⟩,
  ⟨0x1000500, [(0x4000, 1440)], 15, 8, .TILE_PEN_VAL, 0, .rw⟩,
  ⟨0x1000504, [(0x4000, 1440)], 0, 0, .TILE_PEN_WRITE, 0, .wo⟩,
  ⟨0x1000600, [(0x4000, 1440), (0x8, 32)], 23, 0, .TILE_LAND_COUNT, 0, .ro⟩,
  ⟨0x1000604, [(0x4000, 1440), (0x8, 32)], 23, 0, .TILE_LAND_BASE, 0, .ro⟩,
  ⟨0x1000800, [(0x4000, 1440), (0x8, 32)], 31, 0, .TILE_DIG, 0, .ro⟩,
  ⟨0x1000804, [(0x4000, 1440), (0x8, 32)], 31, 0, .TILE_DIG, 32, .ro⟩,
  ⟨0x1000A00, [(0x4000, 1440), (0x10, 8)], 31, 0, .TILE_SRL_KEY, 0, .rw⟩,
  ⟨0x1000A04, [(0x4000, 1440), (0x10, 8)], 31, 0, .TILE_SRL_KEY, 32, .rw⟩,
  ⟨0x1000A08, [(0x4000, 1440), (0x10, 8)], 31, 0, .TILE_SRL_SALT, 0, .rw⟩,
  ⟨0x1000A0C, [(0x4000, 1440), (0x10, 8)], 7, 0, .TILE_SRL_SALT, 32, .rw⟩,
  ⟨0x1000B00, [(0x4000, 1440), (0x8, 8)], 31, 0, .TILE_SRL_STEP, 0, .rw⟩,
  ⟨0x1000B04, [(0x4000, 1440), (0x8, 8)], 7, 0, .TILE_SRL_STEP, 32, .rw⟩,
  ⟨0x1000C00, [(0x4000, 1440), (0x100, 4), (0x4, 16)], 31, 0, .TILE_DMA_ACT, 0, .ro⟩,
  ⟨0x1000C40, [(0x4000, 1440), (0x100, 4)], 19, 0, .TILE_DMA_IDX0, 0, .ro⟩,
  ⟨0x1000C44, [(0x4000, 1440), (0x100, 4)], 19, 0, .TILE_DMA_IDX1, 0, .ro⟩,
  ⟨0x1000C48, [(0x4000, 1440), (0x100, 4)], 19, 0, .TILE_DMA_IDX2, 0, .ro⟩,
  ⟨0x1000C4C, [(0x4000, 1440), (0x100, 4)], 21, 0, .TILE_DMA_RUN_OFF, 0, .ro⟩,
  ⟨0x1000C50, [(0x4000, 1440), (0x100, 4)], 0, 0, .TILE_DMA_ACT_VALID, 0, .ro⟩,
  ⟨0x1000C50, [(0x4000, 1440), (0x100, 4)], 1, 1, .TILE_DMA_SHD_VALID, 0, .ro⟩,
  ⟨0x1000C50, [(0x4000, 1440), (0x100, 4)], 2, 2, .TILE_DMA_PAUSED, 0, .ro⟩,
  ⟨0x1000C50, [(0x4000, 1440), (0x100, 4)], 5, 3, .TILE_DMA_ACT_CTX, 0, .ro⟩,
  ⟨0x1000C50, [(0x4000, 1440), (0x100, 4)], 8, 6, .TILE_DMA_SHD_CTX, 0, .ro⟩,
  ⟨0x1000C50, [(0x4000, 1440), (0x100, 4)], 11, 9, .TILE_DMA_PENDING, 0, .ro⟩,
  ⟨0x1000C54, [(0x4000, 1440), (0x100, 4)], 0, 0, .TILE_DMA_PAUSE, 0, .rw⟩,
  ⟨0x1000C58, [(0x4000, 1440), (0x100, 4)], 7, 0, .TILE_DMA_ALLOW, 0, .rw⟩,
  ⟨0x1000C5C, [(0x4000, 1440), (0x100, 4)], 0, 0, .TILE_DMA_UE, 0, .w1c⟩,
  ⟨0x1000C5C, [(0x4000, 1440), (0x100, 4)], 1, 1, .TILE_DMA_UNDELIVERED, 0, .w1c⟩,
  ⟨0x1000C5C, [(0x4000, 1440), (0x100, 4)], 2, 2, .TILE_DMA_REJECTED, 0, .w1c⟩,
  ⟨0x1000C60, [(0x4000, 1440), (0x100, 4)], 31, 0, .TILE_DMA_PIECES, 0, .sat⟩,
  ⟨0x1000C64, [(0x4000, 1440), (0x100, 4)], 31, 0, .TILE_DMA_STALLS, 0, .sat⟩,
  ⟨0x1000C80, [(0x4000, 1440), (0x100, 4), (0x4, 16)], 31, 0, .TILE_DMA_SHD, 0, .ro⟩,
  ⟨0x1001000, [(0x4000, 1440), (0x4, 8)], 31, 0, .TILE_AGED, 0, .sat⟩,
  ⟨0x1001100, [(0x4000, 1440)], 31, 0, .TILE_OVF_OPS, 0, .sat⟩,
  ⟨0x1001104, [(0x4000, 1440)], 31, 0, .TILE_NAN_EVENTS, 0, .sat⟩,
  ⟨0x1001108, [(0x4000, 1440)], 31, 0, .TILE_TS_CE, 0, .sat⟩,
  ⟨0x100110C, [(0x4000, 1440)], 31, 0, .TILE_TS_UE, 0, .sat⟩,
  ⟨0x1001110, [(0x4000, 1440)], 31, 0, .TILE_GS_CE, 0, .sat⟩,
  ⟨0x1001114, [(0x4000, 1440)], 31, 0, .TILE_GS_UE, 0, .sat⟩,
  ⟨0x1001118, [(0x4000, 1440)], 31, 0, .TILE_TB_CE, 0, .sat⟩,
  ⟨0x100111C, [(0x4000, 1440)], 31, 0, .TILE_TB_UE, 0, .sat⟩]

/-- Every line of every register table. -/
def winRows : List WinRow :=
  winRows0 ++ winRows1 ++ winRows2 ++ winRows3 ++ winRows4 ++ winRows5 ++ winRows6 ++ winRows7

/-- Fields of which a folded tile shows one logical tile's copy (R168, R240). -/
def Reg.folded : Reg → Bool
  | .TILE_TS_BASE | .TILE_TS_LIMIT | .TILE_GS_BASE | .TILE_GS_LIMIT | .TILE_OPD_BASE | .TILE_OPD_LIMIT
  | .TILE_PEN_MASK | .TILE_LAND_MASK | .TILE_STREAM_BASE | .TILE_DIG_MASK | .TILE_OP_HEAD | .TILE_OP_WINDOW
  | .TILE_CTX_OVF | .TILE_SRL_KEY | .TILE_SRL_SALT | .TILE_SRL_STEP | .TILE_AGED => true
  | _ => false

/-- The indices at which an offset meets strides and counts, none when it lies elsewhere. -/
def dimIndex : List (Nat × Nat) → Nat → Option (List Nat)
  | [], rel => if rel = 0 then some [] else none
  | (s, n) :: ds, rel =>
    let i := min (rel / s) (n - 1)
    (dimIndex ds (rel - i * s)).map (fun l => i :: l)

/-- The register that a line places at an offset; `half` is the logical tile that TILE_FOLD_VIEW shows. -/
def rowAt (row : WinRow) (off half : Nat) : Option RegKey :=
  if off < row.base then none
  else match dimIndex row.dims (off - row.base) with
    | none => none
    | some l =>
      let k := if row.reg.folded then half else l.getD 2 0
      some ⟨row.reg, l.getD 0 0, l.getD 1 0, k⟩

/-- Lines and registers at an offset. -/
def fieldsAt (off half : Nat) : List (WinRow × RegKey) :=
  winRows.filterMap (fun row => (rowAt row off half).map (fun k => (row, k)))

/-- The window offset of a register: that of its first line (R13, R413). -/
def regOffset (k : RegKey) : Nat :=
  match winRows.find? (fun row => row.reg = k.reg) with
  | none => 0
  | some row =>
    let l := [k.i, k.j, if row.reg.folded then 0 else k.k]
    row.base + ((row.dims.zip l).map (fun e => e.1.1 * e.2)).sum

/-- The blocks of R266: base and extent. -/
def windowBlocks : List (Nat × Nat) :=
  [(0x0, 0x100000), (0x100000, 0x100000), (0x200000, 0x80000), (0x280000, 0x80000), (0x300000, 0x100000),
   (0x400000, 0x100000), (0x500000, 0x100000), (0x600000, 0x80000), (0x680000, 0x80000), (0x700000, 0x80000),
   (0x780000, 0x80000), (0x800000, 0x800000), (0x1000000, 0x1680000)]

/-- Whether an offset lies inside a block (R266). -/
def inBlock (off : Nat) : Bool := windowBlocks.any (fun b => b.1 ≤ off && off < b.1 + b.2)

end Sys2Proof.Machine
end

