-- ==== Sys2Proof/Machine/Ops.lean ====
section
/-! DEFINITION. The named operations over registers, tables and stores that every meaning is written from. -/

namespace Sys2Proof.Machine

/-- A register's value: no more bits than its field has (R14). -/
def rget (d : Dev) (r : RegKey) : Nat := tblGet d.regs r r.reg.reset % 2 ^ r.reg.bits

/-- The device with a register's value replaced; bits beyond the field are lost (R14). -/
def rset (d : Dev) (r : RegKey) (v : Nat) : Dev :=
  { d with regs := tblSet RegKey.ord d.regs r (v % 2 ^ r.reg.bits) r.reg.reset }

/-- Low address bits that the manual says a base has 0. Such a register reads back as it was written (R14); the device
uses it without those bits (notes/assumptions/78.md). -/
def baseAlign : Reg → Nat
  | .TILE_FOLD_BACK => 2 ^ 21
  | .DBG_ACC_ADDR => 8
  | .LNK_COL_TBL | .TEST_PACK_ADDR | .TEST_PACK_CERT | .SEC_ATT_ADDR => 64
  | .TEST_RCP_PLAN => 32
  | .MON_SNAP_ADDR => 2 ^ 15
  | _ => 1

/-- A base address as the device uses it. -/
def rbase (d : Dev) (r : RegKey) : Nat := rget d r - rget d r % baseAlign r.reg

/-- A one-bit register set. -/
def rbit (d : Dev) (r : RegKey) : Dev := rset d r 1

/-- A 32-bit SAT count without its sticky bit (R413). -/
def satCount (v : Nat) : Nat := v % 2 ^ 32

/-- A stream (R81). -/
def strmKey (p h c : Nat) : Nat := p * 16 + h * 8 + c
def getStrm (d : Dev) (p h c : Nat) : Strm := tblGet d.strms (strmKey p h c) {}
def setStrm (d : Dev) (p h c : Nat) (s : Strm) : Dev :=
  { d with strms := tblSet (fun k => k) d.strms (strmKey p h c) s {} }

/-- A tile's own state. -/
def getTile (d : Dev) (p : Nat) : TileSt := tblGet d.tiles p {}
def setTile (d : Dev) (p : Nat) (t : TileSt) : Dev := { d with tiles := tblSet (fun k => k) d.tiles p t {} }

/-- A channel (R199). -/
def getChan (d : Dev) (p n : Nat) : Chan := tblGet d.chans (p * 4 + n) {}
def setChan (d : Dev) (p n : Nat) (ch : Chan) : Dev :=
  { d with chans := tblSet (fun k => k) d.chans (p * 4 + n) ch {} }

/-- A context (R215). -/
def getCtx (d : Dev) (c : Nat) : Ctx := tblGet d.ctxs c {}
def setCtx (d : Dev) (c : Nat) (x : Ctx) : Dev := { d with ctxs := tblSet (fun k => k) d.ctxs c x {} }
def updCtx (d : Dev) (c : Nat) (f : Ctx → Ctx) : Dev := setCtx d c (f (getCtx d c))

/-- The order of a cycle's records (R347, R421): ascending type, and error records in ascending class and then ascending
UNIT_INDEX. -/
def recordKey (x : LogEnt) : Nat :=
  x.tag * 2 ^ 32 + (if x.tag = 1 then bitsOf x.img 239 224 * 2 ^ 16 + bitsOf x.img 207 192 else 0)

/-- A record with the index it takes; an error record shows it (R341). -/
def reindexed (x : LogEnt) (n : Nat) : LogEnt :=
  { x with index := n, img := if x.tag = 1 then setBits x.img 447 416 n else x.img }

/-- What names error records by their indices, with the indices they took: their copies for the context's event ring,
and AUX of completion records of failures (R274, R347). -/
def renamedCtx (m : List (Nat × Nat)) (x : Ctx) : Ctx :=
  let name (n : Nat) : Nat := tblGet m n n
  { x with evq := x.evq.map (fun v => if v.type = 6 then { v with body := setBits v.body 447 416 (name (bitsOf v.body 447 416)) } else v),
           waiting := x.waiting.map (fun r => if r.outcome = 2 ∧ r.cause ≠ 11 then { r with aux := name r.aux } else r) }

/-- A pending failure names its record by the index that it took (R448). -/
def renamedPend (m : List (Nat × Nat)) (d : Dev) (c : Nat) : Dev :=
  if rget d ⟨.CLK_CTX_FAIL_PEND, c, 0, 0⟩ = 0 then d
  else
    let n := rget d ⟨.CLK_CTX_PEND_LOG, c, 0, 0⟩
    rset d ⟨.CLK_CTX_PEND_LOG, c, 0, 0⟩ (tblGet m n n)

/-- The records raised since index n0 take their indices in the order of a cycle. -/
def sortRecords (n0 n : Nat) (d : Dev) : Dev :=
  let new (x : LogEnt) : Bool := (x.index + 2 ^ 32 - n0 % 2 ^ 32) % 2 ^ 32 < n
  let raised := d.log.filter new
  let sorted := sortBy (fun x y => recordKey x ≤ recordKey y) raised
  let m := (sorted.zip raised).map (fun x => (x.1.index, x.2.index))
  let log := d.log.filter (fun x => !new x) ++ (sorted.zip raised).map (fun x => reindexed x.1 x.2.index)
  (List.range 8).foldl (renamedPend m) { d with log := log, ctxs := d.ctxs.map (fun x => (x.1, renamedCtx m x.2)) }

/-- The device d' after what one cycle did to d: the records raised in it stand in the order of R347 and R421. Every
command is a cycle of its own (notes/assumptions/101.md). -/
def inCycle (d d' : Dev) : Dev :=
  let n := (d'.logNext + 2 ^ 32 - d.logNext % 2 ^ 32) % 2 ^ 32
  if n ≤ 1 then d' else sortRecords d.logNext n d'

/-- A command on a unit that exists acts on the device while the module runs, and changes nothing otherwise. Clock,
fuses and queue stay. -/
def act (s : State) (exists_ : Bool) (f : Env → Dev → Dev) : Host.Outcome State Fault Refusal :=
  if exists_ then .next { s with dev := if s.dev.power = .running then inCycle s.dev (f ⟨s.clk, s.nv⟩ s.dev) else s.dev }
  else .refused .noSuchUnit

/-- The register window answers: the Tabok cores run (R388, R389). -/
def tabokRuns (d : Dev) : Bool :=
  let st := rget d ⟨.CFG_STATE, 0, 0, 0⟩
  1 ≤ st && st ≤ 3

/-- A write of Tabok software to a register of a unit that exists. -/
def actT (s : State) (exists_ : Bool) (f : Env → Dev → Dev) : Host.Outcome State Fault Refusal :=
  act s exists_ (fun e d => if tabokRuns d then f e d else d)

/-- A logical tile's place and a context that exist. -/
def placeOk (p h c : Nat) : Bool := p < 1440 && h < 2 && c < 8

/-- The rate in force, in ppm above or below 1 GHz: 200 while a correction is under way, otherwise the disciplined rate
(R46, R47; notes/assumptions/45.md). -/
def ratePpm (c : Clock) : Int := if c.trim = 0 then c.rate else 200 * c.trim.sign

/-- The next free value (notes/assumptions/1.md). -/
def takeFree (d : Dev) : Nat × Dev := (Config.freeNat d.free, { d with free := d.free + 1 })

/-- Physical tiles (R20). -/
def tileCount : Nat := 1440

/-- The physical tiles. -/
def allTiles : List Nat := List.range tileCount

/-- Physical tiles that hold a stream or a tile state: the only ones that can differ from an idle tile. -/
def usedTiles (d : Dev) : List Nat :=
  let a : List Nat := d.strms.map (fun e => e.1 / 16)
  let b : List Nat := d.tiles.map (fun e => e.1)
  allTiles.filter (fun p => p ∈ a ++ b)

end Sys2Proof.Machine
end

