-- ==== Sys2Proof/Machine/Errors.lean ====
section
/-! DEFINITION. SAT counters, the trouble log, error records, event entries, halts, fatal events and failures of
launches (R15, R73, R86, R277, R341 to R347, R412, R413, R421, R448). -/

namespace Sys2Proof.Machine

/-- A count added to a SAT field without its monitor event: the field, and whether its sticky bit was set now. A step of
more than 1 that passes all-ones stops there and counts as a lost increment (R15 speaks of single increments; the model's
choice, notes/assumptions/107.md). -/
def satRaw (d : Dev) (k : RegKey) (n : Nat) : Dev × Bool :=
  let v := rget d k
  let c := satCount v
  let s := v / 2 ^ 32 % 2
  if c + n < 2 ^ 32 then (rset d k (v + n), false)
  else (rset d k (2 ^ 33 - 1), s = 0)

/-- The monitor event of a sticky bit (R413): image of R421 type 4. -/
def monitorEvent (e : Env) (d : Dev) (k : RegKey) : Nat :=
  let isMon := k.reg = .MON_COUNT || k.reg = .MON_BUCKET
  packFields [(64, e.clk.ft), (64, d.rc), (32, regOffset k), (32, if isMon then k.i else 0x3F)]

/-- A record into the trouble log: the next index, in the slot index mod 16,384; a record there that was not copied is
lost and counted (R421, R423). Whether LOG_LOST saturated now. -/
def logKeep (type img : Nat) (d : Dev) : Dev × Bool :=
  let n := d.logNext % 2 ^ 32
  let lost := (d.log.filter (fun x => x.index % 16384 = n % 16384 && !x.copied)).length
  let kept := d.log.filter (fun x => x.index % 16384 ≠ n % 16384)
  let d := { d with log := kept ++ [{ index := n, img := img, tag := type }], logNext := (n + 1) % 2 ^ 32, logLost := d.logLost + lost }
  if lost = 0 then (d, false) else satRaw d ⟨.LOG_LOST, 0, 0, 0⟩ lost

/-- The sticky bit of LOG_LOST is newly set, and with it, it may be, that of the count of such bits (R413). -/
def lostSeen (e : Env) (d : Dev) : Dev :=
  let r := satRaw (logKeep 4 (monitorEvent e d ⟨.LOG_LOST, 0, 0, 0⟩) d).1 ⟨.MON_SAT_EVENTS, 0, 0, 0⟩ 1
  rbit (if r.2 then (logKeep 4 (monitorEvent e r.1 ⟨.MON_SAT_EVENTS, 0, 0, 0⟩) r.1).1 else r.1) ⟨.MON_SAT_SEEN, 0, 0, 0⟩

/-- The trouble log records in every CFG_STATE from 1 onward (R421). The event of LOG_LOST's own sticky bit follows,
and that of the counter of such events if this one sets its sticky bit (R413). -/
def logPut (e : Env) (type img : Nat) (d : Dev) : Dev :=
  if rget d ⟨.CFG_STATE, 0, 0, 0⟩ = 0 then d
  else match logKeep type img d with
    | (d, false) => d
    | (d, true) => lostSeen e d

/-- The effects of a sticky bit newly set (R413, R418). -/
def satSeen (e : Env) (k : RegKey) (d : Dev) : Dev :=
  let d := logPut e 4 (monitorEvent e d k) d
  let d := rbit d ⟨.MON_SAT_SEEN, 0, 0, 0⟩
  if k.reg = .MON_COUNT || k.reg = .MON_BUCKET then rbit d ⟨.MON_SAT, k.i, 0, 0⟩ else d

/-- A SAT field counts n (R15, R413). -/
def satAdd (e : Env) (k : RegKey) (n : Nat) (d : Dev) : Dev :=
  if n = 0 then d
  else
    match satRaw d k n with
    | (d, false) => d
    | (d, true) =>
      match satRaw (satSeen e k d) ⟨.MON_SAT_EVENTS, 0, 0, 0⟩ 1 with
      | (d, false) => d
      | (d, true) => satSeen e ⟨.MON_SAT_EVENTS, 0, 0, 0⟩ d

/-- Whether some monitor takes samples of a source (R416). -/
def monitored (d : Dev) (src : Nat) : Bool :=
  (List.range 64).any (fun m => rget d ⟨.MON_EN, m, 0, 0⟩ = 1 && rget d ⟨.MON_SRC, m, 0, 0⟩ = src)

/-- A sample of a source that is monitored waits for the monitors (R418). -/
def pushSample (x : Sample) (d : Dev) : Dev :=
  if monitored d x.src then { d with samples := d.samples ++ [x] } else d

/-- A sample whose value the model's time does not give: a free value of 32 bits (notes/assumptions/1.md). -/
def pushFreeSample (x : Sample) (d : Dev) : Dev :=
  if monitored d x.src then
    { d with samples := d.samples ++ [{ x with value := Config.freeNat d.free % 2 ^ 32 }], free := d.free + 1 }
  else d

/-- Entries outstanding in a ring of 2^L entries (R268). -/
def ringUsed (prod cons : Nat) : Nat := (prod + 65536 - cons % 65536) % 65536

/-- Free places of context c's event ring: at most 2^L − 1 entries (R268). -/
def eqFree (d : Dev) (c : Nat) : Nat :=
  2 ^ rget d ⟨.RING_EQ_LOG2, c, 0, 0⟩ - 1 - ringUsed (rget d ⟨.RING_EQ_PROD, c, 0, 0⟩) (rget d ⟨.RING_EQ_CONS, c, 0, 0⟩)

/-- Entries in the holding queue: those for which the ring has no room (R277). -/
def evHeld (d : Dev) (c : Nat) : Nat := (getCtx d c).evq.length - eqFree d c

/-- An event entry for context c: queued, or dropped with the rings disabled or 32 entries held (R277). -/
def pushEvent (e : Env) (c type body : Nat) (d : Dev) : Dev :=
  if rget d ⟨.RING_EN, c, 0, 0⟩ = 0 || evHeld d c ≥ 32 then
    satAdd e ⟨.RING_EV_LOST, c, 0, 0⟩ 1 (updCtx d c (fun x => { x with dropped := x.dropped + 1 }))
  else updCtx d c (fun x => { x with evq := x.evq ++ [⟨type, body⟩] })

/-- Severity of a class (R343). -/
def classSev : Nat → Nat
  | 0x0102 | 0x0112 | 0x0114 | 0x0115 | 0x0201 | 0x0202 | 0x0203 | 0x0204 | 0x0205 | 0x0206 | 0x0301 | 0x0304
  | 0x0305 | 0x0405 => 1
  | 0x0118 | 0x0119 | 0x0601 | 0x0602 | 0x0603 | 0x0604 | 0x0701 => 2
  | 0x0302 | 0x0504 | 0x0803 | 0x0804 => 3
  | _ => 0

/-- An error to be recorded (R341, R342). -/
structure Err where
  cls : Nat
  level : Nat
  kind : Nat := 0
  index : Nat := 0
  ctx : Option Nat := none
  op : Option (Nat × Nat) := none
  syn : Nat := 0
  sev : Option Nat := none

/-- Severity of a record: the class's, unless the rule that raises it names another. -/
def errSev (r : Err) : Nat := r.sev.getD (classSev r.cls)

/-- The number of the sensor nearest to a unit, where R378 gives the unit one. -/
def errSensor (r : Err) : Option Nat :=
  if r.level = 2 then some (r.index / 8)
  else if r.level = 3 then some r.index
  else if r.level = 4 ∧ r.kind = 1 then some (1440 + r.index / 32)
  else if r.level = 4 ∧ (r.kind = 7 ∨ r.kind = 4) then some 1460
  else none

/-- The rail that supplies a unit outside the tiles (R379). -/
def errRail (r : Err) : Option Nat :=
  if r.level ≠ 4 then none
  else match r.kind with
    | 1 => some 5
    | 2 | 3 => some 8
    | 4 | 7 => some 9
    | 6 => some r.index
    | _ => none

/-- This device is the time master: the root of the time tree once the fabric's tables are in (R45, R303, R313). -/
def ftMaster (d : Dev) : Bool := rget d ⟨.LNK_ROUTE_EN, 0, 0, 0⟩ = 1 && rget d ⟨.LNK_HOIST_PARENT, 0, 0, 0⟩ = 63

/-- Fabric time is aligned to the master (R46). -/
def ftSynced (d : Dev) : Bool := ftMaster d || rget d ⟨.CLK_FT_SYNCED, 0, 0, 0⟩ = 1

/-- The image of an error record (R341). Temperature and voltage of a unit without a sensor or a rail of its own
are free values. -/
def errImage (e : Env) (r : Err) (tj vrail : Nat) (d : Dev) : Nat :=
  packFields [(64, e.clk.ft), (64, d.rc), (32, (r.op.map (·.1)).getD 0), (32, (r.op.map (·.2)).getD 0),
    (16, r.index), (3, r.level), (5, r.kind), (3, r.ctx.getD 0), (1, b2n r.ctx.isSome),
    (1, b2n (!ftSynced d)), (1, b2n r.op.isSome), (2, 0), (16, r.cls), (2, errSev r), (14, 0),
    (128, r.syn), (16, tj), (16, vrail), (32, d.logNext), (64, 0)]

/-- The unit of a record as one number, for the comparison of R347. -/
def errUnit (r : Err) : Nat := packFields [(16, r.index), (3, r.level), (5, r.kind)]

/-- Whether a condition of SEV 0 recurs within 1 ms of its last record (R347). -/
def errRecurs (e : Env) (r : Err) (d : Dev) : Bool :=
  errSev r = 0 && d.notes.any (fun n => n.cls = r.cls && n.unit = errUnit r && n.syn = r.syn && e.clk.ns < n.at_ + 1000000)

/-- Context c is enabled on tile p. -/
def enabledOn (d : Dev) (p c : Nat) : Bool := (getStrm d p 0 c).on || (getStrm d p 1 c).on

/-- Tiles on which context c is enabled. -/
def tilesOf (d : Dev) (c : Nat) : List Nat := (usedTiles d).filter (fun p => enabledOn d p c)

/-- Issue of context c stops on tile p (R105). -/
def haltOn (c : Nat) (d : Dev) (p : Nat) : Dev :=
  let t := getTile d p
  setTile d p { t with halt := t.halt ||| 2 ^ c }

/-- Context c is halted on every tile through the mesh (R73, R86). -/
def haltCtx (c : Nat) (d : Dev) : Dev := (tilesOf d c).foldl (haltOn c) d

/-- A fatal event of a class (R346). -/
def fatalEvent (cls : Nat) (d : Dev) : Dev :=
  let d := (List.range 8).foldl (fun d c => haltCtx c d) d
  let d := if rget d ⟨.TEST_FATAL, 0, 0, 0⟩ = 0 then rset d ⟨.TEST_FATAL_CLASS, 0, 0, 0⟩ cls else d
  let d := rbit d ⟨.TEST_FATAL, 0, 0, 0⟩
  { d with fatals := if cls ∈ d.fatals then d.fatals else d.fatals ++ [cls], pins := { d.pins with alert := true } }

/-- Something holds MOD_ALERT_N asserted (R346, R361, R377, R388, R405). -/
def alertHeld (d : Dev) : Bool :=
  !d.fatals.isEmpty || rget d ⟨.TEST_SUSPECT, 0, 0, 0⟩ = 1 || rget d ⟨.PWR_SHED, 0, 0, 0⟩ = 1 || d.fwDead ||
  rget d ⟨.CFG_STATE, 0, 0, 0⟩ = 4

/-- MOD_ALERT_N is released unless another cause holds it (R377). -/
def alertRelease (d : Dev) : Dev := { d with pins := { d.pins with alert := alertHeld d } }

/-- The fatal event of a class is cleared (R49, R346). -/
def fatalClear (cls : Nat) (d : Dev) : Dev :=
  if cls ∈ d.fatals then
    let fs := d.fatals.filter (· ≠ cls)
    let d := rset (rset d ⟨.TEST_FATAL, 0, 0, 0⟩ (b2n (!fs.isEmpty))) ⟨.TEST_FATAL_CLASS, 0, 0, 0⟩ (fs.headD 0)
    alertRelease { d with fatals := fs }
  else d

/-- The device is suspect (R361). -/
def markSuspect (cls : Nat) (d : Dev) : Dev :=
  let d := if rget d ⟨.TEST_SUSPECT, 0, 0, 0⟩ = 0 then rset d ⟨.TEST_SUSPECT_CLASS, 0, 0, 0⟩ cls else d
  let d := rbit d ⟨.TEST_SUSPECT, 0, 0, 0⟩
  { d with pins := { d.pins with alert := true } }

/-- The consequence of a severity (R344, R346, R361). -/
def severityActs (r : Err) (d : Dev) : Dev :=
  if errSev r = 2 then markSuspect r.cls d
  else if errSev r = 3 then
    let d := fatalEvent r.cls d
    if r.cls = 0x0504 || r.cls = 0x0803 || r.cls = 0x0804 then
      let d := markSuspect r.cls d
      { d with pins := { d.pins with fault := true } }
    else d
  else d

/-- The counter of a severity (R368). -/
def sevCounter : Nat → Reg
  | 0 => .TEST_ERR_NOTE
  | 1 => .TEST_ERR_STEP
  | 2 => .TEST_ERR_SUSPECT
  | _ => .TEST_ERR_FATAL

/-- The image of an error record with its readings. -/
def errBody (e : Env) (r : Err) (d : Dev) : Nat × Dev :=
  let (fj, d) := match errSensor r with
    | some s => (tblGet d.sensors s 0, d)
    | none => takeFree d
  let (fv, d) := match errRail r with
    | some k => (rget d ⟨.PWR_RAIL_MV, k, 0, 0⟩, d)
    | none => takeFree d
  (errImage e r fj fv d, d)

/-- An error record is raised: into the trouble log and the context's event ring, counted, with the consequence of
its severity (R344, R347). A recurring note writes nothing. -/
def logError (e : Env) (r : Err) (d : Dev) : Dev :=
  if errRecurs e r d then d
  else
    let (img, d) := errBody e r d
    let d := logPut e 1 img d
    let d := match r.ctx with
      | some c => pushEvent e c 6 img d
      | none => d
    let d := satAdd e ⟨sevCounter (errSev r), 0, 0, 0⟩ 1 d
    let d := if errSev r = 0 then
        { d with notes := ⟨r.cls, errUnit r, r.syn, e.clk.ns⟩ ::
                   d.notes.filter (fun n => e.clk.ns < n.at_ + 1000000 && !(n.cls = r.cls && n.unit = errUnit r && n.syn = r.syn)) }
      else d
    severityActs r d

/-- The base of the block an offset lies in (R266); the offset itself outside every block. -/
def blockBase (off : Nat) : Nat := ((windowBlocks.find? (fun b => b.1 ≤ off && off < b.1 + b.2)).map (·.1)).getD off

/-- A register access that the device does not take (R13): class REG_ACCESS with the offset and the direction. -/
def regAccess (e : Env) (off : Nat) (write : Bool) (d : Dev) : Dev :=
  logError e { cls := 0x0207, level := 4, kind := 5, index := blockBase off / 2 ^ 19,
               syn := off % 2 ^ 26 + b2n write * 2 ^ 31 } d

/-- What a context may still have under way when its launch ends early goes (R235 items 2 and 3, R449): unissued
records leave the windows of a tile, loop stacks are emptied, and decoding stops. -/
def dropUnissued (c : Nat) (d : Dev) (p : Nat) : Dev :=
  let drop (s : Strm) : Strm := { s with win := s.win.filter (·.issued), loops := [], decLoops := [], decoding := false }
  setStrm (setStrm d p 0 c (drop (getStrm d p 0 c))) p 1 c (drop (getStrm d p 1 c))

/-- A channel's shadow set of a context is discarded, and its active set reads nothing new (R235 item 3). -/
def dropShadow (c : Nat) (ch : Chan) : Chan :=
  { ch with shd := ch.shd.bind (fun x => if x.c = c then none else some x),
            act := ch.act.map (fun x => if x.c = c then { x with discard := true } else x) }

/-- The DMA_GO of a discarded shadow set is done (R235). -/
def dropGo (c p : Nat) (d : Dev) (n : Nat) : Dev :=
  let ch := getChan d p n
  let d := setChan d p n (dropShadow c ch)
  match ch.shd with
  | some x =>
    if x.c = c then
      let s := getStrm d p x.h c
      setStrm d p x.h c { s with win := s.win.map (fun w => if w.idx = x.idx && w.issueNo = x.issueNo then { w with dmaDone := true } else w) }
    else d
  | none => d

/-- The launch in force of context c stops (R235 items 2 and 3). -/
def stopLaunch (c : Nat) (d : Dev) : Dev :=
  (tilesOf d c).foldl (fun d p => (List.range 4).foldl (dropGo c p) (dropUnissued c d p)) d

/-- The sticky overflow status of a context over all its tiles (R64). -/
def ctxOverflow (d : Dev) (c : Nat) : Bool :=
  (tilesOf d c).any (fun p => rget d ⟨.TILE_CTX_OVF, p, c, 0⟩ = 1 || rget d ⟨.TILE_CTX_OVF, p, c, 1⟩ = 1)

/-- The outcome of the launch in force that fails or is aborted is decided; its record waits until nothing of the
launch is in flight (R234, R274). -/
def decideEarly (e : Env) (c outcome cause aux : Nat) (d : Dev) (x : Ctx) (l : Launch) : Ctx :=
  { x with decided := true,
           waiting := x.waiting ++ [{ seq := l.seq, outcome := outcome, late := l.late, ovf := ctxOverflow d c, cause := cause,
                                      aux := aux, ft := e.clk.ft, rc := d.rc, ofLaunch := true, ready := false }] }

/-- A failure is kept for the context's next launch (R448). -/
def pendFailure (c cause aux : Nat) (d : Dev) : Dev :=
  if rget d ⟨.CLK_CTX_FAIL_PEND, c, 0, 0⟩ = 1 then d
  else rset (rset (rbit d ⟨.CLK_CTX_FAIL_PEND, c, 0, 0⟩) ⟨.CLK_CTX_PEND_CAUSE, c, 0, 0⟩ cause) ⟨.CLK_CTX_PEND_LOG, c, 0, 0⟩ aux

/-- The failure of a context's launch in force, or of its next one: cause and the log index of its record (R449,
R448). A launch that already fails or is being aborted keeps its outcome (R236). -/
def failLaunch (e : Env) (c cause aux : Nat) (d : Dev) : Dev :=
  let x := getCtx d c
  match x.cur, x.ending with
  | some l, .running =>
    if x.decided then pendFailure c cause aux d
    else stopLaunch c (setCtx d c { decideEarly e c 2 cause aux d x l with ending := .failing })
  | some _, _ => d
  | none, _ => pendFailure c cause aux d

/-- A failure with its record: the record is written, the context is halted on every tile and its launch fails
(R86, R98, R193, R207, R335). -/
def failWith (e : Env) (c cause : Nat) (r : Err) (d : Dev) : Dev :=
  let aux := d.logNext
  let d := logError e { r with ctx := some c } d
  failLaunch e c cause aux (haltCtx c d)

end Sys2Proof.Machine
end

