-- ==== Sys2Proof/Machine/Hbm.lean ====
section
/-! DEFINITION. HBM: capacity, placement, write-combining, reads and what an uncorrectable line does (R180 to R195).
Memory is kept by HBM byte address, so a migration moves no value; placement shows in counters and records. -/

namespace Sys2Proof.Machine

/-- The migration under way in stack s: the pseudo-channel it retires and the next row to judge (R195). -/
def migOf (d : Dev) (s : Nat) : Option (Nat × Nat) := tblGet d.migs s none

/-- Pseudo-channels of stack s that are retired, that of a migration under way included when `named`. -/
def retiredMask (d : Dev) (s : Nat) (named : Bool) : Nat :=
  let m := rget d ⟨.HBM_PC_RETIRED, s, 0, 0⟩
  match migOf d s with
  | some (pc, _) => if named then m ||| 2 ^ pc else m
  | none => m

/-- m of R194: the largest number of retired pseudo-channels in one stack. -/
def retMax (d : Dev) : Nat := ((List.range 20).map (fun s => popCount (retiredMask d s true) 32)).foldl max 0

/-- A stack serves accesses: ready or migrating (R196). -/
def stackServes (d : Dev) (s : Nat) : Bool :=
  rget d ⟨.HBM_STACK_STATE, s, 0, 0⟩ = 2 || rget d ⟨.HBM_STACK_STATE, s, 0, 0⟩ = 3

/-- HBM_CAP (R194, R196). -/
def hbmCap (d : Dev) : Nat :=
  if (List.range 20).all (stackServes d) then (32 - retMax d) * 60 * 2 ^ 30 else 0

/-- place_in_stack of R182: pseudo-channel and position of row q under the retired set `mask`. -/
def placeInStack (q mask : Nat) : Nat × Nat :=
  let rel := onesOf mask 32
  let n := rel.length
  let u := 1572864 * (32 - n)
  let pc := q % 32
  if pc ∉ rel then (pc, q / 32)
  else
    let i := (q / 32) * n + rel.idxOf pc
    let g := i / (32 - n)
    let live := (List.range 32).filter (fun k => k ∉ rel)
    let t := u + 32 * g + live.getD (i - (32 - n) * g) 0
    (t % 32, t / 32)

/-- Row of an address (R181). -/
def hbmRow (a : Nat) : Nat := a / 2048 / 20

/-- Stack of an address (R181). -/
def hbmStack (a : Nat) : Nat :=
  let c := a / 2048
  let q := c / 20
  let x := q ^^^ (q >>> 5) ^^^ (q >>> 10) ^^^ (q >>> 15) ^^^ (q >>> 20) ^^^ (q >>> 25)
  (c - 20 * q + x % 32) % 20

/-- Pseudo-channel of an address: a row that a migration has passed is at its new place (R181, R195). -/
def hbmPc (d : Dev) (a : Nat) : Nat :=
  let s := hbmStack a
  let moved := match migOf d s with
    | some (_, row) => hbmRow a < row
    | none => false
  (placeInStack (hbmRow a) (retiredMask d s moved)).1

/-- Address of element (i, k) of a blocked matrix of w-byte elements (R186). -/
def blockAddress (b cols w i k : Nat) : Nat :=
  b + ((i / 64) * ceilDiv cols 64 + k / 64) * 4096 * w + ((i % 64) * 64 + k % 64) * w

/-- What a read of HBM gives. -/
inductive HbmRes
  | ok (data : List Byte)
  | beyond
  | bad (line : Nat)
  /-- Bytes asked for stood in an entry whose word is uncorrectable (R193). -/
  | lost (line : Nat)
  deriving DecidableEq, Repr

/-- The line numbers that n bytes from a touch. -/
def linesOf (a n : Nat) : List Nat := if n = 0 then [] else (List.range ((a + n - 1) / 64 - a / 64 + 1)).map (fun i => a / 64 + i)

/-- The write-combining entry of a line (R187). -/
def wcbOf (d : Dev) (line : Nat) : Option WcbEnt := d.wcb.find? (fun w => w.line = line)

/-- A byte as a read returns it: the entry's where its mask is set, else the stack's (R188). -/
def hbmByte (d : Dev) (a : Nat) : Byte :=
  match wcbOf d (a / 64) with
  | some w => if w.mask.testBit (a % 64) then w.data.getD (a % 64) 0 else memGet d.hbm a
  | none => memGet d.hbm a

/-- Whether some of the n bytes from a stand in an entry. -/
def wcbHolds (w : WcbEnt) (a n : Nat) : Bool :=
  (List.range 64).any (fun i => w.mask.testBit i && a ≤ w.line * 64 + i && w.line * 64 + i < a + n)

/-- The bytes asked for stand in an entry with a bad word (R193). -/
def wcbLost (d : Dev) (a n line : Nat) : Bool := (wcbOf d line).any (fun w => w.bad && wcbHolds w a n)

/-- A read of n bytes (R185, R188, R192): each line is fetched and checked whole, and an uncorrectable one delivers
nothing. -/
def hbmRead (d : Dev) (a n : Nat) : HbmRes :=
  if a + n > hbmCap d then .beyond
  else match (linesOf a n).find? (fun l => d.lineUE.contains l) with
    | some l => .bad (l * 64)
    | none => match (linesOf a n).find? (wcbLost d a n) with
      | some l => .lost (l * 64)
      | none => .ok ((List.range n).map (fun i => hbmByte d (a + i)))

/-- The chunks of 2 KiB that n bytes from a touch, each of them in one stack (R181), by their first bytes. -/
def hbmChunks (a n : Nat) : List Nat :=
  if n = 0 then [] else (List.range ((a + n - 1) / 2048 - a / 2048 + 1)).map (fun i => (a / 2048 + i) * 2048)

/-- Data of a read of HBM has returned from each stack that holds some of it: occasions of the monitors (R416). -/
def hbmReturned (a n : Nat) (d : Dev) : Dev :=
  (hbmChunks a n).foldl (fun d x => pushFreeSample { src := 3, fa := hbmStack x } d) d

/-- The unit of a line's records: stack × 32 + pseudo-channel (R342). -/
def hbmUnit (d : Dev) (a : Nat) : Nat := hbmStack a * 32 + hbmPc d a

/-- An uncorrectable line was read: flag and count (R197). -/
def hbmUeSeen (e : Env) (a : Nat) (d : Dev) : Dev :=
  satAdd e ⟨.HBM_PC_UE, hbmStack a, hbmPc d a, 0⟩ 1 (rbit d ⟨.HBM_UE_SEEN, hbmStack a, 0, 0⟩)

/-- An HBM record of a class about a line or an address. -/
def hbmErr (d : Dev) (cls a : Nat) (ctx : Option Nat) (op : Option (Nat × Nat)) : Err :=
  { cls := cls, level := 4, kind := 1, index := hbmUnit d a, ctx := ctx, op := op, syn := a }

/-- The record of an access at or above HBM_CAP (R180). The address has no place, so that the stack and pseudo-channel
of its unit are free (notes/assumptions/95.md). -/
def beyondErr (a : Nat) (ctx : Option Nat) (op : Option (Nat × Nat)) (d : Dev) : Err × Dev :=
  let f := takeFree d
  ({ cls := 0x0115, level := 4, kind := 1, index := f.1 % 640, ctx := ctx, op := op, syn := a },
   rbit f.2 ⟨.HBM_BEYOND_CAP, 0, 0, 0⟩)

/-- An access at or above HBM_CAP: flag and record (R180). -/
def hbmBeyond (e : Env) (a : Nat) (ctx : Option Nat) (op : Option (Nat × Nat)) (d : Dev) : Dev :=
  let x := beyondErr a ctx op d
  logError e x.1 x.2

/-- Errors that a code corrects, but for that of one line. -/
def slipsBut (line : Nat) (l : List Slip) : List Slip := l.filter (fun x => !(x.mem = .hbm && x.at_ = line))

/-- A whole line written with a fresh code: entry discarded, line healed (R187 item 1, R192). -/
def hbmPutLine (line : Nat) (data : List Byte) (d : Dev) : Dev :=
  { d with hbm := memWrite d.hbm (line * 64) data, lineUE := d.lineUE.filter (fun l => l ≠ line),
           slips := slipsBut line d.slips, wcb := d.wcb.filter (fun w => w.line ≠ line) }

/-- Corrected lines of a pseudo-channel in this patrol period, one more (R191): its count reaches the threshold once in
a period. Lines that other reads correct count too (notes/assumptions/100.md). -/
def patrolCount (e : Env) (s pc : Nat) (d : Dev) : Dev :=
  let k := s * 32 + pc
  let n := tblGet d.patrolCe k 0 + 1
  let d := satAdd e ⟨.HBM_PC_CE, s, pc, 0⟩ 1 { d with patrolCe := tblSet (fun k => k) d.patrolCe k n 0 }
  if rget d ⟨.HBM_CE_THRESH, s, 0, 0⟩ ≤ n ∧ k ∉ d.patrolOver then
    let d := rbit { d with patrolOver := d.patrolOver ++ [k], outbox := d.outbox ++ [.service "corrected lines" k] } ⟨.HBM_CE_OVER, s, 0, 0⟩
    logError e { cls := 0x0117, level := 4, kind := 1, index := k, syn := pc + n % 2 ^ 16 * 2 ^ 16 } d
  else d

/-- A read has corrected a line (R190, R191): its record, then the count of its pseudo-channel, whose own record is of a
higher class (R347). -/
def lineCorrected (e : Env) (line x : Nat) (d : Dev) : Dev :=
  let a := line * 64
  patrolCount e (hbmStack a) (hbmPc d a)
    (logError e { hbmErr d 0x0111 a none none with syn := a + x % 32 * 2 ^ 64 + x / 32 % 2 ^ 16 * 2 ^ 80 } d)

/-- The syndrome of a line that its code corrects, if it has such an error. -/
def lineSlip (d : Dev) (line : Nat) : Option Nat := (d.slips.find? (fun x => x.mem = .hbm && x.at_ = line)).map (·.syn)

/-- What a check of a line finds beside what it delivers. A line with an uncorrectable error is not corrected. -/
def lineChecked (e : Env) (d : Dev) (line : Nat) : Dev :=
  match lineSlip d line with
  | some x => if d.lineUE.contains line then d else lineCorrected e line x d
  | none => d

/-- The bytes of an entry are lost (R193): flag, record, and the failure of the context of its last write. -/
def evictFail (e : Env) (w : WcbEnt) (d : Dev) : Dev :=
  let d := { d with wcb := d.wcb.filter (fun x => x.line ≠ w.line) }
  let d := rbit d ⟨.HBM_EVICT_FAIL, hbmStack (w.line * 64), 0, 0⟩
  match w.ctx with
  | some c => failWith e c 4 (hbmErr d 0x0114 (w.line * 64) none none) d
  | none => logError e (hbmErr d 0x0114 (w.line * 64) none none) d

/-- An entry that a read meets, a word of which is bad, is lost (R193). -/
def entryMet (e : Env) (d : Dev) (line : Nat) : Dev :=
  match wcbOf d line with
  | some w => if w.bad then evictFail e w d else d
  | none => d

/-- What a read of n bytes does beside what it delivers: lines that are corrected (R190), and its data's return (R416). An
access beyond HBM_CAP is not performed (R180). -/
def hbmSeen (e : Env) (a n : Nat) (d : Dev) : Dev :=
  match hbmRead d a n with
  | .beyond => d
  | .ok _ => hbmReturned a n ((linesOf a n).foldl (lineChecked e) d)
  | _ => (linesOf a n).foldl (lineChecked e) d

/-- Entries with a bad word that a read of n bytes meets are lost (R193). -/
def hbmMet (e : Env) (a n : Nat) (d : Dev) : Dev := if a + n > hbmCap d then d else (linesOf a n).foldl (entryMet e) d

/-- All that a read of n bytes does beside what it delivers. -/
def hbmDone (e : Env) (a n : Nat) (d : Dev) : Dev := hbmMet e a n (hbmSeen e a n d)

/-- A read of n bytes for no record has met what it cannot deliver (R192, R193): its effects, and the record of an
uncorrectable line. -/
def hbmFailed (e : Env) (a n : Nat) (r : HbmRes) (d : Dev) : Dev :=
  match r with
  | .bad l => let d := hbmDone e a n d; logError e (hbmErr d 0x0112 l none none) (hbmUeSeen e l d)
  | .lost l => let d := hbmDone e a n d; logError e (hbmErr d 0x0112 l none none) d
  | _ => d

/-- Eviction of an entry by read, merge and write-back (R187 item 4, R193). -/
def evictEntry (e : Env) (w : WcbEnt) (d : Dev) : Dev :=
  if w.bad then evictFail e w d
  else if d.lineUE.contains w.line then evictFail e w (hbmUeSeen e (w.line * 64) d)
  else
    let d := lineChecked e d w.line
    let bytes := (List.range 64).map (fun i => hbmByte d (w.line * 64 + i))
    satAdd e ⟨.HBM_WCB_RMW, hbmStack (w.line * 64), 0, 0⟩ 1 (hbmPutLine w.line bytes d)

/-- Entries of a stack's buffer (R187). -/
def wcbOfStack (d : Dev) (s : Nat) : List WcbEnt := d.wcb.filter (fun w => hbmStack (w.line * 64) = s)

/-- The oldest entry of a full buffer of 512 is evicted before a new one is taken (R187 item 4). -/
def wcbRoom (e : Env) (s : Nat) (d : Dev) : Dev :=
  match wcbOfStack d s with
  | w :: ws => if ws.length ≥ 511 then evictEntry e w d else d
  | [] => d

/-- An entry with bytes merged from offset o (R187 item 2). -/
def wcbMerge (ctx : Option Nat) (o : Nat) (bs : List Byte) (w : WcbEnt) : WcbEnt :=
  { w with mask := (List.range bs.length).foldl (fun m i => m ||| 2 ^ (o + i)) w.mask,
           data := (List.range 64).map (fun i => if o ≤ i ∧ i < o + bs.length then bs.getD (i - o) 0 else w.data.getD i 0), ctx := ctx }

/-- A write within one line is accepted by its controller (R187). -/
def hbmAcceptLine (e : Env) (ctx : Option Nat) (a : Nat) (bs : List Byte) (d : Dev) : Dev :=
  let line := a / 64
  if bs.length = 64 then hbmPutLine line bs d
  else
    let d := entryMet e d line
    let d := if (wcbOf d line).isSome then d else wcbRoom e (hbmStack a) d
    let w := wcbMerge ctx (a % 64) bs ((wcbOf d line).getD { line := line, data := List.replicate 64 0 })
    if w.mask = 2 ^ 64 - 1 then
      satAdd e ⟨.HBM_WCB_MERGED, hbmStack a, 0, 0⟩ 1 (hbmPutLine line w.data d)
    else if (wcbOf d line).isSome then
      { d with wcb := d.wcb.map (fun x => if x.line = line then w else x) }
    else { d with wcb := d.wcb ++ [w] }

/-- Bytes cut at the ends of lines: pairs of address and bytes. -/
def cutLines (a : Nat) : Nat → List Byte → List (Nat × List Byte)
  | 0, _ => []
  | fuel + 1, bs =>
    if bs.isEmpty then [] else
    let n := min bs.length (64 - a % 64)
    (a, bs.take n) :: cutLines (a + n) fuel (bs.drop n)

/-- A write of any length is accepted, line by line. -/
def hbmAccept (e : Env) (ctx : Option Nat) (a : Nat) (bs : List Byte) (d : Dev) : Dev :=
  (cutLines a bs.length bs).foldl (fun d p => hbmAcceptLine e ctx p.1 p.2 d) d

end Sys2Proof.Machine
end

