-- ==== Sys2Proof/Machine/Stores.lean ====
section
/-! DEFINITION. The stores of a logical tile: where its bytes lie, folded or not, and reads and writes through their
codes (R99 to R101, R164, R165, R179, R192). -/

namespace Sys2Proof.Machine

/-- Where a byte of a logical tile lies. -/
inductive Loc
  | ts (a : Nat)
  | gs (a : Nat)
  | tb (a : Nat)
  | hbm (a : Nat)
  deriving DecidableEq, Repr

/-- The byte at an offset of a space of logical tile h of tile p, in the share of context c (R99 to R101, R165).
The descriptor table and the scheduler's region are the tile's own. -/
def locOf (d : Dev) (p h c space off : Nat) : Loc :=
  match space with
  | 0 =>
    if h = 0 ∨ off ≥ 0x1F0000 then .ts (p * 2 ^ 21 + off)
    else
      let i := off / 4096 - rget d ⟨.TILE_TS_BASE, p, c, 1⟩
      let on := rget d ⟨.TILE_FOLD_TS_ON, p, 0, 0⟩
      if i < on then .ts (p * 2 ^ 21 + (rget d ⟨.TILE_FOLD_TS_AT, p, 0, 0⟩ + i) * 4096 + off % 4096)
      else .hbm (rbase d ⟨.TILE_FOLD_BACK, p, 0, 0⟩ + (i - on) * 4096 + off % 4096)
  | 1 =>
    if h = 0 then .gs (p * 2 ^ 22 + off)
    else
      let i := off / 65536 - rget d ⟨.TILE_GS_BASE, p, c, 1⟩
      let on := rget d ⟨.TILE_FOLD_GS_ON, p, 0, 0⟩
      if i < on then .gs (p * 2 ^ 22 + (rget d ⟨.TILE_FOLD_GS_AT, p, 0, 0⟩ + i) * 65536 + off % 65536)
      else .hbm (rbase d ⟨.TILE_FOLD_BACK, p, 0, 0⟩ + 0x1F0000 + (i - on) * 65536 + off % 65536)
  | _ => .tb (p * 2 ^ 16 + off)

/-- What a read of a store gives: bytes, or where it failed. -/
inductive StoreRes
  | ok (data : List Byte)
  | badStore (space off : Nat)
  | badHbm (line : Nat)
  | lostHbm (line : Nat)
  | beyond (a : Nat)
  deriving DecidableEq, Repr

/-- One byte of a store. -/
def locByte (d : Dev) : Loc → Byte
  | .ts a => memGet d.ts a
  | .gs a => memGet d.gs a
  | .tb a => memGet d.tb a
  | .hbm a => hbmByte d a

/-- Why a byte cannot be read, if it cannot (R192). -/
def locBad (d : Dev) (space off : Nat) : Loc → Option StoreRes
  | .ts a => if d.tsUE.contains (a / 8) then some (.badStore space off) else none
  | .gs a => if d.gsUE.contains (a / 8) then some (.badStore space off) else none
  | .tb a => if d.tbUE.contains (a / 8) then some (.badStore space off) else none
  | .hbm a => match hbmRead d a 1 with
    | .ok _ => none
    | .beyond => some (.beyond a)
    | .bad l => some (.badHbm l)
    | .lost l => some (.lostHbm l)

/-- A read of n bytes of a store from an offset. -/
def storeRead (d : Dev) (p h c space off n : Nat) : StoreRes :=
  match (List.range n).findSome? (fun i => locBad d space (off + i) (locOf d p h c space (off + i))) with
  | some r => r
  | none => .ok ((List.range n).map (fun i => locByte d (locOf d p h c space (off + i))))

/-- Words of 8 bytes not wholly covered by n bytes from a: those that keep a bad code (R179). -/
def healed (ws : List Nat) (a n : Nat) : List Nat := ws.filter (fun w => !(a ≤ w * 8 && w * 8 + 8 ≤ a + n))

/-- The same for errors that the code of a memory corrects. -/
def healedSlips (m : Coded) (l : List Slip) (a n : Nat) : List Slip :=
  l.filter (fun x => !(x.mem = m && a ≤ x.at_ * 8 && x.at_ * 8 + 8 ≤ a + n))

/-- Bytes written to a memory of the tiles: words wholly covered have a fresh code. -/
def tsPut (a : Nat) (bs : List Byte) (d : Dev) : Dev :=
  { d with ts := memWrite d.ts a bs, tsUE := healed d.tsUE a bs.length, slips := healedSlips .ts d.slips a bs.length }
def gsPut (a : Nat) (bs : List Byte) (d : Dev) : Dev :=
  { d with gs := memWrite d.gs a bs, gsUE := healed d.gsUE a bs.length, slips := healedSlips .gs d.slips a bs.length }
def tbPut (a : Nat) (bs : List Byte) (d : Dev) : Dev :=
  { d with tb := memWrite d.tb a bs, tbUE := healed d.tbUE a bs.length, slips := healedSlips .tb d.slips a bs.length }

/-- Bytes written to consecutive places from one location on. A write to HBM at or above HBM_CAP is not performed
(R180). -/
def locWrite (e : Env) (c : Nat) (bs : List Byte) (d : Dev) : Loc → Dev
  | .ts a => tsPut a bs d
  | .gs a => gsPut a bs d
  | .tb a => tbPut a bs d
  | .hbm a => if a + bs.length > hbmCap d then d else hbmAccept e (some c) a bs d

/-- Bytes cut at granule ends of 4 KiB, which lie in one place each (R165). -/
def cutGranules (off : Nat) : Nat → List Byte → List (Nat × List Byte)
  | 0, _ => []
  | fuel + 1, bs =>
    if bs.isEmpty then [] else
    let n := min bs.length (4096 - off % 4096)
    (off, bs.take n) :: cutGranules (off + n) fuel (bs.drop n)

/-- A write of bytes to a store from an offset. -/
def storeWrite (e : Env) (p h c space off : Nat) (bs : List Byte) (d : Dev) : Dev :=
  (cutGranules off bs.length bs).foldl (fun d x => locWrite e c x.2 d (locOf d p h c space x.1)) d

/-- The first of n bytes of a store from an offset that lies in a fold backing region at or above HBM_CAP (R165, R180). -/
def storeBeyond (d : Dev) (p h c space off n : Nat) : Option Nat :=
  (List.range n).findSome? (fun i => match locOf d p h c space (off + i) with
    | .hbm a => if a ≥ hbmCap d then some a else none
    | _ => none)

/-- The share of a context in a store: first byte and the byte after the last (R99, R100). -/
def shareOf (d : Dev) (p h c space : Nat) : Nat × Nat :=
  if space = 0 then
    let b := rget d ⟨.TILE_TS_BASE, p, c, h⟩
    (b * 4096, min ((b + rget d ⟨.TILE_TS_LIMIT, p, c, h⟩) * 4096) 0x1F0000)
  else
    let b := rget d ⟨.TILE_GS_BASE, p, c, h⟩
    (b * 65536, min ((b + rget d ⟨.TILE_GS_LIMIT, p, c, h⟩) * 65536) 0x400000)

/-- Whether bytes lo to hi lie inside a context's share. -/
def inShare (d : Dev) (p h c space lo hi : Nat) : Bool :=
  (shareOf d p h c space).1 ≤ lo && hi < (shareOf d p h c space).2

/-- The first byte of lo to hi outside the share (R343, BOUNDS). -/
def firstOutside (d : Dev) (p h c space lo : Nat) : Nat :=
  if lo < (shareOf d p h c space).1 then lo else max lo (shareOf d p h c space).2

/-- The SAT counters of a store's words (R414). -/
def storeCounter (space : Nat) (ue : Bool) : Reg :=
  match space, ue with
  | 0, false => .TILE_TS_CE
  | 0, true => .TILE_TS_UE
  | 1, false => .TILE_GS_CE
  | 1, true => .TILE_GS_UE
  | _, false => .TILE_TB_CE
  | _, true => .TILE_TB_UE

/-- A STORE record of a class about an offset, with the check syndrome (R343). -/
def storeErr (cls p space off syn : Nat) (ctx : Option Nat) (op : Option (Nat × Nat)) : Err :=
  { cls := cls, level := 3, index := p, ctx := ctx, op := op, syn := off % 2 ^ 24 + space * 2 ^ 24 + syn % 256 * 2 ^ 26 }

/-- Words of 8 bytes of one tile's memory (R99 to R101), or lines of HBM (R180). -/
def codedWords : Coded → Nat
  | .ts => 2 ^ 18
  | .gs => 2 ^ 19
  | .tb => 2 ^ 13
  | .hbm => 1920 * 2 ^ 24

/-- The space of a store (R87). -/
def codedSpace : Coded → Nat
  | .ts => 0
  | .gs => 1
  | _ => 2

/-- The syndrome of a word that its code corrects, if it has such an error. -/
def wordSlip (d : Dev) (m : Coded) (w : Nat) : Option Nat := (d.slips.find? (fun x => x.mem = m && x.at_ = w)).map (·.syn)

/-- A read has corrected a word of a store: written back, recorded and counted (R179, R414). -/
def wordCorrected (e : Env) (p : Nat) (m : Coded) (w syn : Nat) (ctx : Option Nat) (op : Option (Nat × Nat)) (d : Dev) : Dev :=
  let d := { d with slips := d.slips.filter (fun x => !(x.mem = m && x.at_ = w)) }
  let d := logError e (storeErr 0x0101 p (codedSpace m) (w % codedWords m * 8) syn ctx op) d
  satAdd e ⟨storeCounter (codedSpace m) false, p, 0, 0⟩ 1 d

/-- The errors that the code of a memory corrects in n bytes from an address of it. A word that is uncorrectable is not
corrected. -/
def slipsIn (d : Dev) (m : Coded) (ue : List Nat) (a n : Nat) : List Slip :=
  d.slips.filter (fun x => x.mem = m && a ≤ x.at_ * 8 + 7 && x.at_ * 8 < a + n && !ue.contains x.at_)

/-- What a read of n bytes from a location does beside what it delivers (R179, R190). -/
def locSeen (e : Env) (p : Nat) (ctx : Option Nat) (op : Option (Nat × Nat)) (n : Nat) (d : Dev) (l : Loc) : Dev :=
  let words (m : Coded) (ue : List Nat) (a : Nat) : Dev :=
    (slipsIn d m ue a n).foldl (fun d x => wordCorrected e p m x.at_ x.syn ctx op d) d
  match l with
  | .ts a => words .ts d.tsUE a
  | .gs a => words .gs d.gsUE a
  | .tb a => words .tb d.tbUE a
  | .hbm a => hbmSeen e a n d

/-- Write-combining entries that a read of n bytes of a store meets in a fold backing region (R165, R193). -/
def storeMet (e : Env) (p h c space off n : Nat) (d : Dev) : Dev :=
  (cutGranules off n (List.replicate n 0)).foldl (fun d x => match locOf d p h c space x.1 with
    | .hbm a => hbmMet e a x.2.length d
    | _ => d) d

/-- What a read of n bytes of a store from an offset does beside what it delivers, but for entries that it meets. -/
def storeSeen (e : Env) (p h c space off n : Nat) (op : Option (Nat × Nat)) (d : Dev) : Dev :=
  (cutGranules off n (List.replicate n 0)).foldl (fun d x =>
    locSeen e p (some c) op x.2.length d (locOf d p h c space x.1)) d

/-- Physical numbers on a folded tile: logical tile B's are offset (R164). -/
def penNo (h n : Nat) : Nat := n + 32 * h
def landNo (h n : Nat) : Nat := n + 16 * h
def slotNo (h n : Nat) : Nat := n + 16 * h
def opdNo (h n : Nat) : Nat := n + 512 * h

end Sys2Proof.Machine
end

