-- ==== Sys2Proof/Machine/Operands.lean ====
section
/-! DEFINITION. Operation records (R82) and operand descriptors (R87): their fields, footprints (R89), logical
indices (R88), the codes of their elements in the stores, and the judgement of a record at decode (R86). -/

namespace Sys2Proof.Machine

/-! Fields of an operation record (R82). -/

def opcodeOf (r : Nat) : Nat := bitsOf r 7 0
def engineOf (r : Nat) : Nat := bitsOf r 10 8
def tokenOf (r : Nat) : Nat := bitsOf r 12 11
def accumOf (r : Nat) : Bool := bitOf r 13
def opdAOf (r : Nat) : Nat := bitsOf r 25 16
def opdBOf (r : Nat) : Nat := bitsOf r 35 26
def opdCOf (r : Nat) : Nat := bitsOf r 45 36
def opdDOf (r : Nat) : Nat := bitsOf r 55 46
def lwEnOf (r : Nat) : Bool := bitOf r 84
def lwIdxOf (r : Nat) : Nat := bitsOf r 89 85
def lwTargetOf (r : Nat) : Nat := bitsOf r 113 90
def immOf (r : Nat) : Nat := bitsOf r 121 114
def lwConsumeOf (r : Nat) : Bool := bitOf r 122

/-- The pennants of the active waits. -/
def waitsOf (r : Nat) : List Nat :=
  (if bitOf r 62 then [bitsOf r 61 56] else []) ++ (if bitOf r 69 then [bitsOf r 68 63] else [])

/-- The pennants of the active posts. -/
def postsOf (r : Nat) : List Nat :=
  (if bitOf r 76 then [bitsOf r 75 70] else []) ++ (if bitOf r 83 then [bitsOf r 82 77] else [])

/-! Fields of an operand descriptor (R87). -/

def spaceOf (o : Nat) : Nat := bitsOf o 1 0
def fmtOf (o : Nat) : Nat := bitsOf o 5 2
def rndOf (o : Nat) : Nat := bitsOf o 7 6
def tensorOf (o : Nat) : Nat := bitsOf o 31 8
def baseOf (o : Nat) : Nat := bitsOf o 53 32
def digEnOf (o : Nat) : Bool := bitOf o 54
def digSlotOf (o : Nat) : Nat := bitsOf o 59 55
def rowsOf (o : Nat) : Nat := bitsOf o 79 64
def colsOf (o : Nat) : Nat := bitsOf o 95 80
def strideOf (o : Nat) : Nat := bitsOf o 119 96
def originOf (o : Nat) : Nat := bitsOf o 191 128
def tcolsOf (o : Nat) : Nat := bitsOf o 223 192
def scaleBaseOf (o : Nat) : Nat := bitsOf o 245 224
def paramOf (o k : Nat) : Nat := bitsOf o (95 + 32 * k) (64 + 32 * k)

/-- A parameter entry (R446). -/
def isParam (o : Nat) : Bool := spaceOf o = 3

/-- ROWS 1 and COLS 1, or a parameter entry (R445). -/
def isScalar (o : Nat) : Bool := isParam o || (rowsOf o = 1 && colsOf o = 1)

/-- Same ROWS and COLS. -/
def sameShape (o q : Nat) : Bool := rowsOf o = rowsOf q && colsOf o = colsOf q

/-- Element width in half-bytes (R89, R123). -/
def nibbles (f : Nat) : Nat := fmtBits f / 4

/-- Bytes of a row: ceil(COLS × w). -/
def rowBytes (o : Nat) : Nat := ceilDiv (colsOf o * nibbles (fmtOf o)) 2

/-- Logical linear index of local element (i, j) (R88). -/
def lindex (o i j : Nat) : Nat := originOf o + i * tcolsOf o + j

/-- The footprint: space, first and last byte; Vi4 adds its scale plane (R89). -/
def footprint (o : Nat) : List (Nat × Nat × Nat) :=
  if isParam o then []
  else
    (spaceOf o, baseOf o, baseOf o + (rowsOf o - 1) * strideOf o + rowBytes o - 1) ::
      if fmtOf o = 4 then
        [(spaceOf o, scaleBaseOf o, scaleBaseOf o + (rowsOf o - 1) * (strideOf o / 16) + ceilDiv (colsOf o) 32 - 1)]
      else []

/-- Two byte ranges of one space share a byte. -/
def rangesMeet (a b : Nat × Nat × Nat) : Bool := a.1 = b.1 && a.2.1 ≤ b.2.2 && b.2.1 ≤ a.2.2

/-- Two footprints overlap. -/
def footsMeet (a b : List (Nat × Nat × Nat)) : Bool := a.any (fun x => b.any (rangesMeet x))

/-- The operands a record names: field of the record, image. -/
def operandsOf (w : WinEnt) : List (Nat × Nat) :=
  [(opdAOf w.raw, w.a), (opdBOf w.raw, w.b), (opdCOf w.raw, w.c), (opdDOf w.raw, w.d)].filter (fun x => x.1 ≠ 1023)

/-- The opcode of SAMPLE in a mode that writes its stream states (R146). -/
def writesStates (r : Nat) : Bool := opcodeOf r = 0x40 && engineOf r = 2 && bitsOf (immOf r) 1 0 ≠ 1

/-- Footprints a record writes: D, C of an MM with FUSE, B of SAMPLE in modes 0 and 2 (R82, R109, R146). -/
def writeFeet (w : WinEnt) : List (Nat × Nat × Nat) :=
  (if opdDOf w.raw ≠ 1023 then footprint w.d else []) ++
  (if engineOf w.raw = 0 ∧ opcodeOf w.raw = 0x10 ∧ opdCOf w.raw ≠ 1023 then footprint w.c else []) ++
  (if writesStates w.raw then footprint w.b else [])

/-- The operands that a record reads: its sources, D of an MM with ACCUM and of STATE_INIT, which judges the states that
stand there (R111, R145). C of an MM is written alone (R115). -/
def readOpds (w : WinEnt) : List Nat :=
  let mm := engineOf w.raw = 0 && opcodeOf w.raw = 0x10
  let init := engineOf w.raw = 2 && opcodeOf w.raw = 0x41
  (if opdAOf w.raw ≠ 1023 then [w.a] else []) ++ (if opdBOf w.raw ≠ 1023 then [w.b] else []) ++
  (if opdCOf w.raw ≠ 1023 ∧ !mm then [w.c] else []) ++ (if opdDOf w.raw ≠ 1023 ∧ (accumOf w.raw || init) then [w.d] else [])

/-- The byte ranges of an operand: space, offset and length of each row, and of each row of a Vi4 scale plane (R89). -/
def opdRanges (o : Nat) : List (Nat × Nat × Nat) :=
  if isParam o then []
  else
    (List.range (rowsOf o)).map (fun i => (spaceOf o, baseOf o + i * strideOf o, rowBytes o)) ++
    (if fmtOf o = 4 then (List.range (rowsOf o)).map (fun i => (spaceOf o, scaleBaseOf o + i * (strideOf o / 16), ceilDiv (colsOf o) 32)) else [])

/-- The byte ranges of elements and scale bytes that a record reads; a Vi4 destination's scale plane is among them
(R59). -/
def readRanges (w : WinEnt) : List (Nat × Nat × Nat) :=
  (readOpds w).flatMap opdRanges ++
  (if opdDOf w.raw ≠ 1023 ∧ fmtOf w.d = 4 ∧ engineOf w.raw = 1 then (opdRanges w.d).drop (rowsOf w.d) else [])

/-- Footprints a record touches. -/
def allFeet (w : WinEnt) : List (Nat × Nat × Nat) := (operandsOf w).flatMap (fun x => footprint x.2)

/-- Rule 3 of R91: footprints overlap where either record writes. -/
def conflict (x y : WinEnt) : Bool := footsMeet (writeFeet x) (allFeet y) || footsMeet (allFeet x) (writeFeet y)

/-! Elements in the stores. -/

/-- The codes of a row from its bytes (R59, R123). -/
def unpackRow (f n : Nat) (bs : List Byte) : List Nat :=
  let v := leNat bs
  (List.range n).map (fun j =>
    if f = 5 then bitsOf v (32 * j + 31) (32 * j) * 2 ^ 16 + bitsOf v (32 * n + 16 * j + 15) (32 * n + 16 * j)
    else let b := fmtBits f; bitsOf v (b * j + b - 1) (b * j))

/-- The bytes of a row from its codes. -/
def packRow (f len : Nat) (codes : List Nat) : List Byte :=
  let v := if f = 5 then packFields (codes.map (fun c => (32, c / 2 ^ 16)) ++ codes.map (fun c => (16, c)))
    else packFields (codes.map (fun c => (fmtBits f, c)))
  leBytes v len

/-- Rows read one after another; the first that fails gives the result. -/
def readRows (d : Dev) (p h c space stride len : Nat) : Nat → Nat → Except StoreRes (List (List Byte))
  | _, 0 => .ok []
  | off, n + 1 =>
    match storeRead d p h c space off len with
    | .ok bs => match readRows d p h c space stride len (off + stride) n with
      | .ok l => .ok (bs :: l)
      | .error r => .error r
    | r => .error r

/-- The codes of an operand, row by row. -/
def readCodes (d : Dev) (p h c o : Nat) : Except StoreRes (List (List Nat)) :=
  match readRows d p h c (spaceOf o) (strideOf o) (rowBytes o) (baseOf o) (rowsOf o) with
  | .ok l => .ok (l.map (unpackRow (fmtOf o) (colsOf o)))
  | .error r => .error r

/-- The block scales of a Vi4 operand, row by row; none for another format (R59, R89). -/
def readScales (d : Dev) (p h c o : Nat) : Except StoreRes (List (List Nat)) :=
  if fmtOf o = 4 ∧ !isParam o then
    match readRows d p h c (spaceOf o) (strideOf o / 16) (ceilDiv (colsOf o) 32) (scaleBaseOf o) (rowsOf o) with
    | .ok l => .ok (l.map (fun bs => bs.map (fun b => b.toNat)))
    | .error r => .error r
  else .ok []

/-- An operand as an engine reads it: format, codes and scales by row and column. A scalar pairs with every element
(R445). -/
structure Source where
  fmt : Nat
  scalar : Bool
  codes : List (List Nat)
  scales : List (List Nat)
  deriving DecidableEq, Repr

/-- A source of a record that takes no scalar (R445). -/
def unscalar (s : Source) : Source := { s with scalar := false }

/-- The code that pairs with element (i, j) of D. -/
def srcCode (s : Source) (i j : Nat) : Nat :=
  if s.scalar then (s.codes.getD 0 []).getD 0 0 else (s.codes.getD i []).getD j 0

/-- The block scale of that element. -/
def srcScale (s : Source) (i j : Nat) : Nat :=
  if s.scalar then (s.scales.getD 0 []).getD 0 0 else (s.scales.getD i []).getD (j / 32) 0

/-- The exact value of that element (R53, R67). -/
def srcVal (s : Source) (i j : Nat) : Val :=
  if s.fmt = 4 then vi4Value (srcCode s i j) (srcScale s i j) else fmtValue s.fmt (srcCode s i j)

/-- A source read from its store, or a parameter entry whose P0 is read in format pf (R446). -/
def readSource (d : Dev) (p h c o pf : Nat) : Except StoreRes Source :=
  if isParam o then .ok ⟨pf, true, [[paramOf o 0]], []⟩
  else
    match readCodes d p h c o, readScales d p h c o with
    | .ok l, .ok sc => .ok ⟨fmtOf o, isScalar o, l, sc⟩
    | .error r, _ => .error r
    | _, .error r => .error r

/-- The bits that a digest folds of an element (R173). -/
def digestBits (f code scale : Nat) : Nat := if f = 4 then code + scale * 16 else code

/-- The contribution of an operand's elements to a digest (R103, R173). -/
def digestOf (o : Nat) (codes scales : List (List Nat)) : Nat :=
  (codes.zipIdx).foldl (fun acc x =>
    (x.1.zipIdx).foldl (fun acc y =>
      acc ^^^ digestMix (tensorOf o) (lindex o x.2 y.2) (fmtOf o)
        (digestBits (fmtOf o) y.1 ((scales.getD x.2 []).getD (y.2 / 32) 0))) acc) 0

/-- Bytes of element (i, j) of a tensor operand: offset and number of each part (R59, R89, R123). -/
def elemBytes (o i j : Nat) : List (Nat × Nat) :=
  let row := baseOf o + i * strideOf o
  if fmtOf o = 5 then [(row + 4 * j, 4), (row + 4 * colsOf o + 2 * j, 2)]
  else [(row + j * nibbles (fmtOf o) / 2, ceilDiv (nibbles (fmtOf o)) 2)]

/-- Bytes of a store can be read (R180, R192). -/
def bytesOk (d : Dev) (p h c space off n : Nat) : Bool :=
  (List.range n).all (fun i => (locBad d space (off + i) (locOf d p h c space (off + i))).isNone)

/-- The block scale of element (i, j) can be read. -/
def scaleOk (d : Dev) (p h c o i j : Nat) : Bool :=
  fmtOf o ≠ 4 || bytesOk d p h c (spaceOf o) (scaleBaseOf o + i * (strideOf o / 16) + j / 32) 1

/-- Element (i, j) of an operand can be read, with its block scale. -/
def elemOk (d : Dev) (p h c o i j : Nat) : Bool :=
  isParam o || ((elemBytes o i j).all (fun x => bytesOk d p h c (spaceOf o) x.1 x.2) && scaleOk d p h c o i j)

/-- Every element of row i of an operand, or of column j of it, can be read. -/
def rowOk (d : Dev) (p h c o i : Nat) : Bool := (List.range (colsOf o)).all (elemOk d p h c o i)
def colOk (d : Dev) (p h c o j : Nat) : Bool := (List.range (rowsOf o)).all (fun i => elemOk d p h c o i j)

/-- One element of a destination written. -/
def writeElem (e : Env) (p h c o i j code : Nat) (d : Dev) : Dev :=
  let row := baseOf o + i * strideOf o
  if fmtOf o = 5 then
    storeWrite e p h c (spaceOf o) (row + 4 * colsOf o + 2 * j) (leBytes code 2)
      (storeWrite e p h c (spaceOf o) (row + 4 * j) (leBytes (code / 2 ^ 16) 4) d)
  else if fmtOf o = 4 then
    let old := (locByte d (locOf d p h c (spaceOf o) (row + j / 2))).toNat
    let b := if j % 2 = 0 then old / 16 * 16 + code % 16 else old % 16 + code % 16 * 16
    storeWrite e p h c (spaceOf o) (row + j / 2) (leBytes b 1) d
  else storeWrite e p h c (spaceOf o) (row + j * nibbles (fmtOf o) / 2) (leBytes code (nibbles (fmtOf o) / 2)) d

/-- The contribution to a digest of the elements that a choice takes (R103, R173). -/
def digestSome (take_ : Nat → Nat → Bool) (o : Nat) (codes scales : List (List Nat)) : Nat :=
  (codes.zipIdx).foldl (fun acc x =>
    (x.1.zipIdx).foldl (fun acc y =>
      if take_ x.2 y.2 then
        acc ^^^ digestMix (tensorOf o) (lindex o x.2 y.2) (fmtOf o)
          (digestBits (fmtOf o) y.1 ((scales.getD x.2 []).getD (y.2 / 32) 0))
      else acc) acc) 0

/-- The rows of a destination written. -/
def writeCodes (e : Env) (p h c o : Nat) (codes : List (List Nat)) (d : Dev) : Dev :=
  (codes.zipIdx).foldl (fun d x =>
    storeWrite e p h c (spaceOf o) (baseOf o + x.2 * strideOf o) (packRow (fmtOf o) (rowBytes o) x.1) d) d

/-! The judgement of a record (R86). -/

/-- Which operand fields an opcode uses: A, B, C, D; none for an opcode that its engine does not have (R84, R451). -/
def usesOf (r : Nat) : Option (Bool × Bool × Bool × Bool) :=
  let abd := some (true, true, false, true)
  let ad := some (true, false, false, true)
  match engineOf r, opcodeOf r with
  | 0, 0x10 => some (true, true, bitsOf (immOf r) 2 0 ≠ 0, true)
  | 0, 0x11 => ad
  | 1, 0x20 | 1, 0x21 | 1, 0x22 | 1, 0x24 | 1, 0x25 | 1, 0x26 | 1, 0x28 | 1, 0x32 | 1, 0x33 | 1, 0x34 => abd
  | 1, 0x23 | 1, 0x2F | 1, 0x30 => some (true, true, true, true)
  | 1, 0x27 | 1, 0x29 | 1, 0x2A | 1, 0x2B | 1, 0x2C | 1, 0x2D | 1, 0x2E => ad
  | 1, 0x31 => some (false, false, false, true)
  | 2, 0x40 => abd
  | 2, 0x41 => ad
  | 4, 0x50 => some (true, false, false, false)
  | 4, 0x51 => some (false, false, false, true)
  | 5, 0x60 => some (true, false, false, false)
  | 6, 0x00 | 6, 0x02 | 6, 0x04 => some (false, false, false, false)
  | 6, 0x01 | 6, 0x03 => some (true, false, false, false)
  | _, _ => none

/-- IMM has only bits and values with a meaning (R451). -/
def immOk (r : Nat) : Bool :=
  let imm := immOf r
  match engineOf r, opcodeOf r with
  | 0, 0x10 => imm % 8 ≤ 3 && bitsOf imm 6 3 = 0
  | 1, 0x26 => imm ≤ 4
  | 1, 0x2E => (imm % 8 = 1 || imm % 8 = 2 || imm % 8 = 3) && imm < 16
  | 1, 0x2F => imm < 2
  | 1, 0x31 => imm < 4
  | 1, 0x34 => imm = 0 || imm = 1 || imm = 3
  | 2, 0x40 => imm < 3
  | 2, 0x41 => imm < 2
  | 4, _ => imm < 32
  | 5, _ => imm < 4
  | _, _ => imm = 0

/-- Vector element operations (R445). -/
def isElementOp (r : Nat) : Bool :=
  engineOf r = 1 && opcodeOf r ≠ 0x2E && opcodeOf r ≠ 0x31

/-- Forerunner compare in force, and heritage mode, of an arithmetic word (R71, R76, R77). -/
def fcmpOf (arith : Nat) : Bool := bitOf arith 0 || bitOf arith 1
def heritageOf (arith : Nat) : Bool := bitOf arith 1

/-- A descriptor's own rules (R87, R89, R77). `dest` marks an operand that the record writes. -/
def opdOk (heritage : Bool) (digMask : Nat) (dest : Bool) (o : Nat) : Bool :=
  if isParam o then bitsOf o 63 2 = 0
  else
    let f := fmtOf o
    bitsOf o 63 60 = 0 && bitsOf o 127 120 = 0 && bitsOf o 255 246 = 0 && fmtValid f && rndOf o ≠ 3 &&
    rowsOf o ≠ 0 && colsOf o ≠ 0 && !(heritage && (f = 3 || f = 4 || f = 5)) &&
    rowBytes o ≤ strideOf o && (f ≠ 4 || strideOf o % 16 = 0) &&
    (spaceOf o ≠ 1 || (f = 0 && baseOf o % 4 = 0 && strideOf o % 4 = 0)) && colsOf o ≤ tcolsOf o &&
    !(dest && digEnOf o && !digMask.testBit (digSlotOf o))

/-- A finished value of format `src` is narrowed to format f: the conversion may round, clamp or draw (R62, R67). A Vi4
source stands for Vf16. -/
def narrows (src f : Nat) : Bool :=
  match f with
  | 0 => src = 5
  | 1 => src = 0 || src = 5
  | 2 => src ≠ 2 && !fmtIsInt src
  | 3 => src ≠ 3 && !fmtIsInt src
  | 4 => true
  | 5 => false
  | _ => !fmtIsInt src

/-- D is a narrowing destination of the record (R62, R67, R113): of a CVT by its source's format, of an MM and of the
arithmetic vector operations from Vf32. The others move bits, or write their results in D's own format. -/
def narrowingDest (r a dd : Nat) : Bool :=
  match engineOf r, opcodeOf r with
  | 0, 0x10 => narrows 0 (fmtOf dd)
  | 1, 0x27 => narrows (if isParam a then 0 else fmtOf a) (fmtOf dd)
  | 1, 0x20 | 1, 0x21 | 1, 0x22 | 1, 0x23 | 1, 0x24 | 1, 0x25 | 1, 0x28 | 1, 0x29 | 1, 0x2A | 1, 0x2B | 1, 0x2C | 1, 0x2D =>
    narrows 0 (fmtOf dd)
  | _, _ => false

/-- D draws under the tensor number that is the sampler's own (R134). -/
def samplersTensor (r a dd : Nat) : Bool :=
  !isParam dd && rndOf dd = 1 && tensorOf dd = 0xFFFFFF && narrowingDest r a dd

/-- Every byte of a transposing-buffer operand lies in the buffer (R101, R119). -/
def inBuffer (o : Nat) : Bool := (footprint o).all (fun f => f.2.2 < 65536)

/-- The kind of a CMP or SELECT source: 0 Vf, 1 integer, 2 parameter entry (R452). -/
def srcKind (o : Nat) : Nat := if isParam o then 2 else if fmtIsInt (fmtOf o) then 1 else 0

/-- The four element formats that are matrix operands (R110). -/
def isMatrixFmt (f : Nat) : Bool := f ≤ 3

/-- A check of a record's operands: the operands that it concerns (0 to 3 for A to D), and whether it holds. -/
abbrev OpdCheck := List Nat × Bool

/-- A check of the operands l. -/
def chk (l : List Nat) (holds : Bool) : OpdCheck := (l, holds)

/-- MM's operands (R108 to R110, R114, R116). -/
def mmChecks (r a b c dd : Nat) : List OpdCheck :=
  let bt := bitOf (immOf r) 7
  let fuse := bitsOf (immOf r) 2 0
  let m := if spaceOf a = 2 then colsOf a else rowsOf a
  let k := if spaceOf a = 2 then rowsOf a else colsOf a
  let (kb, n) := if bt then (colsOf b, rowsOf b) else (rowsOf b, colsOf b)
  let apart (x y : Nat) : Bool := !footsMeet (footprint x) (footprint y)
  [chk [0] (!isParam a && isMatrixFmt (fmtOf a) && (spaceOf a ≠ 2 || inBuffer a)),
   chk [1] (spaceOf b ≤ 1 && (isMatrixFmt (fmtOf b) || (fmtOf b = 4 && bt && colsOf b % 32 = 0))),
   chk [3] (spaceOf dd ≤ 1 && isMatrixFmt (fmtOf dd) && (!accumOf r || fmtOf dd = 0)),
   chk [0, 1] (kb = k), chk [0, 3] (rowsOf dd = m), chk [1, 3] (colsOf dd = n), chk [0, 3] (apart dd a), chk [1, 3] (apart dd b)] ++
  if fuse = 0 then []
  else
    [chk [2] (spaceOf c ≤ 1 && fmtOf c = 0 && colsOf c = (if fuse = 2 then 1 else 2)), chk [0, 2] (rowsOf c = m),
     chk [2, 3] (apart dd c), chk [0, 2] (apart c a), chk [1, 2] (apart c b)]

/-- Source k of a vector element operation: a parameter entry, or a tensor in a store with D's shape or one element
(R445, R446). -/
def srcChecks (dd k o : Nat) : List OpdCheck := [chk [k] (spaceOf o ≠ 2), chk [k, 3] (isScalar o || sameShape o dd)]

/-- The checks of a record's operands (R445, R446, R451, R452 and the opcode's own rules). -/
def operandChecks (r a b c dd : Nat) : List OpdCheck :=
  let inStore (o : Nat) : Bool := spaceOf o ≤ 1
  let elem1 := chk [3] (inStore dd) :: srcChecks dd 0 a
  let elem2 := elem1 ++ srcChecks dd 1 b
  match engineOf r, opcodeOf r with
  | 0, 0x10 => mmChecks r a b c dd
  | 0, _ => [chk [0] (spaceOf a = 0), chk [3] (spaceOf dd = 2 && inBuffer dd), chk [0, 3] (fmtOf a = fmtOf dd && sameShape a dd)]
  | 1, 0x23 => elem2 ++ srcChecks dd 2 c
  | 1, 0x26 => elem2 ++ [chk [3] (fmtIsInt (fmtOf dd)), chk [0, 1] (srcKind a = srcKind b || srcKind a = 2 || srcKind b = 2)]
  | 1, 0x2E =>
    let q := if immOf r % 8 = 2 then 1 else 2
    [chk [0] (inStore a), chk [3] (inStore dd && fmtOf dd = 0 && (if bitOf (immOf r) 3 then rowsOf dd = q else colsOf dd = q)),
     chk [0, 3] (if bitOf (immOf r) 3 then colsOf dd = colsOf a else rowsOf dd = rowsOf a)]
  | 1, 0x2F =>
    [chk [0] (inStore a && fmtOf a = 5), chk [3] (inStore dd && fmtOf dd = 5), chk [0, 3] (sameShape a dd),
     chk [1] (isParam b || fmtOf b = 0), chk [2] (isParam c || fmtOf c = 0)] ++ srcChecks dd 1 b ++ srcChecks dd 2 c
  | 1, 0x30 =>
    let okAB (o : Nat) : Bool := if isParam o then fmtOf dd = 0 || fmtOf dd = 8 || fmtOf dd = 9 else fmtOf o = fmtOf dd
    elem2 ++ srcChecks dd 2 c ++ [chk [3] (fmtOf dd ≠ 4), chk [0, 3] (okAB a), chk [1, 3] (okAB b), chk [2] (srcKind c ≠ 0)]
  | 1, 0x31 =>
    [chk [3] (inStore dd && rndOf dd = 0 && tensorOf dd ≠ 0xFFFFFF &&
      (if immOf r = 0 then fmtOf dd = 9 || fmtOf dd = 10 || fmtOf dd = 11 else fmtOf dd = 0))]
  | 1, 0x32 | 1, 0x33 => elem2 ++ [chk [3] (fmtIsInt (fmtOf dd)), chk [0] (srcKind a ≠ 0), chk [1] (srcKind b ≠ 0)]
  | 1, 0x34 =>
    elem2 ++ [chk [3] (fmtIsInt (fmtOf dd) && (immOf r ≠ 3 || fmtOf dd = 8)), chk [0, 3] ((if isParam a then 9 else fmtOf a) = fmtOf dd),
      chk [1] (srcKind b ≠ 0)]
  | 1, 0x27 | 1, 0x29 | 1, 0x2A | 1, 0x2B | 1, 0x2C | 1, 0x2D => elem1
  | 1, _ => elem2
  | 2, 0x40 =>
    let mode := immOf r
    [chk [0] (inStore a && (if mode = 2 then fmtOf a = 9 && colsOf a % 2 = 0 else isMatrixFmt (fmtOf a)) &&
        (mode ≠ 0 || originOf a % tcolsOf a = 0)),
     chk [1] (inStore b && fmtOf b = 9 && colsOf b = 16),
     chk [3] (inStore dd && fmtOf dd = 9 && (if mode = 1 then colsOf dd % 2 = 0 else colsOf dd = 1)),
     chk [0, 1] (rowsOf a = rowsOf b), chk [1, 3] (rowsOf dd = rowsOf b)]
  | 2, _ =>
    [chk [0] (inStore a && fmtOf a = 9 && colsOf a = 16), chk [3] (inStore dd && fmtOf dd = 9 && colsOf dd = 16),
     chk [0, 3] (rowsOf a = rowsOf dd)]
  | 4, 0x50 => [chk [0] (inStore a)]
  | 4, _ => [chk [3] (inStore dd && fmtOf dd = 9 && rowsOf dd * colsOf dd = 2)]
  | 5, _ => [chk [0] (spaceOf a = 0 && fmtOf a = 9 && rowsOf a = 1 && colsOf a = 16 && baseOf a % 64 = 0)]
  | _, 0x01 => [chk [0] (isParam a && paramOf a 0 ≠ 0)]
  | _, 0x03 => [chk [0] (isParam a && bitsOf (paramOf a 0) 23 20 ≤ 8)]
  | _, _ => []

/-- The operands at fault of checks that do not hold: those that fail a check of their own, else those between which a
check fails. -/
def faultyOperands (l : List OpdCheck) : List Nat :=
  let bad := (l.filter (fun x => !x.2)).map (·.1)
  let own := bad.filter (fun x => x.length = 1)
  (List.range 4).filter (fun k => (if own.isEmpty then bad else own).any (fun x => x.contains k))

/-- What a context may name on a tile (R86): masks, number of descriptors, channels, heritage. -/
structure Allot where
  pens : Nat
  lands : Nat
  digs : Nat
  opds : Nat
  dma : Nat
  heritage : Bool
  deriving DecidableEq, Repr

/-- A record's own fields (R12, R82 to R86, R451): everything but its operand descriptors. -/
def recordOk (al : Allot) (r : Nat) : Bool :=
  match usesOf r with
  | none => false
  | some (ua, ub, uc, ud) =>
    bitsOf r 15 14 = 0 && bitsOf r 127 123 = 0 && tokenOf r = b2n (engineOf r = 0 && opcodeOf r = 0x10) &&
    lwTargetOf r < 2 ^ 23 && (!accumOf r || (engineOf r = 0 && opcodeOf r = 0x10)) && immOk r &&
    ((opdAOf r ≠ 1023) == ua) && ((opdBOf r ≠ 1023) == ub) && ((opdCOf r ≠ 1023) == uc) && ((opdDOf r ≠ 1023) == ud) &&
    (waitsOf r ++ postsOf r).all (fun n => al.pens.testBit n) && (!lwEnOf r || al.lands.testBit (lwIdxOf r)) &&
    (engineOf r ≠ 4 || al.digs.testBit (immOf r % 32)) && (engineOf r ≠ 5 || al.dma.testBit (immOf r % 4))

/-- Loops: a stack of four (R85). -/
def loopsOk (r : Nat) (depth : Nat) : Bool :=
  if engineOf r ≠ 6 then true
  else match opcodeOf r with
    | 0x01 => depth < 4
    | 0x02 => depth ≠ 0
    | 0x04 => depth = 0
    | _ => true

/-- The verdict on a record: well formed; malformed, with the descriptors at fault (0x3FF: none); or out of bounds, with
the descriptor, the store and the first byte outside of each footprint that leaves its share. -/
inductive Verdict
  | ok
  | malformed (opds : List Nat)
  | bounds (outs : List (Nat × Nat × Nat))
  deriving DecidableEq, Repr

/-- The operands named, in the order A to D, each with its index, its image and whether it is written. -/
def namedOperands (w : WinEnt) : List (Nat × Nat × Bool) :=
  let mmC := engineOf w.raw = 0 && opcodeOf w.raw = 0x10
  [(opdAOf w.raw, w.a, false), (opdBOf w.raw, w.b, false), (opdCOf w.raw, w.c, mmC),
   (opdDOf w.raw, w.d, true)].filter (fun x => x.1 ≠ 1023)

/-- Judgement of malformation (R86): the record's fields, then each descriptor, then the operands together. -/
def judgeForm (al : Allot) (depth : Nat) (w : WinEnt) : Verdict :=
  if !recordOk al w.raw || !loopsOk w.raw depth then .malformed [0x3FF]
  else match (namedOperands w).filter (fun x =>
      x.1 ≥ al.opds || !opdOk al.heritage al.digs x.2.2 x.2.1 || (x.1 = opdDOf w.raw && samplersTensor w.raw w.a w.d)) with
    | x :: l => .malformed (x.1 :: l.map (·.1))
    | [] => match faultyOperands (operandChecks w.raw w.a w.b w.c w.d) with
      | [] => .ok
      | l => .malformed (l.map (fun k => [opdAOf w.raw, opdBOf w.raw, opdCOf w.raw, opdDOf w.raw].getD k 0x3FF))

/-- Judgement of the footprints of a well-formed record (R86, R89). -/
def judgeBounds (d : Dev) (p h c : Nat) (w : WinEnt) : Verdict :=
  match ((namedOperands w).flatMap (fun x => (footprint x.2.1).map (fun f => (x.1, f)))).filter
      (fun x => x.2.1 ≤ 1 && !inShare d p h c x.2.1 x.2.2.1 x.2.2.2) with
  | [] => .ok
  | l => .bounds (l.map (fun x => (x.1, x.2.1, firstOutside d p h c x.2.1 x.2.2.1)))

end Sys2Proof.Machine
end

