-- ==== Sys2Proof/Machine/Flags.lean ====
section
/-! DEFINITION. The overflow flag, NaN events and the NaN trap (R64, R72 to R75), and the failure of a record that
reads what cannot be read (R180, R192). -/

namespace Sys2Proof.Machine

/-- The device grid number that half h of a physical tile carries (R106, R249). -/
def gridNo (d : Dev) (p h : Nat) : Nat := if h = 0 then rget d ⟨.TILE_LOG_A, p, 0, 0⟩ else rget d ⟨.TILE_LOG_B, p, 0, 0⟩

/-- A tile carries two logical tiles (R169). -/
def isFolded (d : Dev) (p : Nat) : Bool := rget d ⟨.TILE_LOG_B, p, 0, 0⟩ ≠ 0xFFFF

/-- The logical tile number in the context's grid of a device grid number (R249). -/
def ctxNumber (d : Dev) (c g : Nat) : Nat := g / d.gridX * (getCtx d c).cols + g % d.gridX

/-- The logical tile number in the context's grid of half h of tile p, which reports use (R249). -/
def ctxTile (d : Dev) (p h c : Nat) : Nat := ctxNumber d c (gridNo d p h)

/-- A device grid number lies in the context's rectangle (R249). -/
def inRectangle (d : Dev) (c g : Nat) : Bool :=
  d.gridX ≠ 0 && g % d.gridX < (getCtx d c).cols && g / d.gridX < (getCtx d c).rows

/-- An operation sets its overflow flag (R64, R414): counted, and gathered into the context's sticky status. -/
def overflowSeen (e : Env) (p h c : Nat) (ov : Bool) (d : Dev) : Dev :=
  if ov then satAdd e ⟨.TILE_OVF_OPS, p, 0, 0⟩ 1 (rbit d ⟨.TILE_CTX_OVF, p, c, h⟩) else d

/-- A NaN event of an element (R72, R75): logical index, cause, format of the result, the operands' bits. -/
structure NanEv where
  elem : Nat
  cause : Nat
  rfmt : Nat
  a : Nat
  b : Nat := 0
  c : Nat := 0
  deriving DecidableEq, Repr

/-- The trap record (R75) of logical tile `tile`, or of link `tile` for a collective engine. FCMP is the program's flag as it
stands, for a heritage context too (the model's choice beside R77; notes/assumptions/111.md). -/
def trapImage (e : Env) (d : Dev) (tile c engine idx issue : Nat) (ev : NanEv) : Nat :=
  let ar := (getCtx d c).arith
  packFields [(64, e.clk.ft), (64, d.rc), (32, idx), (32, issue), (16, tile), (3, c), (5, 0), (4, engine), (4, 0),
    (4, ev.cause), (4, ev.rfmt), (1, b2n (!ftSynced d)), (1, b2n (heritageOf ar)), (1, b2n (bitOf ar 0)),
    (5, 0), (16, 0), (64, ev.elem), (64, ev.a), (64, ev.b), (64, ev.c)]

/-- The event of the lowest logical index (R74). -/
def lowestEvent (evs : List NanEv) : Option NanEv :=
  evs.foldl (fun acc ev => match acc with
    | none => some ev
    | some x => if ev.elem < x.elem then some ev else some x) none

/-- The NaN trap of a context (R73): the first event of an armed trap. -/
def nanTrap (e : Env) (tile c engine idx issue : Nat) (evs : List NanEv) (d : Dev) : Dev :=
  match lowestEvent evs with
  | none => d
  | some ev =>
    if (getCtx d c).trapArmed then
      let d := updCtx d c (fun x => { x with trapArmed := false })
      let img := trapImage e d tile c engine idx issue ev
      haltCtx c (pushEvent e c 3 img (logPut e 2 img d))
    else d

/-- NaN events of a record on a tile: counted, then the trap (R72, R73). -/
def nanEvents (e : Env) (p h c engine idx issue : Nat) (evs : List NanEv) (d : Dev) : Dev :=
  nanTrap e (ctxTile d p h c) c engine idx issue evs (satAdd e ⟨.TILE_NAN_EVENTS, p, 0, 0⟩ evs.length d)

/-- A record, or its decoding, reads bytes that cannot be read (R180, R192): counters, the error record, the halt
and the failure with cause 4, or 9 beyond HBM_CAP. The check syndrome of an uncorrectable word is a free value
(notes/assumptions/99.md). -/
def readFail (e : Env) (p c : Nat) (op : Option (Nat × Nat)) (r : StoreRes) (d : Dev) : Dev :=
  match r with
  | .ok _ => d
  | .badStore space off =>
    let (u, d) := takeFree d
    failWith e c 4 (storeErr 0x0102 p space off u (some c) op) (satAdd e ⟨storeCounter space true, p, 0, 0⟩ 1 d)
  | .badHbm line => failWith e c 4 (hbmErr d 0x0112 line (some c) op) (hbmUeSeen e line d)
  | .lostHbm line => failWith e c 4 (hbmErr d 0x0112 line (some c) op) d
  | .beyond a => let x := beyondErr a (some c) op d; failWith e c 9 x.1 x.2

end Sys2Proof.Machine
end

