-- ==== Sys2Proof/Machine/Channel.lean ====
section
/-! DEFINITION. Channel descriptors (R201): fields, the ranges a transfer can touch, and the checks at loading
(R203). -/

namespace Sys2Proof.Machine

def chSrc (x : Nat) : Nat := bitsOf x 63 0
def chDst (x : Nat) : Nat := bitsOf x 127 64
def chSrcSpace (x : Nat) : Nat := bitsOf x 130 128
def chDstSpace (x : Nat) : Nat := bitsOf x 133 131
def chBswap (x : Nat) : Bool := bitOf x 134
def chHswap (x : Nat) : Bool := bitOf x 135
def chBarrier (x : Nat) : Bool := bitOf x 136
def chLandEn (x : Nat) : Bool := bitOf x 137
def chLand (x : Nat) : Nat := bitsOf x 142 138
def chTile (x : Nat) : Nat := bitsOf x 159 144
def chRank (x : Nat) : Nat := bitsOf x 175 160
def chLen (x : Nat) : Nat := bitsOf x 213 192
def chCnt (x k : Nat) : Nat := bitsOf x (243 + 96 * k) (224 + 96 * k)
def chSstep (x k : Nat) : Int := toSigned 32 (bitsOf x (287 + 96 * k) (256 + 96 * k))
def chDstep (x k : Nat) : Int := toSigned 32 (bitsOf x (319 + 96 * k) (288 + 96 * k))

/-- m of R202. -/
def chSwap (x : Nat) : Nat := b2n (chBswap x) + 2 * b2n (chHswap x)

/-- Start of a run on each side (R202). -/
def chSrcAt (x i0 i1 i2 : Nat) : Int := chSrc x + i0 * chSstep x 0 + i1 * chSstep x 1 + i2 * chSstep x 2
def chDstAt (x i0 i1 i2 : Nat) : Int := chDst x + i0 * chDstep x 0 + i1 * chDstep x 1 + i2 * chDstep x 2

/-- The lowest and highest byte that one side can touch. -/
def chRange (base len : Nat) (x : Nat) (step : Nat → Int) : Int × Int :=
  let reach (k : Nat) : Int := ((chCnt x k : Int) - 1) * step k
  (base + min 0 (reach 0) + min 0 (reach 1) + min 0 (reach 2),
   base + max 0 (reach 0) + max 0 (reach 1) + max 0 (reach 2) + len - 1)

def chSrcRange (x : Nat) : Int × Int := chRange (chSrc x) (chLen x) x (chSstep x)
def chDstRange (x : Nat) : Int × Int := chRange (chDst x) (chLen x) x (chDstep x)

/-- The own-store ranges of a transfer: space, first and last byte, whether the transfer writes there. -/
def chOwn (x : Nat) : List (Nat × Int × Int × Bool) :=
  (if chSrcSpace x ≤ 1 then [(chSrcSpace x, (chSrcRange x).1, (chSrcRange x).2, false)] else []) ++
  (if chDstSpace x ≤ 1 then [(chDstSpace x, (chDstRange x).1, (chDstRange x).2, true)] else [])

/-- Size of a store space of either side (R99, R100). -/
def spaceSize (sp : Nat) : Nat := if sp = 0 ∨ sp = 3 then 2 ^ 21 else 2 ^ 22

/-- Reserved fields and encodings, counts and address bits (R201, R203). -/
def chFieldsOk (x : Nat) : Bool :=
  chSrcSpace x ≤ 2 && chDstSpace x ≤ 4 && !bitOf x 143 && bitsOf x 191 176 = 0 && bitsOf x 223 214 = 0 &&
  bitsOf x 255 244 = 0 && bitsOf x 351 340 = 0 && bitsOf x 447 436 = 0 && chLen x ≠ 0 &&
  chCnt x 0 ≠ 0 && chCnt x 1 ≠ 0 && chCnt x 2 ≠ 0 &&
  (chSrcSpace x = 2 || chSrc x < spaceSize (chSrcSpace x)) && (chDstSpace x = 2 || chDst x < spaceSize (chDstSpace x))

/-- An integer is a multiple of k. -/
def multOf (k : Nat) (z : Int) : Bool := z % k = 0

/-- Address, LEN and steps of a side are multiples of k. -/
def chSrcAligned (x k : Nat) : Bool :=
  multOf k (chSrc x) && multOf k (chLen x) && multOf k (chSstep x 0) && multOf k (chSstep x 1) && multOf k (chSstep x 2)
def chDstAligned (x k : Nat) : Bool :=
  multOf k (chDst x) && multOf k (chLen x) && multOf k (chDstep x 0) && multOf k (chDstep x 1) && multOf k (chDstep x 2)

/-- Alignment of gradient-store sides and of swaps (R203). -/
def chAlignOk (x : Nat) : Bool :=
  (chSrcSpace x ≠ 1 || chSrcAligned x 4) && ((chDstSpace x ≠ 1 && chDstSpace x ≠ 4) || chDstAligned x 4) &&
  (!chBswap x || (chSrcAligned x 2 && chDstAligned x 2)) && (!chHswap x || (chSrcAligned x 4 && chDstAligned x 4))

/-- Landing, destination tile and disjointness (R203). `self` is the issuing logical tile's grid number, `rank` the
device's own. -/
def chPlaceOk (d : Dev) (c self rank x : Nat) : Bool :=
  let remote := chDstSpace x = 3 || chDstSpace x = 4
  (!remote || chLandEn x) && (chDstSpace x ≠ 2 || !chLandEn x) &&
  (!remote || (inRectangle d c (chTile x) && !(chTile x = self && chRank x = rank))) &&
  (chSrcSpace x ≠ chDstSpace x || (chSrcRange x).2 < (chDstRange x).1 || (chDstRange x).2 < (chSrcRange x).1)

/-- What the checks of R203 find. -/
inductive ChVerdict
  | ok
  | malformed
  | bounds (space off : Nat)
  | beyond (a : Nat)
  deriving DecidableEq, Repr

/-- The first byte of lo to hi outside a share, as an offset of 24 bits. -/
def chOutside (d : Dev) (p h c space : Nat) (lo hi : Int) : Option Nat :=
  let sh := shareOf d p h c space
  if lo < sh.1 then some (lo % 2 ^ 24).toNat
  else if hi ≥ sh.2 then some ((max lo sh.2) % 2 ^ 24).toNat else none

/-- The first HBM byte of a range at or above HBM_CAP, as a 64-bit address (R180). -/
def chBeyond (d : Dev) (lo hi : Int) : Option Nat :=
  if lo < 0 then some (lo % 2 ^ 64).toNat
  else if hi ≥ hbmCap d then some (max lo.toNat (hbmCap d)) else none

/-- The checks of R203, malformation first. -/
def chJudge (d : Dev) (p h c x : Nat) : ChVerdict :=
  if !(chFieldsOk x && chAlignOk x && chPlaceOk d c (gridNo d p h) (rget d ⟨.LNK_MY_RANK, 0, 0, 0⟩) x) then .malformed
  else match (chOwn x).findSome? (fun r => (chOutside d p h c r.1 r.2.1 r.2.2.1).map (fun o => (r.1, o))) with
    | some r => .bounds r.1 r.2
    | none =>
      let s := if chSrcSpace x = 2 then chBeyond d (chSrcRange x).1 (chSrcRange x).2 else none
      let t := if chDstSpace x = 2 then chBeyond d (chDstRange x).1 (chDstRange x).2 else none
      match s, t with
      | some a, _ => .beyond a
      | none, some a => .beyond a
      | none, none => .ok

end Sys2Proof.Machine
end

