-- ==== Sys2Proof/Machine/Hazard.lean ====
section
/-! DEFINITION. The debug-mode hazard detector (R255 to R257). -/

namespace Sys2Proof.Machine

/-- The detector watches context c (R255, R256). -/
def hazOn (d : Dev) (c : Nat) : Bool := rget d ⟨.DBG_MODE, c, 0, 0⟩ = 1 && rget d ⟨.DBG_HZ_EN, c, 0, 0⟩ = 1

/-- What a report says beside its time and place (R257). -/
structure Haz where
  kind : Nat
  idx : Nat := 0
  issue : Nat := 0
  other : Nat := 0
  space : Nat := 0
  counter : Nat := 0
  off : Nat := 0
  cnt : Nat := 0
  base : Nat := 0
  target : Nat := 0
  loose : Nat := 0
  deriving DecidableEq, Repr

/-- Bits lo to hi of an image. -/
def bitSpan (hi lo : Nat) : Nat := 2 ^ (hi + 1) - 2 ^ lo

/-- Fields of a report's image: OP_INDEX and OP_ISSUE, OTHER, SPACE and OFFSET, COUNTER, C and B, TARGET (R257). -/
def hazOpBits : Nat := bitSpan 191 128
def hazOtherBits : Nat := bitSpan 255 224
def hazPlaceBits : Nat := bitSpan 257 256 + bitSpan 311 288
def hazCountBits : Nat := bitSpan 268 264 + bitSpan 343 320 + bitSpan 375 352
def hazTargetBits : Nat := bitSpan 407 384

/-- The fields for which R257 gives a report of a kind no value (notes/assumptions/96.md); KIND 7 adds those of a wait
that the record does not have. -/
def hazLoose : Nat → Nat
  | 1 => hazCountBits + hazTargetBits
  | 2 => hazCountBits + hazTargetBits
  | 3 => hazOtherBits + hazCountBits + hazTargetBits
  | 4 => hazOtherBits + hazTargetBits
  | 5 => hazOpBits + hazPlaceBits + hazCountBits + hazTargetBits
  | 6 => hazPlaceBits + hazCountBits + hazTargetBits
  | _ => hazPlaceBits

/-- The report's image (R257), but for the fields without a value. -/
def hazImage (e : Env) (d : Dev) (p h c : Nat) (z : Haz) : Nat :=
  packFields [(64, e.clk.ft), (64, d.rc), (32, z.idx), (32, z.issue), (16, ctxTile d p h c), (3, c), (5, 0), (4, z.kind),
    (4, 0), (32, z.other), (2, z.space), (1, 1 - b2n (ftSynced d)), (5, 0), (5, z.counter), (3, 0),
    (16, 0), (24, z.off), (8, 0), (24, z.cnt), (8, 0), (24, z.base), (8, 0), (24, z.target), (8, 0), (96, 0)]

/-- A report is made: event ring, trouble log, status, count, and the halt of DBG_HZ_HALT. Fields without a value are
free. -/
def hazReport (e : Env) (p h c : Nat) (z : Haz) (d : Dev) : Dev :=
  let (u, d) := takeFree d
  let img := hazImage e d p h c z ||| (u &&& z.loose)
  let d := pushEvent e c 4 img (logPut e 3 img d)
  let k : RegKey := ⟨.DBG_HZ_STATUS, c, 0, 0⟩
  let d := rset d k (rget d k ||| 2 ^ (z.kind - 1))
  let d := satAdd e ⟨.DBG_HZ_COUNT, c, 0, 0⟩ 1 d
  if rget d ⟨.DBG_HZ_HALT, c, 0, 0⟩ = 1 then haltOn c d p else d

/-- The first byte shared by two ranges of one space. -/
def firstShared (s : Nat) (lo hi : Int) (s' : Nat) (lo' hi' : Int) : Option Nat :=
  if s = s' ∧ lo ≤ hi' ∧ lo' ≤ hi then some (max lo lo').toNat else none

/-- A record against a transfer's own-store ranges where either side writes: space and first byte. -/
def transferMeets (w : WinEnt) (x : Nat) : Option (Nat × Nat) :=
  (chOwn x).findSome? (fun r =>
    ((if r.2.2.2 then allFeet w else writeFeet w).findSome? (fun f =>
      (firstShared r.1 r.2.1 r.2.2.1 f.1 f.2.1 f.2.2).map (fun o => (r.1, o)))))

/-- KIND 1: the older records, not completed, that a transfer meets. -/
def hazKind1 (e : Env) (p h c : Nat) (older : List WinEnt) (w : WinEnt) (x : Nat) (d : Dev) : Dev :=
  if hazOn d c then
    older.foldl (fun d o => match transferMeets o x with
      | some (sp, off) => hazReport e p h c ⟨1, w.idx, w.issueNo, o.idx, sp, 0, off, 0, 0, 0, hazLoose 1⟩ d
      | none => d) d
  else d

/-- Active and held transfers of a logical tile and context on a channel. -/
def transfersOf (d : Dev) (p h c n : Nat) : List Xfer :=
  let ch := getChan d p n
  (ch.act.toList ++ ch.held).filter (fun x => x.c = c && x.h = h)

/-- KIND 2: the transfers that a record meets as it issues. -/
def hazKind2 (e : Env) (p h c : Nat) (w : WinEnt) (d : Dev) : Dev :=
  (List.range 4).foldl (fun d n =>
    (transfersOf d p h c n).foldl (fun d x => match transferMeets w x.desc with
      | some (sp, off) => hazReport e p h c ⟨2, w.idx, w.issueNo, n, sp, 0, off, 0, 0, 0, hazLoose 2⟩ d
      | none => d) d) d

/-- Footprints a record reads. -/
def readFeet (w : WinEnt) : List (Nat × Nat × Nat) := (readOpds w).flatMap footprint

/-- The shadow base of a landing counter (R256). -/
def shadowBase (d : Dev) (p n : Nat) : Nat := tblGet d.shadowBases (p * 32 + n) 0

/-- The tags of lines that a record reads beyond their counter's shadow base (R256). -/
def staleTags (d : Dev) (p h c : Nat) (w : WinEnt) : List LineTag :=
  d.lineTags.filter (fun t => t.p = p && t.h = h && t.c = c &&
    (readFeet w).any (fun f => f.1 = t.space && f.2.1 ≤ t.line * 64 + 63 && t.line * 64 ≤ f.2.2) &&
    (let k := (t.count + 2 ^ 24 - shadowBase d p t.counter) % 2 ^ 24; k ≠ 0 && k < 2 ^ 23))

/-- KIND 4: a record reads lines past their counter's shadow base; one report for the record, of a free one of those
lines (R256; notes/assumptions/96.md). -/
def hazKind4 (e : Env) (p h c : Nat) (w : WinEnt) (d : Dev) : Dev :=
  match staleTags d p h c w with
  | [] => d
  | t :: ts =>
    let (u, d) := takeFree d
    let t := (t :: ts).getD (u % (ts.length + 1)) t
    hazReport e p h c ⟨4, w.idx, w.issueNo, 0, t.space, t.counter % 32, t.line * 64, t.count, shadowBase d p t.counter, 0, hazLoose 4⟩ d

/-- The largest of two 24-bit values, judged within 2^23 (R256). -/
def later24 (a b : Nat) : Nat := if (b + 2 ^ 24 - a) % 2 ^ 24 < 2 ^ 23 then b else a

/-- The shadow base after a wait issued: B is the base before it. -/
def shadowWait (p : Nat) (n b t : Nat) (d : Dev) : Dev :=
  let k := p * 32 + n
  { d with shadowBases := tblSet (fun k => k) d.shadowBases k (later24 (shadowBase d p n) ((b + t) % 2 ^ 24)) 0 }

/-- What the detector sees as a record issues (R256). -/
def hazIssue (e : Env) (p h c : Nat) (w : WinEnt) (d : Dev) : Dev :=
  if hazOn d c then hazKind4 e p h c w (hazKind2 e p h c w d) else d

end Sys2Proof.Machine
end

