-- ==== Sys2Proof/Machine/Sched.lean ====
section
/-! DEFINITION. The scoreboard and issue of a tile (R81, R90 to R96, R101, R103, R105, R166, R167, R220). -/

namespace Sys2Proof.Machine

/-- The records of a window with the older ones before each, and its place. -/
def withOlder : List WinEnt → List WinEnt → List (List WinEnt × WinEnt)
  | _, [] => []
  | older, w :: ws => (older, w) :: withOlder (older ++ [w]) ws

/-- Rule 1 of R91. -/
def waitsMet (d : Dev) (p h : Nat) (older : List WinEnt) (w : WinEnt) : Bool :=
  (waitsOf w.raw).all (fun n =>
    (waitsOf w.raw).count n + ((older.filter (fun o => !o.issued)).map (fun o => (waitsOf o.raw).count n)).sum
      ≤ rget d ⟨.TILE_PEN_COUNT, p, penNo h n, 0⟩)

/-- The landing-counter wait is satisfied (R96). -/
def landMet (d : Dev) (p h : Nat) (w : WinEnt) : Bool :=
  !lwEnOf w.raw ||
    (let n := landNo h (lwIdxOf w.raw)
     let bt := (rget d ⟨.TILE_LAND_BASE, p, n, 0⟩ + lwTargetOf w.raw) % 2 ^ 24
     (rget d ⟨.TILE_LAND_COUNT, p, n, 0⟩ + 2 ^ 24 - bt) % 2 ^ 24 < 2 ^ 23)

/-- The footprints in the transposing buffer. -/
def tbFeet (fs : List (Nat × Nat × Nat)) : List (Nat × Nat × Nat) := fs.filter (fun f => f.1 = 2)

/-- A record touches the transposing buffer. -/
def touchesTb (w : WinEnt) : Bool := !(tbFeet (allFeet w)).isEmpty

/-- Two records overlap in the buffer where one writes (R101). -/
def tbConflict (x y : WinEnt) : Bool :=
  footsMeet (tbFeet (writeFeet x)) (tbFeet (allFeet y)) || footsMeet (tbFeet (allFeet x)) (tbFeet (writeFeet y))

/-- The unissued records of logical tile h that touch the buffer, with their contexts. -/
def tbWaiters (d : Dev) (p h : Nat) : List (Nat × WinEnt) :=
  (List.range 8).flatMap (fun c =>
    if (getStrm d p h c).on then ((getStrm d p h c).win.filter (fun w => !w.issued && touchesTb w)).map (fun w => (c, w)) else [])

/-- The unissued record that has touched the buffer longest, of logical tile h (R166). -/
def oldestTb (d : Dev) (p h : Nat) : Option (Nat × WinEnt) :=
  (tbWaiters d p h).foldl (fun acc x => match acc with
    | none => some x
    | some y => if x.2.entered < y.2.entered then some x else some y) none

/-- The record of the other logical tile is the oldest that touches the buffer: the owner's later ones wait (R166). -/
def tbAsked (d : Dev) (p h : Nat) (w : WinEnt) : Bool := (oldestTb d p (1 - h)).any (fun x => x.2.entered < w.entered)

/-- Issue order of different contexts' uses of the buffer (R101), and its owner on a folded tile (R166). -/
def tbFree (d : Dev) (p h c : Nat) (w : WinEnt) : Bool :=
  !touchesTb w ||
    ((!isFolded d p || (rget d ⟨.TILE_FOLD_TB_OWNER, p, 0, 0⟩ = h && !tbAsked d p h w)) &&
     (List.range 8).all (fun k => k = c || (getStrm d p h k).win.all (fun o => !(o.issued && tbConflict o w))))

/-- A record folds into digest slot k (R103). -/
def foldsInto (w : WinEnt) (k : Nat) : Bool :=
  (engineOf w.raw = 4 && opcodeOf w.raw = 0x50 && immOf w.raw % 32 = k) ||
  (namedOperands w).any (fun x => x.2.2 && digEnOf x.2.1 && digSlotOf x.2.1 = k)

/-- DIGEST_READ of a slot. -/
def isDigestRead (w : WinEnt) : Bool := engineOf w.raw = 4 && opcodeOf w.raw = 0x51

/-- DIGEST_READ and the folds into its slot keep stream order (R103). -/
def digestFree (older : List WinEnt) (w : WinEnt) : Bool :=
  (!isDigestRead w || older.all (fun o => !foldsInto o (immOf w.raw % 32))) &&
  older.all (fun o => !(isDigestRead o && !o.issued && foldsInto w (immOf o.raw % 32)))

/-- UPD48 with RATIO set. -/
def isRatio (w : WinEnt) : Bool := engineOf w.raw = 1 && opcodeOf w.raw = 0x2F && bitOf (immOf w.raw) 0

/-- OPEN_RC of the templates of a STATE_INIT, as far as they can be read (R144, R145). -/
def openRcs (d : Dev) (p h c : Nat) (w : WinEnt) : List Nat :=
  match readCodes d p h c w.a with
  | .ok rows => rows.map (fun r => r.getD 6 0 + r.getD 7 0 * 2 ^ 32)
  | .error _ => []

/-- Item 2 of R145: the run coordinate has reached the largest OPEN_RC. -/
def streamsDue (d : Dev) (p h c : Nat) (w : WinEnt) : Bool :=
  !(engineOf w.raw = 2 && opcodeOf w.raw = 0x41) || (openRcs d p h c w).all (fun x => x ≤ d.rc)

/-- The shadow set of a DMA_GO's channel is empty (R200). -/
def shadowFree (d : Dev) (p : Nat) (w : WinEnt) : Bool :=
  engineOf w.raw ≠ 5 || (getChan d p (immOf w.raw % 4)).shd.isNone

/-- Rules 1 to 4 of R91. -/
def metRules (d : Dev) (p h : Nat) (older : List WinEnt) (w : WinEnt) : Bool :=
  waitsMet d p h older w && landMet d p h w && older.all (fun o => !conflict o w) &&
  older.all (fun o => o.issued || engineOf o.raw ≠ 6)

/-- Rules 1 to 4 of R91, with R101, R103 and R166. -/
def readyRules (d : Dev) (p h c : Nat) (older : List WinEnt) (w : WinEnt) : Bool :=
  metRules d p h older w && tbFree d p h c w && digestFree older w

/-- A window after its waits were judged anew: a stretch of R220 that is broken ends, and a landing wait that is now
satisfied is noted (R416). -/
def judgedWin (d : Dev) (p h : Nat) (win : List WinEnt) : List WinEnt :=
  (withOlder [] win).map (fun x =>
    if x.2.issued then x.2
    else { x.2 with aged := if metRules d p h x.1 x.2 then x.2.aged else none,
                    landed := x.2.landed || (lwEnOf x.2.raw && landMet d p h x.2) })

/-- The waits of a stream are judged anew; each landing wait newly satisfied is an occasion of the monitors (R416). -/
def judgeWaits (p h : Nat) (d : Dev) (c : Nat) : Dev :=
  let s := getStrm d p h c
  let win := judgedWin d p h s.win
  if win = s.win then d
  else
    let n := (win.filter (·.landed)).length - (s.win.filter (·.landed)).length
    (List.range n).foldl (fun d _ => pushFreeSample { src := 2, fa := p, ctx := some c } d)
      (setStrm d p h c { s with win := win })

/-- What records wait for has moved on a tile (R91, R96, R220, R416). -/
def waitsMoved (p : Nat) (d : Dev) : Dev :=
  (List.range 8).foldl (judgeWaits p 1) ((List.range 8).foldl (judgeWaits p 0) d)

/-- Context c may issue on tile p: a launch is in force and is not ending, and the tile does not halt it (R105,
R218, R235, R449). -/
def mayIssue (d : Dev) (p c : Nat) : Bool :=
  let x := getCtx d c
  x.cur.isSome && x.ending = .running && !x.decided && !(getTile d p).halt.testBit c

/-- An armed event that must take effect before work of context c ordered after the advance that fires it (R40): a
publication of its own, and a change of mapping, a rotation or a switch-over of any context, since a logical tile moves
with the work of every context on it (R169). -/
def placesCtx (c : Nat) (a : Armed) : Bool :=
  !a.fired && ((a.kind = 1 && a.ctx = c) || a.kind = 2 || a.kind = 5 || a.kind = 6)

/-- A change of placement that has fired is still to be made, or one made above a coordinate that was set is still to be
taken back (R40, R43). -/
def placesDue (d : Dev) : Bool := !d.placeDue.isEmpty || !d.undo.isEmpty

/-- Issue of context c on a logical tile waits under R40: for a change of placement that is due, or because an advance
that its tile has issued is still to be judged and would fire one. -/
def heldByR40 (d : Dev) (p h c : Nat) : Bool :=
  placesDue d ||
  ((getCtx d c).pacing && ((getStrm d p h c).advs.drop (getCtx d c).judged).any (fun v =>
    d.armed.any (fun a => placesCtx c a && a.coord ≤ v)))

/-- A record is eligible to issue (R40, R91, R92, R145, R200). -/
def eligible (d : Dev) (p h c : Nat) (older : List WinEnt) (w : WinEnt) : Bool :=
  mayIssue d p c && !w.issued && !heldByR40 d p h c && readyRules d p h c older w && shadowFree d p w &&
  (tokenOf w.raw ≠ 1 || w.token) && (!isRatio w || older.all (fun o => !isRatio o || o.issued)) &&
  streamsDue d p h c w && (engineOf w.raw ≠ 6 || older.all (fun o => o.issued))

/-- Deadline of a record (R220). -/
def deadlineOf (d : Dev) (c : Nat) (w : WinEnt) : Nat :=
  let dl := ((getCtx d c).cur.map (·.deadline)).getD (2 ^ 64 - 1)
  match w.aged with
  | some ft => min dl ft
  | none => dl

/-- What a stream offers an engine: its earliest deadline, and its oldest eligible record with its place. -/
structure Offer where
  h : Nat
  c : Nat
  deadline : Nat
  pos : Nat
  ent : WinEnt
  deriving DecidableEq, Repr

/-- The offer of logical tile h and context c to engine g. -/
def offerOf (d : Dev) (p g h c : Nat) : Option Offer :=
  let s := getStrm d p h c
  if !s.on then none
  else
    let l := ((withOlder [] s.win).zipIdx).filter (fun x => engineOf x.1.2.raw = g && eligible d p h c x.1.1 x.1.2)
    match l with
    | [] => none
    | x :: _ => some ⟨h, c, (l.map (fun y => deadlineOf d c y.1.2)).foldl min (deadlineOf d c x.1.2), x.2, x.1.2⟩

/-- Every offer to engine g on tile p. -/
def offers (d : Dev) (p g : Nat) : List Offer :=
  ((List.range 8).flatMap (fun c => [(0, c), (1, c)])).filterMap (fun x => offerOf d p g x.1 x.2)

/-- Whether x goes before y (R92, R167): `aLast` when logical tile A issued last to the engine. -/
def goesFirst (aLast : Bool) (x y : Offer) : Bool :=
  x.deadline < y.deadline || (x.deadline = y.deadline && (x.c < y.c || (x.c = y.c && (x.h = 0) ≠ aLast)))

/-- The record that engine g accepts. -/
def winner (d : Dev) (p g : Nat) : Option Offer :=
  let aLast := (getTile d p).lastA.testBit g
  (offers d p g).foldl (fun acc x => match acc with
    | none => some x
    | some y => if goesFirst aLast x y then some x else some y) none

/-- The window with one record replaced. -/
def putEnt (p h c pos : Nat) (w : WinEnt) (d : Dev) : Dev :=
  let s := getStrm d p h c
  setStrm d p h c { s with win := s.win.set pos w }

/-- Waits are consumed at issue (R94, R96). -/
def consume (d : Dev) (p h c : Nat) (w : WinEnt) : Dev :=
  let d := (waitsOf w.raw).foldl (fun d n =>
    let k : RegKey := ⟨.TILE_PEN_COUNT, p, penNo h n, 0⟩
    rset d k (rget d k - 1)) d
  let d := if lwEnOf w.raw ∧ !w.landed then pushFreeSample { src := 2, fa := p, ctx := some c } d else d
  if lwEnOf w.raw then
    let n := landNo h (lwIdxOf w.raw)
    let k : RegKey := ⟨.TILE_LAND_BASE, p, n, 0⟩
    let b := rget d k
    let d := if hazOn d c then shadowWait p n b (lwTargetOf w.raw) d else d
    if lwConsumeOf w.raw then rset d k ((b + lwTargetOf w.raw) % 2 ^ 24) else d
  else d

/-- A record issues: waits consumed, issue counted, its place in the order of issues taken (R81, R94, R96, R240);
the entry as issued and the device. -/
def accept (e : Env) (p h c pos : Nat) (w : WinEnt) (d : Dev) : WinEnt × Dev :=
  let d := consume d p h c w
  let s := getStrm d p h c
  let n := (tblGet s.issues w.idx 0 + 1) % 2 ^ 32
  let t := getTile d p
  let g := engineOf w.raw
  let w := { w with issued := true, landed := w.landed || lwEnOf w.raw, order := t.issues, issueNo := n }
  let d := setStrm d p h c { s with issues := tblSet (fun k => k) s.issues w.idx n 0, win := s.win.set pos w }
  let d := setTile d p { t with issues := t.issues + 1,
                                lastA := if g = 6 then t.lastA else setBits t.lastA g g (b2n (h = 0)) }
  let d := if w.aged.isSome then satAdd e ⟨.TILE_AGED, p, c, h⟩ 1 d else d
  (w, hazIssue e p h c w (waitsMoved p d))

/-- What running a record gives: the device, whether the record ends FAILED, and digest folds that its completion
applies. -/
structure Ran where
  dev : Dev
  failed : Bool := false
  folds : List (Nat × Nat) := []

/-- A record that an engine runs: tile, logical tile, context, entry. -/
abbrev Run := Env → Nat → Nat → Nat → WinEnt → Dev → Ran

/-- What a record's run gave is noted in its window entry, which its place in the order of issues names: a failure may
have taken unissued records out of the window before it. -/
def noteRan (p h c order : Nat) (r : Ran) : Dev :=
  let s := getStrm r.dev p h c
  setStrm r.dev p h c { s with win := s.win.map (fun x => if x.issued && x.order = order then { x with failed := r.failed, folds := r.folds } else x) }

/-- What the reads of a record find beside what they deliver (R179, R190): corrected words and lines, and the return of
data from a fold backing region. -/
def recordSeen (e : Env) (p h c : Nat) (w : WinEnt) (d : Dev) : Dev :=
  (readRanges w).foldl (fun d r => storeSeen e p h c r.1 r.2.1 r.2.2 (some (w.idx, w.issueNo)) d) d

/-- The write-combining entries that the reads of a record meet (R193). -/
def recordMet (e : Env) (p h c : Nat) (w : WinEnt) (d : Dev) : Dev :=
  (readRanges w).foldl (fun d r => storeMet e p h c r.1 r.2.1 r.2.2 d) d

/-- The engine's next record issues, when it is one of the opcode (R92). -/
def issueEngine (g op : Nat) (run : Run) (p : Nat) (e : Env) (d : Dev) : Dev :=
  match winner d p g with
  | none => d
  | some o =>
    if opcodeOf o.ent.raw ≠ op then d
    else
      let wd := accept e p o.h o.c o.pos o.ent d
      let r := run e p o.h o.c wd.1 (recordSeen e p o.h o.c wd.1 wd.2)
      recordMet e p o.h o.c wd.1 (noteRan p o.h o.c wd.1.order r)

/-- The oldest unissued record of a stream with its place, and those before it. -/
def oldestUnissued (s : Strm) : Option ((List WinEnt × WinEnt) × Nat) :=
  ((withOlder [] s.win).zipIdx).find? (fun x => !x.1.2.issued)

/-- A control record issues, when the oldest unissued record of the stream is one of the opcode and is eligible
(R92). -/
def issueControl (op : Nat) (run : Run) (p h c : Nat) (e : Env) (d : Dev) : Dev :=
  match oldestUnissued (getStrm d p h c) with
  | none => d
  | some x =>
    if engineOf x.1.2.raw = 6 ∧ opcodeOf x.1.2.raw = op ∧ (getStrm d p h c).on ∧ eligible d p h c x.1.1 x.1.2 then
      let wd := accept e p h c x.2 x.1.2 d
      (run e p h c wd.1 wd.2).dev
    else d

end Sys2Proof.Machine
end

