-- ==== Sys2Proof/Machine/Elements.lean ====
section
/-! DEFINITION. What the engines share: sources by element, narrowing into a destination, the write with its digest,
flags and events (R64 to R68, R72, R103, R113, R134 to R136). -/

namespace Sys2Proof.Machine

/-- The operands that a record writes (R82, R109, R146). -/
def writtenOpds (w : WinEnt) : List Nat :=
  (if opdDOf w.raw ≠ 1023 then [w.d] else []) ++
  (if engineOf w.raw = 0 ∧ opcodeOf w.raw = 0x10 ∧ opdCOf w.raw ≠ 1023 then [w.c] else []) ++
  (if writesStates w.raw then [w.b] else [])

/-- A reading that can fail, run on, for a record that has written nothing before it has read everything: a failure ends
it FAILED (R93, R192). -/
def orStop (e : Env) (p c : Nat) (w : WinEnt) (d : Dev) (r : Except StoreRes Ran) : Ran :=
  match r with
  | .ok x => x
  | .error s => ⟨readFail e p c (some (w.idx, w.issueNo)) s d, true, []⟩

/-- The device with every word, line and entry readable: what an engine works out from operands that can be read does not
depend on this. -/
def unmarked (d : Dev) : Dev :=
  { d with tsUE := [], gsUE := [], tbUE := [], lineUE := [], wcb := d.wcb.map (fun x => { x with bad := false }) }

/-- The codes and the block scales of an operand. -/
def readTensor (d : Dev) (p h c o : Nat) : Except StoreRes (List (List Nat) × List (List Nat)) := do
  let codes ← readCodes d p h c o
  let sc ← readScales d p h c o
  .ok (codes, sc)

/-- Heritage mode of a context (R77). -/
def heritageCtx (d : Dev) (c : Nat) : Bool := heritageOf (getCtx d c).arith

/-- Forerunner compare in force for a context (R71, R77). -/
def fcmpCtx (d : Dev) (c : Nat) : Bool := fcmpOf (getCtx d c).arith

/-- log2 of the logical vector width W (R77, R115). -/
def lwCtx (d : Dev) (c : Nat) : Nat := if heritageCtx d c then 5 else 6

/-- Salt of a tensor for a context on a logical tile (R134). -/
def saltOf (d : Dev) (p h c tensor : Nat) : Nat :=
  tensorSalt tensor (rget d ⟨.TILE_SRL_SALT, p, c, h⟩) (rget d ⟨.TILE_SRL_STEP, p, c, h⟩)

/-- What narrowing into a destination needs (R66, R67, R136). -/
structure Sink where
  opd : Nat
  key : Nat
  salt : Nat
  rbits : Nat
  scales : List (List Nat)
  deriving DecidableEq, Repr

/-- The sink of a destination; a Vi4 destination's scale plane is read. -/
def sinkOf (d : Dev) (p h c o : Nat) : Except StoreRes Sink :=
  match readScales d p h c o with
  | .ok sc => .ok ⟨o, rget d ⟨.TILE_SRL_KEY, p, c, h⟩, saltOf d p h c (tensorOf o), if heritageCtx d c then 3 else 4, sc⟩
  | .error r => .error r

/-- The random value of the destination's element (i, j) (R66). -/
def sinkR (s : Sink) (i j : Nat) : Nat :=
  if rndOf s.opd = 1 then elementBits s.key s.salt (lindex s.opd i j % 2 ^ 64) s.rbits else 0

/-- The block scale of the destination's element. -/
def sinkScale (s : Sink) (i j : Nat) : Nat := (s.scales.getD i []).getD (j / 32) 0

/-- An element written: code, overflow, cause of its NaN event (0: none), operands of the trap record (R75). -/
structure Elem where
  code : Nat
  ov : Bool := false
  cause : Nat := 0
  a : Nat := 0
  b : Nat := 0
  c : Nat := 0
  deriving DecidableEq, Repr

/-- A Vf32 result narrowed into the destination (R67, R72, R113): an invalid conversion takes cause 5, another NaN
the cause of its arithmetic. -/
def narrowElem (s : Sink) (i j : Nat) (v : Conv) (a b c : Nat) : Elem :=
  let n := narrowTo (fmtOf s.opd) (rndOf s.opd) (sinkR s i j) s.rbits (sinkScale s i j) v.code
  ⟨n.code, v.ov || n.ov, if n.cause = 5 then 5 else if v.cause ≠ 0 then v.cause else n.cause, a, b, c⟩

/-- A conversion into the destination (R67, R68). -/
def convertElem (s : Sink) (i j : Nat) (fromInt : Bool) (v : Val) (a : Nat) : Elem :=
  let n := convertTo (fmtOf s.opd) (rndOf s.opd) (sinkR s i j) s.rbits (sinkScale s i j) fromInt v
  ⟨n.code, n.ov, n.cause, a, 0, 0⟩

/-- Rows of elements of an operand's shape. -/
def elemRows (o : Nat) (f : Nat → Nat → Elem) : List (List Elem) :=
  (List.range (rowsOf o)).map (fun i => (List.range (colsOf o)).map (f i))

/-- NaN events of rows of elements of a destination, by logical index (R72, R88). -/
def rowEvents (o : Nat) (rows : List (List Elem)) : List NanEv :=
  (rows.zipIdx).flatMap (fun x => (x.1.zipIdx).filterMap (fun y =>
    if y.1.cause = 0 then none else some ⟨lindex o x.2 y.2 % 2 ^ 64, y.1.cause, fmtOf o, y.1.a, y.1.b, y.1.c⟩))

/-- The fold of what is written, when the destination has DIG_EN (R103, R173). -/
def foldOf (o : Nat) (codes scales : List (List Nat)) : List (Nat × Nat) :=
  if digEnOf o then [(digSlotOf o, digestOf o codes scales)] else []

/-- The codes of rows of elements. -/
def rowCodes (rows : List (List Elem)) : List (List Nat) := rows.map (fun r => r.map (·.code))

/-- A destination and what goes into it: descriptor, elements, scale plane; whether the scale plane is written too
(R119); whether DIG_EN folds it. -/
structure Part2 where
  opd : Nat
  rows : List (List Elem)
  scales : List (List Nat) := []
  putScales : Bool := false
  fold : Bool := true

/-- The scale plane of a destination. -/
def writeScales (e : Env) (p h c : Nat) (x : Part2) (d : Dev) : Dev :=
  if x.putScales then
    (x.scales.zipIdx).foldl (fun d r =>
      storeWrite e p h c (spaceOf x.opd) (scaleBaseOf x.opd + r.2 * (strideOf x.opd / 16)) (r.1.map (BitVec.ofNat 8)) d) d
  else d

/-- What a destination folds. -/
def partFolds (x : Part2) : List (Nat × Nat) := if x.fold then foldOf x.opd (rowCodes x.rows) x.scales else []

/-- Whether element (i, j) of part k of a record's results can be worked out: every element that it depends on can be
read (R93, R192). -/
def depsOk (d : Dev) (p h c : Nat) (w : WinEnt) (k i j : Nat) : Bool :=
  let el := elemOk d p h c
  let src (o : Nat) : Bool := if isScalar o then el o 0 0 else el o i j
  let mmA : Bool := if spaceOf w.a = 2 then colOk d p h c w.a i else rowOk d p h c w.a i
  let mmB (n : Nat) : Bool := if bitOf (immOf w.raw) 7 then rowOk d p h c w.b n else colOk d p h c w.b n
  let mmD (n : Nat) : Bool := mmA && mmB n && (!accumOf w.raw || el w.d i n)
  match engineOf w.raw, opcodeOf w.raw with
  | 0, 0x10 => if k = 0 then mmD j else (List.range (colsOf w.d)).all mmD
  | 0, _ => el w.a i j
  | 1, 0x2E => if bitOf (immOf w.raw) 3 then colOk d p h c w.a j else rowOk d p h c w.a i
  | 1, 0x2F => el w.a i j && src w.b && src w.c
  | 1, _ =>
    (opdAOf w.raw = 1023 || src w.a) && (opdBOf w.raw = 1023 || src w.b) && (opdCOf w.raw = 1023 || src w.c) &&
    scaleOk d p h c w.d i j
  | 2, _ => false
  | _, _ => true

/-- Which elements of a part were written when the failure was found: a free bit for each element that could be worked
out and whose place exists (R93, R180, R192; notes/assumptions/15.md). -/
def reached (d : Dev) (p h c : Nat) (w : WinEnt) (u k : Nat) (x : Part2) (i j : Nat) : Bool :=
  u.testBit (i * (colsOf x.opd + 1) + j) && depsOk d p h c w k i j &&
  (elemBytes x.opd i j).all (fun b => (storeBeyond d p h c (spaceOf x.opd) b.1 b.2).isNone)

/-- The elements of a part that were reached are as computed; the others set no flag and raise no event. -/
def keepReached (took : Nat → Nat → Bool) (x : Part2) : Part2 :=
  { x with rows := (x.rows.zipIdx).map (fun r => (r.1.zipIdx).map (fun y =>
      if took r.2 y.2 then y.1 else { y.1 with ov := false, cause := 0 })) }

/-- The elements of a part that were reached are written, with the scale byte of a block before its first code. -/
def writeReached (e : Env) (p h c : Nat) (took : Nat → Nat → Bool) (x : Part2) (d : Dev) : Dev :=
  (x.rows.zipIdx).foldl (fun d r =>
    (r.1.zipIdx).foldl (fun d y =>
      if took r.2 y.2 then
        let d := if x.putScales ∧ fmtOf x.opd = 4 then
            storeWrite e p h c (spaceOf x.opd) (scaleBaseOf x.opd + r.2 * (strideOf x.opd / 16) + y.2 / 32)
              (leBytes ((x.scales.getD r.2 []).getD (y.2 / 32) 0) 1) d
          else d
        writeElem e p h c x.opd r.2 y.2 y.1.code d
      else d) d) d

/-- What the elements reached fold (R103). -/
def reachedFolds (took : Nat → Nat → Bool) (x : Part2) : List (Nat × Nat) :=
  if x.fold && digEnOf x.opd then [(digSlotOf x.opd, digestSome took x.opd (rowCodes x.rows) x.scales)] else []

/-- A record ends FAILED while it writes: the elements reached are written, folded and flagged, and no other (R64, R72,
R93, R103, R192). -/
def failWriting (e : Env) (p h c engine : Nat) (w : WinEnt) (parts : List Part2) (why : StoreRes) (d : Dev) : Ran :=
  let (u, d1) := takeFree d
  let bits (k : Nat) : Nat := (u >>> k * 2 ^ 32)
  let ps := parts.zipIdx.map (fun x => (keepReached (reached d p h c w (bits x.2) x.2 x.1) x.1, reached d p h c w (bits x.2) x.2 x.1))
  let d1 := ps.foldl (fun d x => writeReached e p h c x.2 x.1 d) d1
  let ov := ps.any (fun x => x.1.rows.any (fun r => r.any (·.ov)))
  let evs := ps.flatMap (fun x => rowEvents x.1.opd x.1.rows)
  let d1 := nanEvents e p h c engine w.idx w.issueNo evs (overflowSeen e p h c ov d1)
  ⟨readFail e p c (some (w.idx, w.issueNo)) why d1, true, ps.flatMap (fun x => reachedFolds x.2 x.1)⟩

/-- The first byte of a record's results that lies at or above HBM_CAP. -/
def resultsBeyond (d : Dev) (p h c : Nat) (parts : List Part2) : Option Nat :=
  parts.findSome? (fun x => ((opdRanges x.opd).take (rowsOf x.opd + (if x.putScales then rowsOf x.opd else 0))).findSome? (fun r =>
    storeBeyond d p h c r.1 r.2.1 r.2.2))

/-- Results are written, flags gathered and events raised; folds wait for completion (R64, R72, R93, R103). Where a place
lies beyond HBM_CAP the record ends FAILED (R180). -/
def putResults (e : Env) (p h c engine : Nat) (w : WinEnt) (extraOv : Bool) (parts : List Part2) (d : Dev) : Ran :=
  match resultsBeyond d p h c parts with
  | some a => failWriting e p h c engine w parts (.beyond a) d
  | none =>
    let d := parts.foldl (fun d x => writeScales e p h c x (writeCodes e p h c x.opd (rowCodes x.rows) d)) d
    let ov := extraOv || parts.any (fun x => x.rows.any (fun r => r.any (·.ov)))
    let evs := parts.flatMap (fun x => rowEvents x.opd x.rows)
    ⟨nanEvents e p h c engine w.idx w.issueNo evs (overflowSeen e p h c ov d), false, parts.flatMap partFolds⟩

/-- A record whose results are worked out from what it reads, and then written. Where something cannot be read, elements
that do not depend on it may have been written (R93, R192). -/
def runParts (engine : Nat) (f : Nat → Nat → Nat → WinEnt → Dev → Except StoreRes (List Part2)) : Run := fun e p h c w d =>
  match f p h c w d with
  | .ok parts => putResults e p h c engine w false parts d
  | .error s => match f p h c w (unmarked d) with
    | .ok parts => failWriting e p h c engine w parts s d
    | .error _ => failWriting e p h c engine w [] s d

/-- The statistics of a row of values (R115, R116): codes, and whether a rounding saturated. -/
def fusedRow (fn lw : Nat) (fcmp : Bool) (xs : List Val) : List Nat × Bool :=
  (quantitiesOf fn).foldl (fun acc q =>
    let r := finishPart q (fusedTree q fcmp lw none xs)
    (acc.1 ++ r.1, acc.2 || r.2)) ([], false)

/-- The bits of the first NaN of a statistic's operands, which its NaN event shows as those of its first operand (R75,
notes/assumptions/89.md). -/
def firstNanOf (l : List (Nat × Val)) : Nat := ((l.find? (fun x => x.2.isNone)).map (·.1)).getD 0

/-- An element of a statistic: a NaN has the cause of its operand, whose bits are `a` (R75, R115). -/
def statElem (a : Nat) (ov : Bool) (code : Nat) : Elem := ⟨code, ov, if code = nan32 then 4 else 0, if code = nan32 then a else 0, 0, 0⟩

/-- The statistics of a list of codes and values as elements. -/
def statElems (l : List (Nat × Val)) (st : List Nat × Bool) : List Elem := st.1.map (statElem (firstNanOf l) st.2)

end Sys2Proof.Machine
end

