-- ==== Sys2Proof/Machine/Control.lean ====
section
/-! DEFINITION. Completion of records (R93, R94), control records (R84, R85), the digest unit (R103) and DMA_GO
(R199, R200, R203). -/

namespace Sys2Proof.Machine

/-- The effects of one post (R94): a count of 255 stays, sets TILE_PEN_OVF and fails the context; a count above the
ceiling of the DEBUG section is reported (R256 KIND 6). -/
def postPennant (e : Env) (p h c : Nat) (w : WinEnt) (n : Nat) (d : Dev) : Dev :=
  let k : RegKey := ⟨.TILE_PEN_COUNT, p, penNo h n, 0⟩
  let v := rget d k
  if v = 255 then
    failWith e c 1 { cls := 0x0203, level := 3, index := p, op := some (w.idx, w.issueNo), syn := penNo h n }
      (rbit d ⟨.TILE_PEN_OVF, p, 0, 0⟩)
  else
    let d := rset d k (v + 1)
    if hazOn d c ∧ v + 1 > tblGet (getCtx d c).ceilings n 255 then
      hazReport e p h c ⟨6, w.idx, w.issueNo, n, 0, 0, 0, 0, 0, 0, hazLoose 6⟩ d
    else d

/-- What a record folded goes into its slots (R103). -/
def applyFolds (p h : Nat) (fs : List (Nat × Nat)) (d : Dev) : Dev :=
  fs.foldl (fun d f =>
    let k : RegKey := ⟨.TILE_DIG, p, slotNo h f.1, 0⟩
    rset d k (rget d k ^^^ f.2)) d

/-- A record leaves its window. One that ended FAILED posts nothing; the digests taken before the failure was found
stand (R90, R93, R103). -/
def completeAt (e : Env) (p h c pos : Nat) (w : WinEnt) (d : Dev) : Dev :=
  let s := getStrm d p h c
  let fin := engineOf w.raw = 6 && opcodeOf w.raw = 0x04
  let d := setStrm d p h c { s with win := s.win.eraseIdx pos, endDone := s.endDone || fin }
  let d := applyFolds p h w.folds d
  if w.failed then d else (postsOf w.raw).foldl (fun d n => postPennant e p h c w n d) d

/-- Whether an issued record is done (R84, R93, R205). -/
def mayComplete (pos : Nat) (w : WinEnt) : Bool :=
  w.issued && (engineOf w.raw ≠ 5 || w.dmaDone || w.failed) &&
  (!(engineOf w.raw = 6 && opcodeOf w.raw = 0x04) || pos = 0)

/-- NOP: waits and posts only (R84). -/
def runNop : Run := fun _ _ _ _ _ d => ⟨d, false, []⟩

/-- LOOP_START: a count is pushed (R84). -/
def runLoopStart : Run := fun _ p h c w d =>
  let s := getStrm d p h c
  ⟨setStrm d p h c { s with loops := (w.idx + 1, paramOf w.a 0) :: s.loops }, false, []⟩

/-- A loop stack after a LOOP_END (R84). -/
def loopNext : List (Nat × Nat) → List (Nat × Nat)
  | (b, n) :: l => if n - 1 = 0 then l else (b, n - 1) :: l
  | [] => []

/-- LOOP_END (R84). -/
def runLoopEnd : Run := fun _ p h c _ d =>
  let s := getStrm d p h c
  ⟨setStrm d p h c { s with loops := loopNext s.loops }, false, []⟩

/-- The value an ADVANCE names (R84). -/
def advanceValue (w : WinEnt) : Nat := paramOf w.a 0 + paramOf w.a 1 * 2 ^ 32

/-- The value that an ADVANCE of a logical tile leaves: that of its last one in the launch in force, or the context's
position (R34, R325). -/
def leavesAt (d : Dev) (c : Nat) (s : Strm) : Nat :=
  s.advs.getLast?.getD (if (getCtx d c).pacing then d.rc else (getCtx d c).pos)

/-- A stream names a value. Its sums are taken as it leaves a value of phase 6, so that what it adds from now on counts
for the next sample, however far ahead of the other tiles it is (R34, R129, R153). -/
def advanceStrm (d : Dev) (c v : Nat) (s : Strm) : Strm :=
  let s' := { s with advs := s.advs ++ [v] }
  if bitsOf (leavesAt d c s) 23 20 = 6 then { s' with sdw := 0, sw := 0, banks := s.banks ++ [(s.sdw, s.sw)] } else s'

/-- ADVANCE: its value is counted, the salt step becomes its step field, and it completes (R34, R93, R135). -/
def runAdvance : Run := fun e p h c w d =>
  let v := advanceValue w
  let d := setStrm d p h c (advanceStrm d c v (getStrm d p h c))
  let d := rset d ⟨.TILE_SRL_STEP, p, c, h⟩ (bitsOf v 63 24)
  let pos := (getStrm d p h c).win.findIdx (fun x => x.issued && x.order = w.order)
  ⟨completeAt e p h c pos w d, false, []⟩

/-- END has issued (R218). -/
def runEnd : Run := fun _ p h c _ d =>
  ⟨setStrm d p h c { getStrm d p h c with ended := true }, false, []⟩

/-- DIGEST: an existing tensor is folded (R103, R173). Where some of it cannot be read, which of the elements that can
be are folded before the failure is found is free (R93; notes/assumptions/15.md). -/
def runDigest : Run := fun e p h c w d =>
  let slot := immOf w.raw % 32
  match readTensor d p h c w.a with
  | .ok (codes, sc) => ⟨d, false, [(slot, digestOf w.a codes sc)]⟩
  | .error s =>
    let (u, d) := takeFree d
    let took (i j : Nat) : Bool := u.testBit (i * colsOf w.a + j) && elemOk d p h c w.a i j
    let dig := match readTensor (unmarked d) p h c w.a with
      | .ok (codes, sc) => digestSome took w.a codes sc
      | .error _ => 0
    ⟨readFail e p c (some (w.idx, w.issueNo)) s d, true, [(slot, dig)]⟩

/-- DIGEST_READ: the slot into D as two u32, and cleared (R84, R103). -/
def runDigestRead : Run := fun e p h c w d =>
  let k : RegKey := ⟨.TILE_DIG, p, slotNo h (immOf w.raw % 32), 0⟩
  let v := rget d k
  let d := rset d k 0
  let lo : Elem := { code := v % 2 ^ 32 }
  let hi : Elem := { code := v / 2 ^ 32 }
  putResults e p h c 4 w false [{ opd := w.d, rows := if rowsOf w.d = 1 then [[lo, hi]] else [[lo], [hi]] }] d

/-- The bytes of a channel descriptor as one number (R201). -/
def descNat (rows : List (List Nat)) : Nat := packFields ((rows.headD []).map (fun x => (32, x)))

/-- A failed check of R203: no byte moves, and no later transfer of the context on the channel starts. -/
def channelFail (e : Env) (p c n : Nat) (w : WinEnt) (v : ChVerdict) (d : Dev) : Dev :=
  let ch := getChan d p n
  let d := setChan d p n { ch with stopped := ch.stopped ||| 2 ^ c }
  let op := some (w.idx, w.issueNo)
  match v with
  | .ok => d
  | .malformed =>
    failWith e c 1 { cls := 0x0201, level := 3, index := p, op := op, syn := baseOf w.a % 2 ^ 24 + 0x3FF * 2 ^ 24 }
      (rbit d ⟨.TILE_MALFORMED, p, 0, 0⟩)
  | .bounds sp off =>
    failWith e c 2 { cls := 0x0202, level := 3, index := p, op := op, syn := off + sp * 2 ^ 24 + 0x3FF * 2 ^ 26 }
      (rbit d ⟨.TILE_BOUNDS, p, 0, 0⟩)
  | .beyond a => readFail e p c op (.beyond a) d

/-- DMA_GO: the channel descriptor goes into the shadow set and is checked (R199, R200, R203). -/
def runDmaGo : Run := fun e p h c w d =>
  orStop e p c w d (do
    let codes ← readCodes d p h c w.a
    let n := immOf w.raw % 4
    let x := descNat codes
    match chJudge d p h c x with
    | .ok =>
      let ch := getChan d p n
      let older := (getStrm d p h c).win.takeWhile (fun o => !(o.issued && o.order = w.order))
      let d := hazKind1 e p h c older w x d
      .ok ⟨setChan d p n { ch with shd := some { desc := x, c := c, h := h, idx := w.idx, issueNo := w.issueNo } }, false, []⟩
    | v => .ok ⟨channelFail e p c n w v d, true, []⟩)

/-- NOP (R84). -/
def execNop (p h c : Nat) (s : State) : Host.Outcome State Fault Refusal :=
  act s (placeOk p h c) (issueControl 0x00 runNop p h c)

/-- LOOP_START (R85). -/
def execLoopStart (p h c : Nat) (s : State) : Host.Outcome State Fault Refusal :=
  act s (placeOk p h c) (issueControl 0x01 runLoopStart p h c)

/-- LOOP_END (R84). -/
def execLoopEnd (p h c : Nat) (s : State) : Host.Outcome State Fault Refusal :=
  act s (placeOk p h c) (issueControl 0x02 runLoopEnd p h c)

/-- ADVANCE (R34). -/
def execAdvance (p h c : Nat) (s : State) : Host.Outcome State Fault Refusal :=
  act s (placeOk p h c) (issueControl 0x03 runAdvance p h c)

/-- END (R218). -/
def execEndStream (p h c : Nat) (s : State) : Host.Outcome State Fault Refusal :=
  act s (placeOk p h c) (issueControl 0x04 runEnd p h c)

/-- DIGEST (R103). -/
def execDigest (p : Nat) (s : State) : Host.Outcome State Fault Refusal :=
  act s (p < 1440) (issueEngine 4 0x50 runDigest p)

/-- DIGEST_READ (R103). -/
def execDigestRead (p : Nat) (s : State) : Host.Outcome State Fault Refusal :=
  act s (p < 1440) (issueEngine 4 0x51 runDigestRead p)

/-- DMA_GO (R199). -/
def execDmaGo (p : Nat) (s : State) : Host.Outcome State Fault Refusal :=
  act s (p < 1440) (issueEngine 5 0x60 runDmaGo p)

end Sys2Proof.Machine
end

