-- ==== Sys2Proof/Machine/Codes.lean ====
section
/-! DEFINITION. CRC-32C (R287, R288) and the Reed-Solomon code RS(224,216) over GF(2⁸) (R285). -/

namespace Sys2Proof.Machine

/-- One bit of the reflected Castagnoli CRC. -/
def crcBit (x : Nat) : Nat := if x % 2 = 1 then x / 2 ^^^ 0x82F63B78 else x / 2

/-- One byte of the CRC. -/
def crcByte (x : Nat) (b : Byte) : Nat :=
  crcBit (crcBit (crcBit (crcBit (crcBit (crcBit (crcBit (crcBit (x ^^^ b.toNat))))))))

/-- CRC-32C of RFC 3720 (R287). -/
def crc32c (bs : List Byte) : Nat := (bs.foldl crcByte 0xFFFFFFFF) ^^^ 0xFFFFFFFF

/-- Product in GF(2⁸) with x⁸ + x⁴ + x³ + x² + 1. -/
def gfMulFrom : Nat → Nat → Nat → Nat
  | 0, _, _ => 0
  | k + 1, a, b =>
    (if b % 2 = 1 then a else 0) ^^^ gfMulFrom k (if a ≥ 128 then (2 * a) ^^^ 0x11D else 2 * a) (b / 2)
def gfMul (a b : Nat) : Nat := gfMulFrom 8 a b

/-- Power in GF(2⁸). -/
def gfPow (a : Nat) : Nat → Nat
  | 0 => 1
  | n + 1 => gfMul a (gfPow a n)

/-- Inverse in GF(2⁸): a²⁵⁴. -/
def gfInv (a : Nat) : Nat :=
  let a2 := gfMul a a
  let a4 := gfMul a2 a2
  let a8 := gfMul a4 a4
  let a16 := gfMul a8 a8
  let a32 := gfMul a16 a16
  let a64 := gfMul a32 a32
  let a128 := gfMul a64 a64
  gfMul a2 (gfMul a4 (gfMul a8 (gfMul a16 (gfMul a32 (gfMul a64 a128)))))

/-- Coefficients of the generator polynomial below x⁸, highest first (R285). -/
def rsGen : List Nat :=
  ((List.range 8).foldl (fun g i =>
    let r := gfPow 2 i
    List.zipWith (fun a b => a ^^^ gfMul r b) (g ++ [0]) (0 :: g)) [1]).drop 1

/-- One data byte into the remainder register, highest coefficient first. -/
def rsShift (rem : List Nat) (b : Byte) : List Nat :=
  let f := rem.headD 0 ^^^ b.toNat
  List.zipWith (fun a g => a ^^^ gfMul f g) (rem.drop 1 ++ [0]) rsGen

/-- Parity of a codeword's 216 data bytes (R285). -/
def rsParity (bs : List Byte) : List Byte := (bs.foldl rsShift (List.replicate 8 0)).map (BitVec.ofNat 8)

/-- The value of a polynomial, highest coefficient first. -/
def gfEval (cs : List Nat) (x : Nat) : Nat := cs.foldl (fun a k => gfMul a x ^^^ k) 0

/-- The eight syndromes of a received codeword. -/
def rsSyndromes (cs : List Nat) : List Nat := (List.range 8).map (fun i => gfEval cs (gfPow 2 i))

/-- State of the search for the error locator: locator C, last locator B (lowest coefficient first), length,
distance and discrepancy of B. -/
structure RsSearch where
  c : List Nat := [1]
  b : List Nat := [1]
  len : Nat := 0
  gap : Nat := 1
  disc : Nat := 1
  deriving DecidableEq, Repr

/-- Sum of two polynomials, lowest coefficient first. -/
def gfAdd : List Nat → List Nat → List Nat
  | [], bs => bs
  | a :: as, [] => a :: as
  | a :: as, b :: bs => (a ^^^ b) :: gfAdd as bs

/-- One step of the search with syndrome n. -/
def rsStep (syn : List Nat) (r : RsSearch) (n : Nat) : RsSearch :=
  let d := ((List.range (r.len + 1)).map (fun i => gfMul (r.c.getD i 0) (if i ≤ n then syn.getD (n - i) 0 else 0))).foldl (· ^^^ ·) 0
  if d = 0 then { r with gap := r.gap + 1 }
  else
    let k := gfMul d (gfInv r.disc)
    let c := gfAdd r.c (List.replicate r.gap 0 ++ r.b.map (gfMul k))
    if 2 * r.len ≤ n then ⟨c, r.c, n + 1 - r.len, 1, d⟩ else { r with c := c, gap := r.gap + 1 }

/-- The error locator of a codeword. -/
def rsLocator (syn : List Nat) : RsSearch := (List.range 8).foldl (rsStep syn) {}

/-- Value of a polynomial, lowest coefficient first. -/
def gfEvalLow (cs : List Nat) (x : Nat) : Nat := gfEval cs.reverse x

/-- The error value at locator X = α^pos. -/
def rsValue (syn : List Nat) (loc : List Nat) (pos : Nat) : Nat :=
  let x := gfPow 2 pos
  let xi := gfInv x
  let omega := (List.range 8).map (fun i =>
    ((List.range (i + 1)).map (fun j => gfMul (syn.getD j 0) (loc.getD (i - j) 0))).foldl (· ^^^ ·) 0)
  let dloc := (List.range loc.length).map (fun i => if i % 2 = 1 then gfMul (loc.getD i 0) (gfPow xi (i - 1)) else 0)
  gfMul x (gfMul (gfEvalLow omega xi) (gfInv (dloc.foldl (· ^^^ ·) 0)))

/-- A received codeword of 224 bytes: the corrected bytes and whether any was corrected; none when it cannot be
corrected (R285). -/
def rsDecode (bs : List Byte) : Option (List Byte × Bool) :=
  let cs := bs.map (·.toNat)
  let syn := rsSyndromes cs
  if syn.all (· = 0) then some (bs, false)
  else
    let r := rsLocator syn
    let places := (List.range 224).filter (fun p => gfEvalLow r.c (gfInv (gfPow 2 p)) = 0)
    if r.len > 4 ∨ places.length ≠ r.len then none
    else
      let fixed := places.foldl (fun cs p => cs.set (223 - p) (cs.getD (223 - p) 0 ^^^ rsValue syn r.c p)) cs
      if (rsSyndromes fixed).all (· = 0) then some (fixed.map (BitVec.ofNat 8), true) else none

/-- Every second byte from the first, or from the second. -/
def alternate : Bool → List Byte → List Byte
  | _, [] => []
  | true, b :: bs => b :: alternate false bs
  | false, _ :: bs => alternate true bs

/-- Two lists, one byte from each in turn. -/
def weave : List Byte → List Byte → List Byte
  | a :: as, b :: bs => a :: b :: weave as bs
  | as, [] => as
  | [], bs => bs

/-- The block of a flit (R285). -/
def blockOf (flit : List Byte) : List Byte :=
  flit ++ rsParity (alternate true flit) ++ rsParity (alternate false flit)

/-- A received block: the flit, the number of codewords corrected, and the number that could not be. -/
def flitOf (block : List Byte) : List Byte × Nat × Nat :=
  let flit := block.take 432
  let r0 := rsDecode (alternate true flit ++ (block.drop 432).take 8)
  let r1 := rsDecode (alternate false flit ++ (block.drop 440).take 8)
  let d0 := (r0.map (fun r => r.1.take 216)).getD (alternate true flit)
  let d1 := (r1.map (fun r => r.1.take 216)).getD (alternate false flit)
  let fixes (r : Option (List Byte × Bool)) : Nat := b2n ((r.map (·.2)).getD false)
  (weave d0 d1, fixes r0 + fixes r1, b2n r0.isNone + b2n r1.isNone)

end Sys2Proof.Machine
end

