-- ==== Sys2Proof/Machine/Fabric.lean ====
section
/-! DEFINITION. Packets as bytes (R288, R289), buffers of the links, addresses and routes (R296, R297, R307, R308),
tags, and what becomes of a packet that cannot be carried (R207, R291). -/

namespace Sys2Proof.Machine

/-- The first 16 header bytes of a packet with a given DLC (R288). -/
def pktHead (p : Pkt) (dlc : Nat) : Nat :=
  packFields [(16, p.dst), (16, p.src), (2, p.vc), (1, dlc), (5, p.data.length / 16), (6, p.type), (2, 0), (16, p.birth),
    (64, p.body)]

/-- E2E of a packet (R288). -/
def pktE2E (p : Pkt) : Nat := crc32c (leBytes (pktHead p 0) 16 ++ p.data)

/-- A packet with its E2E filled in. -/
def sealPkt (p : Pkt) : Pkt := { p with e2e := pktE2E p }

/-- A packet's bytes (R288). -/
def pktBytes (p : Pkt) : List Byte := leBytes (pktHead p p.dlc + p.e2e * 2 ^ 128) 20 ++ p.data

/-- The packet at the start of a packet area, and the rest of the area. -/
def takePkt (bs : List Byte) : Pkt × List Byte :=
  let n := leNat (bs.take 20)
  let k := 16 * bitsOf n 39 35
  ({ dst := bitsOf n 15 0, src := bitsOf n 31 16, vc := bitsOf n 33 32, dlc := bitsOf n 34 34, type := bitsOf n 45 40,
     birth := bitsOf n 63 48, body := bitsOf n 127 64, e2e := bitsOf n 159 128, data := (bs.drop 20).take k },
   bs.drop (20 + k))

/-- The packets of a packet area (R286). -/
def takePkts : Nat → List Byte → List Pkt
  | 0, _ => []
  | n + 1, bs => (takePkt bs).1 :: takePkts n (takePkt bs).2

/-- Words of buffer that a packet occupies (R296). -/
def pktWords (p : Pkt) : Nat := 5 + p.data.length / 4

/-- Virtual channel of a packet: 2 × VC + DLC (R296). -/
def pktVc (p : Pkt) : Nat := 2 * p.vc + p.dlc

/-- BIRTH of a packet made now (R288). -/
def birthNow (e : Env) : Nat := bitsOf e.clk.ft 25 10

/-- A link interface; number 36 holds the packets that the device makes (R298). -/
def getLink (d : Dev) (n : Nat) : Link := tblGet d.links n {}
def setLink (d : Dev) (n : Nat) (l : Link) : Dev := { d with links := tblSet (fun k => k) d.links n l {} }
def updLink (d : Dev) (n : Nat) (f : Link → Link) : Dev := setLink d n (f (getLink d n))

/-- A link is UP (R318). -/
def linkUp (d : Dev) (n : Nat) : Bool := rget d ⟨.LNK_STATE, n, 0, 0⟩ = 2

/-- A link that is UP, or in RETRAIN with what is bound for it held (R294, R300). -/
def linkHolds (d : Dev) (n : Nat) : Bool := linkUp d n || rget d ⟨.LNK_STATE, n, 0, 0⟩ = 3

/-- Counts by small keys. -/
def cntGet (t : List (Nat × Nat)) (k : Nat) : Nat := tblGet t k 0
def cntAdd (t : List (Nat × Nat)) (k n : Nat) : List (Nat × Nat) := tblSet (fun k => k) t k (tblGet t k 0 + n) 0
def cntSub (t : List (Nat × Nat)) (k n : Nat) : List (Nat × Nat) := tblSet (fun k => k) t k (tblGet t k 0 - n) 0

/-- The device's own fabric address (R307). -/
def myAddr (d : Dev) : Nat := rget d ⟨.LNK_MY_ADDR, 0, 0, 0⟩

/-- Entry of the routing table (R308, R319). -/
def routeEntry (d : Dev) (dst : Nat) : Nat := rget d ⟨.LNK_ROUTE_WORD, dst / 4, 0, 0⟩ / 256 ^ (dst % 4) % 256

/-- Fabric address of a rank (R307, R319). -/
def rankAddr (d : Dev) (r : Nat) : Option Nat :=
  if r < rget d ⟨.LNK_RANK_COUNT, 0, 0, 0⟩ then some (rget d ⟨.LNK_RANK_WORD, r / 2, 0, 0⟩ / 65536 ^ (r % 2) % 65536) else none

/-- Where a packet goes next. -/
inductive Route
  | here
  | port (n : Nat) (dlx : Bool)
  | nowhere (cause : Nat)
  deriving DecidableEq, Repr

/-- The route of a packet in buffer `inp` (R291, R307, R308). A packet that the device makes for its own address
stays on the device, and an UNDELIV that it makes goes out whatever LNK_ROUTE_EN says (R291 cause 6). -/
def routeOf (d : Dev) (inp : Nat) (q : Queued) : Route :=
  match q.via with
  | some l => if linkHolds d l then .port l false else .nowhere 2
  | none =>
    if inp = 36 ∧ q.pkt.dst = myAddr d then .here
    else if rget d ⟨.LNK_ROUTE_EN, 0, 0, 0⟩ = 0 ∧ !(inp = 36 ∧ q.pkt.type = 3) then .nowhere 6
    else if q.pkt.dst = myAddr d then .here
    else
      let x := routeEntry d q.pkt.dst
      if x % 64 = 62 then .here
      else if x % 64 > 35 then .nowhere 1
      else if !linkHolds d (x % 64) then .nowhere 2
      else .port (x % 64) (x / 64 % 2 = 1)

/-- A record about a link. -/
def linkErr (cls n syn : Nat) : Err := { cls := cls, level := 4, kind := 2, index := n, syn := syn }

/-- A link that a record names where the manual leaves it open: a free value (notes/assumptions/34.md, 57.md). -/
def someLink (d : Dev) : Nat × Dev := let f := takeFree d; (f.1 % 36, f.2)

/-- The link that a record about a packet of buffer n names: a packet that this device made for itself came on none. -/
def linkOr (n : Nat) (d : Dev) : Nat × Dev := if n < 36 then (n, d) else someLink d

/-- The link that the record of a discarded packet names: the one whose buffer held it; for a packet that this device
made, the cable or the route that it was bound to, else a free one. -/
def discardLink (inp : Nat) (q : Queued) (d : Dev) : Nat × Dev :=
  if inp < 36 then (inp, d)
  else match q.via with
    | some l => (l, d)
    | none => if routeEntry d q.pkt.dst % 64 < 36 then (routeEntry d q.pkt.dst % 64, d) else someLink d

/-- A packet is discarded (R289, R291, R299): record, and the count of the link whose buffer held it. -/
def discardPkt (e : Env) (inp cause : Nat) (q : Queued) (d : Dev) : Dev :=
  let x := discardLink inp q d
  let n := x.1
  let d := logError e (linkErr 0x0403 n (n + q.pkt.type * 64 + cause * 4096)) x.2
  if cause = 0 ∨ (inp = 36 ∧ q.via.isNone) then d
  else satAdd e ⟨if cause = 4 then .LNK_HOLD_DROP else .LNK_UNDELIV, n, 0, 0⟩ 1 d

/-- A transfer of a channel by the record that launched it. -/
def isXfer (c h idx issueNo : Nat) (x : Xfer) : Bool := x.c = c && x.h = h && x.idx = idx && x.issueNo = issueNo

/-- A transfer completes as landed: by BARRIER, or always into the issuing tile's stores (R205). -/
def xferLands (x : Xfer) : Bool := chBarrier x.desc || chDstSpace x.desc ≤ 1

/-- A transfer stops where it is: it leaves the active set, and its DMA_GO will end FAILED (R207). -/
def stopXfer (c h idx issueNo : Nat) (ch : Chan) : Chan :=
  let fail (x : Xfer) : Xfer := { x with failed := true }
  match ch.act with
  | some x => if isXfer c h idx issueNo x then { ch with act := none, held := ch.held ++ [fail x] }
              else { ch with held := ch.held.map (fun y => if isXfer c h idx issueNo y then fail y else y) }
  | none => { ch with held := ch.held.map (fun y => if isXfer c h idx issueNo y then fail y else y) }

/-- A write of a transfer to another logical tile has failed: `cause` of an UNDELIV, or a rejection at 0 (R207). -/
def writeFailed (e : Env) (p n c h idx issueNo cause : Nat) (d : Dev) : Dev :=
  let ch := getChan d p n
  let landed := (ch.act.toList ++ ch.held).any (fun x => isXfer c h idx issueNo x && xferLands x)
  let d := if landed then setChan d p n (stopXfer c h idx issueNo ch) else d
  let d := rbit d ⟨if cause = 0 then .TILE_DMA_REJECTED else .TILE_DMA_UNDELIVERED, p, n, 0⟩
  failWith e c 7 { cls := if cause = 0 then 0x0206 else 0x0205, level := 3, index := p, op := some (idx, issueNo),
                   syn := n + 4 * cause } d

/-- A write failed: its owner learns of it. -/
def ownerFailed (e : Env) (o : WrOwner) (cause : Nat) (d : Dev) : Dev :=
  match o with
  | .channel p n c h idx issueNo => writeFailed e p n c h idx issueNo cause d
  | _ => d

/-- The write of an owner has landed (R183, R205): a response goes to a channel whose transfer waits for it; an open
collective counts it. -/
def ownerLanded (o : WrOwner) (d : Dev) : Dev :=
  match o with
  | .channel p n c h idx issueNo =>
    let ch := getChan d p n
    if (ch.act.toList ++ ch.held).any (fun x => isXfer c h idx issueNo x && xferLands x) then
      { d with answers := d.answers ++ [o] } else d
  | .collective k => { d with cols := d.cols.map (fun x => if x.handle = k then { x with unlanded := x.unlanded - 1 } else x) }
  | .nobody => d

/-- A tag that is free, if one is; which of them a source takes is open (R297), so a free value f says where among the
65,536 the search begins. -/
def freeTag (d : Dev) (f : Nat) : Option Nat :=
  if 65536 ≤ d.tags.length then none
  else ((List.range (d.tags.length + 1)).map (fun k => (f + k) % 65536)).find? (fun t => d.tags.all (fun x => x.1 ≠ t))

/-- A tag is answered with a failure: released, and its owner learns of it (R207, R291, R299). -/
def tagFailed (e : Env) (t cause : Nat) (d : Dev) : Dev :=
  match d.tags.find? (fun x => x.1 = t) with
  | some x => ownerFailed e x.2 cause { d with tags := d.tags.filter (fun y => y.1 ≠ t) }
  | none => satAdd e ⟨.LNK_LATE_RESP, 0, 0, 0⟩ 1 d

/-- A packet that the device makes enters its injection buffer; one that cannot leave is discarded at once, but of a
request no packet is sent: its source acts as if UNDELIV had come (R291). -/
def injectPkt (e : Env) (via : Option Nat) (p : Pkt) (d : Dev) : Dev :=
  let q : Queued := { pkt := sealPkt p, via := via }
  match routeOf d 36 q with
  | .nowhere cause =>
    if p.vc = 0 then tagFailed e (bitsOf p.body 63 48) cause d else discardPkt e 36 cause q d
  | _ => updLink d 36 (fun l => { l with rx := l.rx ++ [q] })

/-- The UNDELIV that answers a request (R289, R291). -/
def undelivOf (e : Env) (d : Dev) (p : Pkt) (cause : Nat) : Pkt :=
  { dst := p.src, src := myAddr d, vc := 1, type := 3, birth := birthNow e,
    body := p.type + cause * 64 + bitsOf p.body 63 48 * 2 ^ 48 }

/-- A request that has not left its source: no packet of it is sent, so none is discarded (R291). One that waited beyond
the hold limit is (R299). -/
def unsent (inp cause : Nat) (q : Queued) : Bool := inp = 36 && q.via.isNone && q.pkt.vc = 0 && cause ≠ 4

/-- A packet of buffer `inp` cannot be carried further (R291). -/
def undeliver (e : Env) (inp cause : Nat) (q : Queued) (d : Dev) : Dev :=
  let d := if unsent inp cause q then d else discardPkt e inp cause q d
  if q.pkt.vc ≠ 0 then d
  else if inp = 36 then tagFailed e (bitsOf q.pkt.body 63 48) cause d
  else injectPkt e none (undelivOf e d q.pkt cause) d

/-- A packet leaves a buffer of a link: its words are owed to the sender (R296). -/
def freeWords (inp : Nat) (p : Pkt) (d : Dev) : Dev :=
  if inp < 36 then updLink d inp (fun l => { l with owed := cntAdd l.owed (pktVc p) (pktWords p) }) else d

/-- A packet of buffer `inp` cannot go anywhere: why, if so. -/
def stuckCause (d : Dev) (inp : Nat) (q : Queued) : Option Nat :=
  if q.pkt.vc = 3 then none
  else match routeOf d inp q with
    | .nowhere c => some c
    | _ => none

/-- The packets of a buffer that can no longer be carried are discarded and answered (R291). -/
def sweepLink (e : Env) (d : Dev) (inp : Nat) : Dev :=
  let rx := (getLink d inp).rx
  let bad := rx.filter (fun q => (stuckCause d inp q).isSome)
  let d1 := updLink d inp (fun l => { l with rx := rx.filter (fun q => (stuckCause d inp q).isNone) })
  bad.foldl (fun x q => freeWords inp q.pkt (undeliver e inp ((stuckCause d inp q).getD 0) q x)) d1

/-- The same for every buffer of the device. -/
def sweepLinks (e : Env) (d : Dev) : Dev := (List.range 37).foldl (sweepLink e) d

/-- The first packet of buffer `inp` on a virtual channel that meets a condition, taken out of it: it is the head of
its channel, or nothing is taken. -/
def takeHead (d : Dev) (inp v : Nat) (ok : Queued → Bool) : Option (Queued × Dev) :=
  let rx := (getLink d inp).rx
  match rx.find? (fun q => pktVc q.pkt = v && q.via.isNone) with
  | some q =>
    if ok q then some (q, freeWords inp q.pkt (updLink d inp (fun l => { l with rx := rx.erase q }))) else none
  | none => none

end Sys2Proof.Machine
end

