-- ==== Sys2Proof/Machine/Dma.lean ====
section
/-! DEFINITION. The movement of transfers (R200, R202, R205 to R209) and arriving writes (R96 to R98, R256). -/

namespace Sys2Proof.Machine

/-- Transfers that have left the active set and have not reached completion (R206). -/
def heldCount (ch : Chan) : Nat := (ch.held.filter (fun x => !x.complete)).length

/-- TILE_DMA_PAUSE (R209). -/
def chanPaused (d : Dev) (p n : Nat) : Bool := rget d ⟨.TILE_DMA_PAUSE, p, n, 0⟩ = 1

/-- The shadow set moves into an empty active set (R200, R203, R206, R209): not that of a context whose transfer failed
its checks on the channel. -/
def shadowMoves (p n : Nat) (d : Dev) : Dev :=
  let ch := getChan d p n
  match ch.act, ch.shd with
  | none, some x =>
    if chanPaused d p n || heldCount ch ≥ 4 || ch.stopped.testBit x.c then d
    else setChan d p n { ch with act := some x, shd := none }
  | _, _ => d

/-- Start of the next piece of a transfer on each side, and its length: a run is cut at source lines (R202, R211). The
checks at loading keep every side from below 0 but a destination in another logical tile (R203). -/
def pieceSrc (x : Xfer) : Nat := (chSrcAt x.desc x.i0 x.i1 x.i2).toNat + x.off
def pieceTo (x : Xfer) : Int := chDstAt x.desc x.i0 x.i1 x.i2 + x.off
def pieceDst (x : Xfer) : Nat := (pieceTo x).toNat
def pieceLen (x : Xfer) : Nat := min (chLen x.desc - x.off) (64 - pieceSrc x % 64)

/-- n bytes of a piece lie below the first byte of every store, or beyond the last (R98, R203). -/
def pieceOut (x : Xfer) (n : Nat) : Bool := pieceTo x < 0 || pieceTo x + n > 2 ^ 22

/-- The transfer after n further bytes of a run; none after the last byte (R202). -/
def xferNext (x : Xfer) (n : Nat) : Option Xfer :=
  if x.off + n < chLen x.desc then some { x with off := x.off + n }
  else if x.i0 + 1 < chCnt x.desc 0 then some { x with off := 0, i0 := x.i0 + 1 }
  else if x.i1 + 1 < chCnt x.desc 1 then some { x with off := 0, i0 := 0, i1 := x.i1 + 1 }
  else if x.i2 + 1 < chCnt x.desc 2 then some { x with off := 0, i0 := 0, i1 := 0, i2 := x.i2 + 1 }
  else none

/-- The bytes of the next piece, as read. -/
def pieceRead (d : Dev) (p : Nat) (x : Xfer) : StoreRes :=
  if chSrcSpace x.desc = 2 then
    match hbmRead d (pieceSrc x) (pieceLen x) with
    | .ok bs => .ok bs
    | .bad l => .badHbm l
    | .lost l => .lostHbm l
    | .beyond => .beyond (max (pieceSrc x) (hbmCap d))
  else storeRead d p x.h x.c (chSrcSpace x.desc) (pieceSrc x) (pieceLen x)

/-- What the read of a piece does beside what it delivers (R179, R190, R193, R416). -/
def pieceSeen (e : Env) (p : Nat) (x : Xfer) (d : Dev) : Dev :=
  if chSrcSpace x.desc = 2 then hbmDone e (pieceSrc x) (pieceLen x) d
  else storeMet e p x.h x.c (chSrcSpace x.desc) (pieceSrc x) (pieceLen x)
    (storeSeen e p x.h x.c (chSrcSpace x.desc) (pieceSrc x) (pieceLen x) (some (x.idx, x.issueNo)) d)

/-- The rearrangement of R204 within a piece. -/
def swapBytes (m : Nat) (bs : List Byte) : List Byte := (List.range bs.length).map (fun k => bs.getD (k ^^^ m) 0)

/-- The owner of a transfer's writes. -/
def xferOwner (p n : Nat) (x : Xfer) : WrOwner := .channel p n x.c x.h x.idx x.issueNo

/-- An arriving write of a channel, at the device's logical tile of grid number g. -/
def chanArrival (p n g space : Nat) (x : Xfer) (bs : List Byte) : Arrival :=
  { src := p * 4 + n, tile := g, space := space, off := pieceDst x, land := chLand x.desc,
    out := pieceOut x bs.length, data := bs, owner := xferOwner p n x }

/-- The WRITE packet of a piece (R290). -/
def pieceWrite (e : Env) (d : Dev) (dst tag : Nat) (x : Xfer) (bs : List Byte) : Pkt :=
  let a := pieceDst x
  { dst := dst, src := myAddr d, vc := 0, type := 1, birth := birthNow e,
    body := packFields [(16, chTile x.desc), (1, chDstSpace x.desc - 3), (5, chLand x.desc), (18, a / 16), (4, a % 16),
      (4, (a + bs.length) % 16), (16, tag)],
    data := List.replicate (a % 16) 0 ++ bs ++ List.replicate ((16 - (a + bs.length) % 16) % 16) 0 }

/-- A piece is written into the issuing tile's own stores under no landing counter (R205). A fold backing region
beyond HBM_CAP takes nothing, and the transfer stops (R180). -/
def ownWrite (e : Env) (p n : Nat) (x : Xfer) (sp : Nat) (bs : List Byte) (d : Dev) : Dev :=
  match storeBeyond d p x.h x.c sp (pieceDst x) bs.length with
  | some a =>
    readFail e p x.c (some (x.idx, x.issueNo)) (.beyond a) (setChan d p n (stopXfer x.c x.h x.idx x.issueNo (getChan d p n)))
  | none => storeWrite e p x.h x.c sp (pieceDst x) bs d

/-- What the sending of a piece gives: the device and how many writes await an answer; none while no tag is free, or
while a write into the own stores would overtake older writes of its channel (R202, R207). A WRITE has no field for a
place outside every store: such a write counts as rejected without a packet (R98; notes/assumptions/103.md). -/
def pieceSend (e : Env) (p n : Nat) (x : Xfer) (bs : List Byte) (d : Dev) : Option (Dev × Nat) :=
  let waits := b2n (xferLands x)
  match chDstSpace x.desc with
  | 2 =>
    let w := (cutLines (pieceDst x) bs.length bs).map (fun y =>
      { src := p * 4 + n, addr := y.1, data := y.2, ctx := some x.c,
        owner := xferOwner p n x : HbmWr })
    some ({ d with hbmWr := d.hbmWr ++ w }, waits * w.length)
  | 3 | 4 =>
    match rankAddr d (chRank x.desc) with
    | none => some (ownerFailed e (xferOwner p n x) 3 d, waits)
    | some a =>
      if a = myAddr d then
        some ({ d with arrivals := d.arrivals ++ [chanArrival p n (chTile x.desc) (chDstSpace x.desc - 3) x bs] }, waits)
      else if pieceOut x bs.length then some (ownerFailed e (xferOwner p n x) 0 d, waits)
      else match freeTag d (takeFree d).1 with
        | none => none
        | some t =>
          let d := { (takeFree d).2 with tags := d.tags ++ [(t, xferOwner p n x)] }
          some (injectPkt e none (pieceWrite e d a t x bs) d, waits)
  | sp =>
    if chLandEn x.desc then
      some ({ d with arrivals := d.arrivals ++ [chanArrival p n (gridNo d p x.h) sp x bs] }, 1)
    else if d.arrivals.any (fun a => a.src = p * 4 + n) then none
    else some (ownWrite e p n x sp bs d, 0)

/-- The active transfer of a channel after a piece: still active, or held with every read done (R200). A transfer that
the sending of the piece has stopped is left as it is. -/
def pieceDone (p n : Nat) (x : Xfer) (waits : Nat) (d : Dev) : Dev :=
  let ch := getChan d p n
  match ch.act with
  | none => d
  | some y =>
    if !isXfer x.c x.h x.idx x.issueNo y then d
    else
      let y := { y with unanswered := y.unanswered + waits, after := y.after + b2n y.discard }
      match xferNext y (pieceLen x) with
      | some z => setChan d p n { ch with act := some z }
      | none => setChan d p n { ch with act := none, held := ch.held ++ [{ y with allSent := true }] }

/-- The cycles for which a write was held by flow control, for want of room in the mesh, a link or the queue at its
destination, or of a tag (R207, R214, R297): a free number (notes/assumptions/31.md). -/
def writeHeld (e : Env) (p n : Nat) (d : Dev) : Dev :=
  let (k, d) := takeFree d
  satAdd e ⟨.TILE_DMA_STALLS, p, n, 0⟩ k d

/-- A read of the active transfer of a channel returns and is written on (R202); an uncorrectable one stops the
transfer (R192, R207). A read whose write cannot be sent yet returns later. -/
def readReturns (e : Env) (p n : Nat) (d : Dev) : Dev :=
  match (getChan d p n).act with
  | none => d
  | some x =>
    if x.discard && x.after ≥ 256 then d
    else match pieceRead d p x with
    | .ok bs =>
      match pieceSend e p n x (swapBytes (chSwap x.desc) bs) (pieceSeen e p x (writeHeld e p n d)) with
      | none => writeHeld e p n d
      | some r => satAdd e ⟨.TILE_DMA_PIECES, p, n, 0⟩ 1 (pieceDone p n x r.2 r.1)
    | r =>
      let d := pieceSeen e p x d
      let ch := getChan d p n
      let d := setChan d p n (stopXfer x.c x.h x.idx x.issueNo ch)
      let d := match r with
        | .beyond _ => d
        | _ => rbit d ⟨.TILE_DMA_UE, p, n, 0⟩
      readFail e p x.c (some (x.idx, x.issueNo)) r d

/-- The response at the head of those on their way to a channel reaches its transfer (R205). -/
def responseArrives (p n : Nat) (d : Dev) : Dev :=
  let mine (o : WrOwner) : Bool := match o with
    | .channel p' n' _ _ _ _ => p' = p && n' = n
    | _ => false
  match d.answers.find? mine with
  | some (.channel p' n' c h idx issueNo) =>
    let d := { d with answers := d.answers.erase (.channel p' n' c h idx issueNo) }
    let ch := getChan d p n
    let dec (x : Xfer) : Xfer := if isXfer c h idx issueNo x then { x with unanswered := x.unanswered - 1 } else x
    setChan d p n { ch with act := ch.act.map dec, held := ch.held.map dec }
  | _ => d

/-- A held transfer has reached its completion, or will never (R205, R207, R235). -/
def xferOver (x : Xfer) : Bool := x.failed || x.discard || (x.allSent && (!xferLands x || x.unanswered = 0))

/-- The DMA_GO of a transfer is told (R93, R205, R207). -/
def tellRecord (p : Nat) (d : Dev) (x : Xfer) : Dev :=
  let s := getStrm d p x.h x.c
  setStrm d p x.h x.c { s with win := s.win.map (fun w =>
    if w.issued && w.idx = x.idx && w.issueNo = x.issueNo && engineOf w.raw = 5
    then { w with dmaDone := true, failed := w.failed || x.failed } else w) }

/-- A discarded transfer leaves the active set: its outstanding reads, at most 16 KiB, have returned (R211, R235). -/
def retireDiscarded (ch : Chan) : Chan :=
  match ch.act with
  | some x => if x.discard then { ch with act := none, held := ch.held ++ [x] } else ch
  | none => ch

/-- The oldest held transfer that is over reaches completion; DMA_GO records complete in load order (R206). -/
def transferCompletes (p n : Nat) (d : Dev) : Dev :=
  let ch := retireDiscarded (getChan d p n)
  let i := ch.held.findIdx (fun x => !x.complete && xferOver x)
  let held := ch.held.modify i (fun x => { x with complete := true })
  let d := setChan d p n { ch with held := held.dropWhile (·.complete) }
  (held.takeWhile (·.complete)).foldl (tellRecord p) d

/-- A write of 1 to TILE_DMA_PAUSE (R209). -/
def pauseChan (p n : Nat) (d : Dev) : Dev := rbit d ⟨.TILE_DMA_PAUSE, p, n, 0⟩

/-- A write of 0 to TILE_DMA_PAUSE (R209). -/
def resumeChan (p n : Nat) (d : Dev) : Dev :=
  rset (rset d ⟨.TILE_DMA_PAUSE, p, n, 0⟩ 0) ⟨.TILE_DMA_PAUSED, p, n, 0⟩ 0

/-- k reads return, as long as the same transfer is active. -/
def drainReads (e : Env) (p n : Nat) (x : Xfer) : Nat → Dev → Dev
  | 0, d => d
  | k + 1, d =>
    match (getChan d p n).act with
    | some y => if isXfer x.c x.h x.idx x.issueNo y then drainReads e p n x k (readReturns e p n d) else d
    | none => d

/-- The outstanding reads of a paused channel return, at most 16 KiB of them, and it reads as paused (R209, R211).
How many were outstanding is a free value (notes/assumptions/18.md). -/
def drainChan (e : Env) (p n : Nat) (d : Dev) : Dev :=
  if chanPaused d p n ∧ rget d ⟨.TILE_DMA_PAUSED, p, n, 0⟩ = 0 then
    let (k, d) := takeFree d
    let d := match (getChan d p n).act with
      | some x => drainReads e p n x (k % 257) d
      | none => d
    rbit d ⟨.TILE_DMA_PAUSED, p, n, 0⟩
  else d

/-- The place of the logical tile of a device grid number (R249). -/
def placeOf (d : Dev) (g : Nat) : Option (Nat × Nat) :=
  if g = 0xFFFF then none
  else (allTiles.findSome? (fun p => if gridNo d p 0 = g then some (p, 0) else if gridNo d p 1 = g then some (p, 1) else none))

/-- The context that a landing counter of a logical tile is allotted to (R96). -/
def landOwner (d : Dev) (p h n : Nat) : Option Nat :=
  (List.range 8).find? (fun c => (getStrm d p h c).on && (rget d ⟨.TILE_LAND_MASK, p, c, h⟩).testBit n)

/-- The answer to an arriving write (R205, R289). -/
def answerWrite (e : Env) (a : Arrival) (rejected : Bool) (d : Dev) : Dev :=
  match a.packet with
  | some (dst, tag) =>
    injectPkt e none { dst := dst, src := myAddr d, vc := 1, type := 2, birth := birthNow e,
                       body := b2n rejected + tag * 2 ^ 48 } d
  | none => if rejected then ownerFailed e a.owner 0 d else ownerLanded a.owner d

/-- The fabric address that an arriving write came from. -/
def arrivalFrom (d : Dev) (a : Arrival) : Nat := (a.packet.map (·.1)).getD (myAddr d)

/-- The hazard detector tags the lines that an arriving write commits into (R256). -/
def tagLines (p h c : Nat) (a : Arrival) (count : Nat) (d : Dev) : Dev :=
  (linesOf a.off a.data.length).foldl (fun d l =>
    { d with lineTags := { p := p, h := h, c := c, space := a.space, line := l, counter := landNo h a.land, count := count } ::
        d.lineTags.filter (fun t => !(t.p = p && t.h = h && t.c = c && t.space = a.space && t.line = l)) }) d

/-- KIND 3: records in flight whose footprint holds a line of an arriving write, each reported once (R256). -/
def hazKind3 (e : Env) (p h c : Nat) (a : Arrival) (d : Dev) : Dev :=
  let lo := a.off / 64 * 64
  let hi := (a.off + a.data.length - 1) / 64 * 64 + 63
  let meets (w : WinEnt) : Option Nat := (allFeet w).findSome? (fun f => firstShared a.space lo hi f.1 f.2.1 f.2.2)
  let hit (w : WinEnt) : Bool := w.issued && !w.hazHit && (meets w).isSome
  let ws := (getStrm d p h c).win.filter hit
  let d := setStrm d p h c { getStrm d p h c with win := (getStrm d p h c).win.map (fun w => if hit w then { w with hazHit := true } else w) }
  ws.foldl (fun d w => hazReport e p h c ⟨3, w.idx, w.issueNo, 0, a.space, 0, (meets w).getD 0, 0, 0, 0, hazLoose 3⟩ d) d

/-- A write is rejected (R98): owner `o` of the counter, tile `p`. -/
def rejectWrite (e : Env) (p : Nat) (o : Option Nat) (a : Arrival) (d : Dev) : Dev :=
  let r : Err := { cls := 0x0204, level := 3, index := p, syn := a.land + arrivalFrom d a * 65536 }
  match o with
  | some c => failWith e c 3 r d
  | none => logError e r d

/-- A write to a logical tile that no physical tile carries is rejected; the tile that its record names is free
(notes/assumptions/95.md). -/
def rejectNowhere (e : Env) (a : Arrival) (d : Dev) : Dev :=
  let f := takeFree d
  rejectWrite e (f.1 % 1440) none a f.2

/-- An arriving write commits, or is rejected (R96, R98). One whose bytes lie in a fold backing region beyond HBM_CAP is
not performed (R180); it is answered as rejected (notes/assumptions/103.md). -/
def commitWrite (e : Env) (a : Arrival) (d : Dev) : Dev :=
  match placeOf d a.tile with
  | none => answerWrite e a true (rejectNowhere e a d)
  | some (p, h) =>
    match landOwner d p h a.land with
    | none => answerWrite e a true (rejectWrite e p none a (rbit d ⟨.TILE_LAND_REJECT, p, 0, 0⟩))
    | some c =>
      if !a.out && inShare d p h c a.space a.off (a.off + a.data.length - 1) then
        match storeBeyond d p h c a.space a.off a.data.length with
        | some x => answerWrite e a true (readFail e p c none (.beyond x) d)
        | none =>
        let d := storeWrite e p h c a.space a.off a.data d
        let k : RegKey := ⟨.TILE_LAND_COUNT, p, landNo h a.land, 0⟩
        let n := (rget d k + a.data.length) % 2 ^ 24
        let d := rset d k n
        let d := if hazOn d c then hazKind3 e p h c a (tagLines p h c a n d) else d
        answerWrite e a false (waitsMoved p d)
      else answerWrite e a true (rejectWrite e p (some c) a (rbit d ⟨.TILE_LAND_REJECT, p, 0, 0⟩))

/-- The k-th arriving write commits, when none of its source is before it (R96). -/
def arrivalCommits (e : Env) (k : Nat) (d : Dev) : Dev :=
  match d.arrivals[k]? with
  | none => d
  | some a =>
    if (d.arrivals.take k).any (fun b => b.src = a.src) then d
    else commitWrite e a { d with arrivals := d.arrivals.eraseIdx k }

/-- A channel that exists. -/
def chanOk (p n : Nat) : Bool := p < 1440 && n < 4

/-- SHADOW_TO_ACTIVE (R200). -/
def execShadowToActive (p n : Nat) (s : State) : Host.Outcome State Fault Refusal :=
  act s (chanOk p n) (fun _ d => shadowMoves p n d)

/-- DMA_READ_RETURN (R202): a paused channel's reads return in DMA_PAUSE_DRAINED. -/
def execDmaReadReturn (p n : Nat) (s : State) : Host.Outcome State Fault Refusal :=
  act s (chanOk p n) (fun e d => if chanPaused d p n then d else readReturns e p n d)

/-- DMA_WRITE_RESPONSE (R205). -/
def execDmaWriteResponse (p n : Nat) (s : State) : Host.Outcome State Fault Refusal :=
  act s (chanOk p n) (fun _ d => responseArrives p n d)

/-- DMA_TRANSFER_COMPLETE (R205, R206). -/
def execDmaTransferComplete (p n : Nat) (s : State) : Host.Outcome State Fault Refusal :=
  act s (chanOk p n) (fun _ d => transferCompletes p n d)

/-- TILE_DMA_PAUSE (R209, R214). -/
def execTileDmaPause (p n : Nat) (s : State) : Host.Outcome State Fault Refusal :=
  actT s (chanOk p n) (fun _ d => pauseChan p n d)

/-- TILE_DMA_RESUME (R209, R214). -/
def execTileDmaResume (p n : Nat) (s : State) : Host.Outcome State Fault Refusal :=
  actT s (chanOk p n) (fun _ d => resumeChan p n d)

/-- DMA_PAUSE_DRAINED (R209). -/
def execDmaPauseDrained (p n : Nat) (s : State) : Host.Outcome State Fault Refusal :=
  act s (chanOk p n) (fun e d => drainChan e p n d)

/-- ARRIVING_WRITE_COMMIT (R96). -/
def execArrivingWriteCommit (k : Nat) (s : State) : Host.Outcome State Fault Refusal :=
  act s true (fun e d => arrivalCommits e k d)

end Sys2Proof.Machine
end

