-- ==== Sys2Proof/Machine/Epochs.lean ====
section
/-! DEFINITION. Weight-epoch slots: states, pins, publication and freeing (R225 to R232). -/

namespace Sys2Proof.Machine

/-- State codes of a slot (R237): 0 FREE, 1 FILLING, 2 CURRENT, 3 RETAINED. -/
def epState (d : Dev) (c k : Nat) : Nat := rget d ⟨.CLK_EP_STATE, c, k, 0⟩
def epPins (d : Dev) (c k : Nat) : Nat := rget d ⟨.CLK_EP_PINS, c, k, 0⟩

/-- A slot that holds an epoch: CURRENT or RETAINED. -/
def epResident (d : Dev) (c k : Nat) : Bool := epState d c k = 2 || epState d c k = 3

/-- A pin is taken (R226). -/
def epPin (c k : Nat) (d : Dev) : Dev := rset d ⟨.CLK_EP_PINS, c, k, 0⟩ (epPins d c k + 1)

/-- A pin is given back, the slot not yet judged. -/
def epUnpin (c k : Nat) (d : Dev) : Dev := rset d ⟨.CLK_EP_PINS, c, k, 0⟩ (epPins d c k - 1)

/-- A RETAINED slot without pins becomes FREE (R231). -/
def epFree (c k : Nat) (d : Dev) : Dev :=
  if epState d c k = 3 ∧ epPins d c k = 0 then rset d ⟨.CLK_EP_STATE, c, k, 0⟩ 0 else d

/-- A pin is released (R226, R231). -/
def epRelease (c k : Nat) (d : Dev) : Dev := epFree c k (epUnpin c k d)

/-- The slot of the epoch that a stream opened at coordinate x takes: PUB < x ≤ NEXT (R227). -/
def epFor (d : Dev) (c x : Nat) : Option Nat :=
  (List.range 4).find? (fun k => epResident d c k && rget d ⟨.CLK_EP_PUB, c, k, 0⟩ < x && x ≤ rget d ⟨.CLK_EP_NEXT, c, k, 0⟩)

/-- The slot of context g in a state. -/
def epFind (d : Dev) (g st : Nat) : Option Nat := (List.range 4).find? (fun k => epState d g k = st)

/-- The slot that was CURRENT as its successor is published at x (R230). -/
def epRetire (g k x : Nat) (d : Dev) : Dev :=
  let d := rset d ⟨.CLK_EP_NEXT, g, k, 0⟩ x
  rset d ⟨.CLK_EP_STATE, g, k, 0⟩ (if epPins d g k = 0 then 0 else 3)

/-- A publication for context g at coordinate x fires (R230); none where no slot is FILLING. -/
def epPublish (g x : Nat) (d : Dev) : Option Dev :=
  match epFind d g 1 with
  | none => none
  | some k =>
    let d := match epFind d g 2 with
      | some o => epRetire g o x d
      | none => d
    let d := rset d ⟨.CLK_EP_STATE, g, k, 0⟩ 2
    let d := rset d ⟨.CLK_EP_PUB, g, k, 0⟩ x
    some (rset d ⟨.CLK_EP_NEXT, g, k, 0⟩ (2 ^ 64 - 1))

/-- The slot that a fill launch of context c with sequence seq claimed, in any context (R228). -/
def epFilledBy (d : Dev) (c seq : Nat) : Option (Nat × Nat) :=
  ((List.range 8).flatMap (fun g => (List.range 4).map (fun k => (g, k)))).find? (fun x =>
    epState d x.1 x.2 = 1 && rget d ⟨.CLK_EP_FILL_SEQ, x.1, x.2, 0⟩ = seq && rget d ⟨.CLK_EP_FILL_CTX, x.1, x.2, 0⟩ = c)

/-- A fill launch that ends ABORTED or FAILED frees its slot (R231). -/
def epDropFill (c seq : Nat) (d : Dev) : Dev :=
  match epFilledBy d c seq with
  | some (g, k) => rset d ⟨.CLK_EP_STATE, g, k, 0⟩ 0
  | none => d

end Sys2Proof.Machine
end

