-- ==== Sys2Proof/Machine/Monitors.lean ====
section
/-! DEFINITION. Writes to Tabok memory (R261, R450), monitors (R415 to R418), snapshots (R420) and the update-ratio
sample (R129, R419). -/

namespace Sys2Proof.Machine

/-- A range of Tabok addresses that reaches memory (R261). -/
def inTabok (a n : Nat) : Bool := a + n ≤ 2 ^ 36

/-- An access by the device that reaches no memory is recorded (R450). -/
def hostAccess (e : Env) (a : Nat) (write : Bool) (d : Dev) : Dev :=
  logError e { cls := 0x0505, level := 4, kind := 7, syn := a % 2 ^ 64 + b2n write * 2 ^ 64 } d

/-- The device writes bytes to Tabok memory; a write that reaches no memory is lost. -/
def hostWrite (e : Env) (a : Nat) (bs : List Byte) (d : Dev) : Dev :=
  if inTabok a bs.length then { d with lp := memWrite d.lp a bs } else hostAccess e a true d

/-- Heavy-unit tokens held by a context (R253, R372). -/
def tokensOf (d : Dev) (c : Nat) : Nat :=
  (d.strms.map (fun s => if s.1 % 8 = c then (s.2.win.filter (·.token)).length else 0)).sum

/-- Lovage slot k is heating or running (R368). -/
def lovageOn (d : Dev) (k : Nat) : Bool := rget d ⟨.TEST_L_STATE, k, 0, 0⟩ = 1 || rget d ⟨.TEST_L_STATE, k, 0, 0⟩ = 2

/-- Lovage slots with a run under way. -/
def lovageRuns (d : Dev) : List Nat := (List.range 16).filter (lovageOn d)

/-- Tokens held on the device: PWR_GRANTED; a lovage run holds one (R363, R372). -/
def tokensHeld (d : Dev) : Nat := ((List.range 8).map (tokensOf d)).sum + (lovageRuns d).length

/-- Bucket of a sample (R417). -/
def monBucket (vf32 : Bool) (shift expBase v : Nat) : Nat :=
  if v = 0 then 0
  else
    let ex := bitsOf v 30 23
    let k : Int := if vf32 then (if ex = 0 then -127 else (ex : Int) - 127) - toSigned 8 expBase + 1
                   else (Nat.log2 v : Int) - shift + 1
    (min 31 (max 0 k)).toNat

/-- One sample into a monitor (R415, R418). -/
def monTake (e : Env) (m : Nat) (v : Nat) (d : Dev) : Dev :=
  let vf := rget d ⟨.MON_SRC, m, 0, 0⟩ = 4
  let b := monBucket vf (rget d ⟨.MON_SHIFT, m, 0, 0⟩) (rget d ⟨.MON_EXP_BASE, m, 0, 0⟩) v
  let d := rset d ⟨.MON_MIN, m, 0, 0⟩ (min (rget d ⟨.MON_MIN, m, 0, 0⟩) v)
  let d := rset d ⟨.MON_MAX, m, 0, 0⟩ (max (rget d ⟨.MON_MAX, m, 0, 0⟩) v)
  let d := rset d ⟨.MON_LAST, m, 0, 0⟩ v
  satAdd e ⟨.MON_BUCKET, m, b, 0⟩ 1 (satAdd e ⟨.MON_COUNT, m, 0, 0⟩ 1 d)

/-- A monitor is cleared (R418). -/
def monClear (m : Nat) (d : Dev) : Dev :=
  let d := rset d ⟨.MON_MIN, m, 0, 0⟩ 0xFFFFFFFF
  let d := rset (rset (rset (rset d ⟨.MON_MAX, m, 0, 0⟩ 0) ⟨.MON_LAST, m, 0, 0⟩ 0) ⟨.MON_COUNT, m, 0, 0⟩ 0) ⟨.MON_SAT, m, 0, 0⟩ 0
  let d := (List.range 32).foldl (fun d b => rset d ⟨.MON_BUCKET, m, b, 0⟩ 0) d
  { d with monDiv := tblErase d.monDiv m }

/-- The context filter of a monitor (R416). -/
def monCtxOk (d : Dev) (m : Nat) (ctx : Option Nat) : Bool :=
  rget d ⟨.MON_CTX_ANY, m, 0, 0⟩ = 1 || ctx = some (rget d ⟨.MON_CTX, m, 0, 0⟩)

/-- Whether an event passes a monitor's filters (R416). -/
def monPasses (d : Dev) (m : Nat) (x : Sample) : Bool :=
  let fa := rget d ⟨.MON_FA, m, 0, 0⟩
  let fb := rget d ⟨.MON_FB, m, 0, 0⟩
  rget d ⟨.MON_EN, m, 0, 0⟩ = 1 && rget d ⟨.MON_SRC, m, 0, 0⟩ = x.src &&
  match x.src with
  | 2 => (fa = 0x7FF || fa = x.fa) && monCtxOk d m x.ctx
  | 3 => fa = 0x7FF || fa = x.fa
  | 4 => fa ≤ x.fa && x.fa ≤ fb && monCtxOk d m x.ctx
  | 5 => fa = x.fa
  | 7 => monCtxOk d m x.ctx
  | _ => false

/-- An event reaches a monitor: every 2^MON_DIV-th that passes is sampled (R416). -/
def monEvent (e : Env) (x : Sample) (d : Dev) (m : Nat) : Dev :=
  if monPasses d m x then
    let n := tblGet d.monDiv m 0 + 1
    let d := { d with monDiv := tblSet (fun k => k) d.monDiv m n 0 }
    if n % 2 ^ rget d ⟨.MON_DIV, m, 0, 0⟩ = 0 then monTake e m x.value d else d
  else d

/-- The oldest sample is taken in by every monitor (R418). -/
def monSample (e : Env) (d : Dev) : Dev :=
  match d.samples with
  | [] => d
  | x :: xs => (List.range 64).foldl (monEvent e x) { d with samples := xs }

/-- The periodic sample of a monitor, if its source is periodic and its filter names a unit (R416). -/
def monPeriodic (e : Env) (d : Dev) (m : Nat) : Dev :=
  let fa := rget d ⟨.MON_FA, m, 0, 0⟩
  let fb := rget d ⟨.MON_FB, m, 0, 0⟩
  if rget d ⟨.MON_EN, m, 0, 0⟩ = 0 then d
  else match rget d ⟨.MON_SRC, m, 0, 0⟩ with
    | 1 =>
      if fa < 1440 ∧ fb < 32 then
        monTake e m ((rget d ⟨.TILE_LAND_COUNT, fa, fb, 0⟩ + 2 ^ 24 - rget d ⟨.TILE_LAND_BASE, fa, fb, 0⟩) % 2 ^ 24) d
      else d
    | 6 => monTake e m (tokensHeld d) d
    | _ => d

/-- Word 0 and word 1 of a monitor's block (R424). -/
def monConfigWord (d : Dev) (m : Nat) : Nat :=
  packFields [(4, rget d ⟨.MON_SRC, m, 0, 0⟩), (1, rget d ⟨.MON_EN, m, 0, 0⟩), (5, rget d ⟨.MON_SHIFT, m, 0, 0⟩),
    (8, rget d ⟨.MON_EXP_BASE, m, 0, 0⟩), (3, rget d ⟨.MON_CTX, m, 0, 0⟩), (1, rget d ⟨.MON_CTX_ANY, m, 0, 0⟩),
    (4, rget d ⟨.MON_DIV, m, 0, 0⟩)]
def monFilterWord (d : Dev) (m : Nat) : Nat :=
  packFields [(11, rget d ⟨.MON_FA, m, 0, 0⟩), (5, 0), (10, rget d ⟨.MON_FB, m, 0, 0⟩)]

/-- A monitor's block in a snapshot frame (R420, R424). -/
def monBlock (d : Dev) (m : Nat) : List Byte :=
  leBytes (packFields ([(32, monConfigWord d m), (32, monFilterWord d m), (32, rget d ⟨.MON_MIN, m, 0, 0⟩),
    (32, rget d ⟨.MON_MAX, m, 0, 0⟩), (32, satCount (rget d ⟨.MON_COUNT, m, 0, 0⟩)), (32, rget d ⟨.MON_SAT, m, 0, 0⟩),
    (32, rget d ⟨.MON_LAST, m, 0, 0⟩), (32, m), (768, 0)] ++
    (List.range 32).map (fun b => (32, satCount (rget d ⟨.MON_BUCKET, m, b, 0⟩))))) 256

/-- Monitors that are enabled. -/
def monsOn (d : Dev) : List Nat := (List.range 64).filter (fun m => rget d ⟨.MON_EN, m, 0, 0⟩ = 1)

/-- The frame of a snapshot (R420). -/
def snapFrame (e : Env) (action num : Nat) (d : Dev) : List Byte :=
  leBytes (packFields [(64, e.clk.ft), (64, d.rc), (16, action), (16, 0), (32, num), (7, (monsOn d).length), (25, 0),
    (32, 0), (256, 0)]) 64 ++ (monsOn d).flatMap (monBlock d)

/-- A snapshot fires (R420): latched, or missed while the one before is not written. -/
def takeSnapshot (e : Env) (action : Nat) (d : Dev) : Dev :=
  if rget d ⟨.MON_SNAP_FRAMES, 0, 0, 0⟩ = 0 then d
  else if d.snap.isSome then satAdd e ⟨.MON_SNAP_MISSED, 0, 0, 0⟩ 1 d
  else
    let n := rget d ⟨.MON_SNAP_COUNT, 0, 0, 0⟩
    let d := { d with snap := some ⟨n, snapFrame e action n d⟩ }
    if rget d ⟨.MON_SNAP_CLEAR, 0, 0, 0⟩ = 1 then (monsOn d).foldl (fun d m => monClear m d) d else d

/-- The latched frame is written to Tabok memory (R420, R450): the blocks, then the header. -/
def writeSnapshot (e : Env) (d : Dev) : Dev :=
  match d.snap with
  | none => d
  | some f =>
    let d := { d with snap := none }
    let frames := rget d ⟨.MON_SNAP_FRAMES, 0, 0, 0⟩
    let a := rbase d ⟨.MON_SNAP_ADDR, 0, 0, 0⟩ + 0x8000 * (if frames = 0 then 0 else f.num % frames)
    if inTabok a f.data.length then
      let d := hostWrite e a (f.data.take 64) (hostWrite e (a + 64) (f.data.drop 64) d)
      rset d ⟨.MON_SNAP_COUNT, 0, 0, 0⟩ (f.num + 1)
    else satAdd e ⟨.MON_SNAP_MISSED, 0, 0, 0⟩ 1 (hostAccess e a true d)

/-- Logical tiles of a context, by physical tile and half, in ascending number within the context (R156, R249). -/
def logicalTiles (d : Dev) (c : Nat) : List (Nat × Nat) :=
  let l := (tilesOf d c).flatMap (fun p =>
    (if (getStrm d p 0 c).on then [(p, 0)] else []) ++ (if (getStrm d p 1 c).on then [(p, 1)] else []))
  sortBy (fun x y => decide (ctxTile d x.1 x.2 c ≤ ctxTile d y.1 y.2 c)) l

/-- Sum of Vf32 codes in order by rne32 (R129). -/
def sumCodes (xs : List Nat) : Nat := xs.foldl (fun a x => (addOp (fpValue vf32 a) (fpValue vf32 x)).code) 0

/-- The ratio of two Vf32 totals, none where no sample is delivered (R129). -/
def updateRatio (sdw sw : Nat) : Option Nat :=
  match fpValue vf32 sdw, fpValue vf32 sw with
  | some x, some y => if y = 0 then none else some (sqrtRound (x / y)).1
  | _, _ => none

/-- A context's position leaves a value of phase 6 (R129, R419): the sums that each tile took as it left it. -/
def ratioLeaves (c old : Nat) (d : Dev) : Dev :=
  if bitsOf old 23 20 ≠ 6 then d
  else
    let ts := logicalTiles d c
    let bank (t : Nat × Nat) : Nat × Nat := (getStrm d t.1 t.2 c).banks.headD (0, 0)
    let sdw := sumCodes (ts.map (fun t => (bank t).1))
    let sw := sumCodes (ts.map (fun t => (bank t).2))
    let d := ts.foldl (fun d t => let s := getStrm d t.1 t.2 c; setStrm d t.1 t.2 c { s with banks := s.banks.drop 1 }) d
    match updateRatio sdw sw with
    | none => d
    | some v => pushSample { src := 4, fa := old % 1024, ctx := some c, value := v } (rset d ⟨.MON_UR_LAST, c, old % 1024, 0⟩ v)

/-- SNAPSHOT_FRAME_WRITE (R420). -/
def execSnapshotFrameWrite (s : State) : Host.Outcome State Fault Refusal := act s true (fun e d => writeSnapshot e d)

/-- MONITOR_SAMPLE (R418). -/
def execMonitorSample (s : State) : Host.Outcome State Fault Refusal := act s true (fun e d => monSample e d)

/-- MONITOR_PERIODIC_SAMPLE (R416). -/
def execMonitorPeriodicSample (s : State) : Host.Outcome State Fault Refusal :=
  act s true (fun e d => if tabokRuns d then (List.range 64).foldl (monPeriodic e) d else d)

/-- MON_CLEAR (R418). -/
def execMonClear (m : Nat) (s : State) : Host.Outcome State Fault Refusal :=
  actT s (m < 64) (fun _ d => monClear m d)

/-- MON_SNAP_GO (R420). -/
def execMonSnapGo (s : State) : Host.Outcome State Fault Refusal := actT s true (fun e d => takeSnapshot e 0 d)

end Sys2Proof.Machine
end

