-- ==== Sys2Proof/Machine/Contexts.lean ====
section
/-! DEFINITION. Launches, deadlines, aborts and failures of contexts (R218 to R221, R226 to R228, R234 to R236, R239,
R273, R448, R449). -/

namespace Sys2Proof.Machine

/-- A context is loaded: enabled on some tile (R239). -/
def ctxLoaded (d : Dev) (c : Nat) : Bool := d.strms.any (fun s => s.1 % 8 = c && s.2.on)

/-- A context is halted on some tile (R105, R219). -/
def ctxHalted (d : Dev) (c : Nat) : Bool := (tilesOf d c).any (fun p => (getTile d p).halt.testBit c)

/-- A launch of the context has started and has no outcome written. -/
def ctxRunning (x : Ctx) : Bool := x.cur.any (·.started)

/-- CLK_CTX_STATE (R238, R239). -/
def ctxState (d : Dev) (c : Nat) : Nat :=
  let x := getCtx d c
  if !ctxLoaded d c then 0
  else if ctxRunning x && x.ending ≠ .running then 4
  else if ctxHalted d c then 3
  else if ctxRunning x then 2 else 1

/-- The pacing context, if one is loaded (R34). -/
def pacingCtx (d : Dev) : Option Nat := (List.range 8).find? (fun c => ctxLoaded d c && (getCtx d c).pacing)

/-- a is serially later than b (R271). -/
def seqLater (a b : Nat) : Bool := let k := (a + 2 ^ 32 - b % 2 ^ 32) % 2 ^ 32; k ≠ 0 && k < 2 ^ 31

/-- An outcome decided now whose record may be written at once. -/
def doneNow (e : Env) (d : Dev) (seq outcome cause aux : Nat) (isAbort : Bool) : Done :=
  { seq := seq, outcome := outcome, isAbort := isAbort, cause := cause, aux := aux, ft := e.clk.ft, rc := d.rc }

/-- A record joins those that wait to be written. -/
def addDone (c : Nat) (r : Done) (d : Dev) : Dev := updCtx d c (fun x => { x with waiting := x.waiting ++ [r] })

/-- A descriptor's fields (R269). -/
def descSeq (n : Nat) : Nat := bitsOf n 31 0
def descOp (n : Nat) : Nat := bitsOf n 39 32
def descEntry (n : Nat) : Nat := bitsOf n 95 64

/-- A launch's fields (R269). -/
def launchOf (n : Nat) : Launch :=
  { seq := descSeq n, entry := descEntry n, deadline := bitsOf n 191 128, useEn := bitOf n 96, useSlot := bitsOf n 98 97,
    fillEn := bitOf n 99, fillSlot := bitsOf n 101 100, fillCtx := bitsOf n 104 102 }

/-- A descriptor is malformed (R269): opcode, reserved bits, entry table, context of the fill. An ABORT's bits [8:0] of word
0x0C, which the table does not mark reserved for it, are not looked at (notes/assumptions/20.md). -/
def descBad (d : Dev) (c n : Nat) : Bool :=
  let op := descOp n
  let restBad := bitsOf n 63 40 ≠ 0 || bitsOf n 511 192 ≠ 0
  if op = 1 then
    restBad || bitsOf n 127 105 ≠ 0 || descEntry n = 0xFFFFFFFF ||
    !(List.range 64).any (fun k => rget d ⟨.RING_ENTRY, c, k, 0⟩ = descEntry n) ||
    (bitOf n 99 && !ctxLoaded d (bitsOf n 104 102))
  else if op = 2 then restBad || bitsOf n 127 105 ≠ 0 || bitsOf n 191 128 ≠ 0
  else true

/-- The descriptor at the head of the ring, if its data has come (R272). -/
def headDesc (d : Dev) (c : Nat) : Option Nat :=
  let i := rget d ⟨.RING_CMD_CONS, c, 0, 0⟩
  ((getCtx d c).taken.find? (fun t => t.1 = i)).map (·.2)

/-- The head descriptor is taken: indices advance (R271, R272). -/
def takeDesc (c : Nat) (d : Dev) : Dev :=
  let i := rget d ⟨.RING_CMD_CONS, c, 0, 0⟩
  let d := updCtx d c (fun x => { x with taken := x.taken.filter (fun t => t.1 ≠ i) })
  let d := rset d ⟨.RING_CMD_CONS, c, 0, 0⟩ (i + 1)
  rset d ⟨.RING_CMD_EXPECT, c, 0, 0⟩ (rget d ⟨.RING_CMD_EXPECT, c, 0, 0⟩ + 1)

/-- A launch has ended without being in force: CLK_CTX_SEQ names it while none is (R238). -/
def endedSeq (c seq : Nat) (d : Dev) : Dev :=
  if (getCtx d c).cur.isNone then rset d ⟨.CLK_CTX_SEQ, c, 0, 0⟩ seq else d

/-- A malformed descriptor ends FAILED, and the ring goes on (R269). -/
def badDesc (e : Env) (c idx n : Nat) (d : Dev) : Dev :=
  let aux := d.logNext
  let d := logError e { cls := 0x0201, level := 4, kind := 5, index := 2, ctx := some c, syn := idx + descSeq n * 2 ^ 32 } d
  let d := if descOp n = 1 then endedSeq c (descSeq n) d else d
  addDone c (doneNow e d (descSeq n) 2 10 aux (descOp n = 2)) d

/-- LAUNCH: a descriptor other than an ABORT is taken; a well-formed launch joins the queue of 64 (R218, R273). -/
def takeLaunch (e : Env) (c : Nat) (d : Dev) : Dev :=
  match headDesc d c with
  | none => d
  | some n =>
    let x := getCtx d c
    if descOp n = 2 ∨ (descOp n = 1 ∧ x.queue.length ≥ 64) then d
    else
      let bad := descBad d c n
      let idx := rget d ⟨.RING_CMD_CONS, c, 0, 0⟩
      let d := takeDesc c d
      if bad then badDesc e c idx n d else updCtx d c (fun x => { x with queue := x.queue ++ [launchOf n] })

/-- A queued launch leaves the ring ABORTED (R235 item 1). -/
def abortQueued (e : Env) (c aseq : Nat) (l : Launch) (d : Dev) : Dev :=
  let head := (getCtx d c).queue.head? = some l
  let d := updCtx d c (fun x => { x with queue := x.queue.erase l })
  let d := if head then rset d ⟨.CLK_CTX_FILL_WAIT, c, 0, 0⟩ 0 else d
  let d := endedSeq c l.seq (satAdd e ⟨.CLK_CTX_ABORTS, c, 0, 0⟩ 1 d)
  addDone c (doneNow e d aseq 0 0 l.seq true) (addDone c { doneNow e d l.seq 1 0 0 false with late := l.late } d)

/-- The launch in force is aborted (R235 items 2 to 4): decided now, written once nothing of it is in flight. -/
def abortRunning (e : Env) (c aseq : Nat) (l : Launch) (d : Dev) : Dev :=
  let x := getCtx d c
  let y := { decideEarly e c 1 0 0 d x l with ending := .aborting }
  let z := { y with waiting := y.waiting ++ [{ doneNow e d aseq 0 0 l.seq true with ready := false }] }
  satAdd e ⟨.CLK_CTX_ABORTS, c, 0, 0⟩ 1 (stopLaunch c (setCtx d c z))

/-- An abort request acts (R235, R236, R273). -/
def actAbort (e : Env) (c aseq target : Nat) (d : Dev) : Dev :=
  let x := getCtx d c
  if target = aseq ∨ seqLater target aseq then addDone c (doneNow e d aseq 2 11 target true) d
  else match x.queue.find? (fun l => l.seq = target) with
    | some l => abortQueued e c aseq l d
    | none =>
      match x.cur with
      | some l =>
        if l.seq = target ∧ !x.decided ∧ l.started then abortRunning e c aseq l d
        else addDone c (doneNow e d aseq 3 0 target true) d
      | none => addDone c (doneNow e d aseq 3 0 target true) d

/-- ABORT: an ABORT descriptor is taken (R235, R269). -/
def takeAbort (e : Env) (c : Nat) (d : Dev) : Dev :=
  match headDesc d c with
  | none => d
  | some n =>
    if descOp n ≠ 2 then d
    else
      let bad := descBad d c n
      let idx := rget d ⟨.RING_CMD_CONS, c, 0, 0⟩
      let d := takeDesc c d
      if bad then badDesc e c idx n d else actAbort e c (descSeq n) (descEntry n) d

/-- The launch at the head becomes the one in force; CLK_CTX_SEQ names it (R238). -/
def setCur (c : Nat) (l : Launch) (d : Dev) : Dev :=
  let d := updCtx d c (fun x => { x with queue := x.queue.drop 1, cur := some l, ending := .running, decided := false })
  rset (rset d ⟨.CLK_CTX_FILL_WAIT, c, 0, 0⟩ 0) ⟨.CLK_CTX_SEQ, c, 0, 0⟩ l.seq

/-- The launch at the head ends FAILED without starting (R219, R448). -/
def failHead (e : Env) (c cause aux : Nat) (l : Launch) (d : Dev) : Dev :=
  let d := setCur c l d
  let r := { doneNow e d l.seq 2 cause aux false with late := l.late, ofLaunch := true }
  updCtx d c (fun x => { x with decided := true, waiting := x.waiting ++ [r] })

/-- EP_FILL can be met now (R219). -/
def fillAllowed (d : Dev) (l : Launch) : Bool :=
  epState d l.fillCtx l.fillSlot = 0 && (List.range 4).all (fun k => epState d l.fillCtx k ≠ 1)

/-- The launch waits at the head for its fill slot (R219, R228). -/
def waitFill (e : Env) (c : Nat) (l : Launch) (d : Dev) : Dev :=
  let d := rbit d ⟨.CLK_CTX_FILL_WAIT, c, 0, 0⟩
  if l.waitFrom.isSome then d
  else
    let d := satAdd e ⟨.CLK_CTX_EP_STALLS, l.fillCtx, 0, 0⟩ 1 d
    updCtx d c (fun x => { x with queue := { l with waitFrom := some e.clk.ns } :: x.queue.drop 1 })

/-- The fill slot becomes FILLING (R228), and the wait for it is a sample (R416). -/
def claimFill (e : Env) (c : Nat) (l : Launch) (d : Dev) : Dev :=
  let g := l.fillCtx
  let n := match epFind d g 2 with
    | some k => rget d ⟨.CLK_EP_NUM, g, k, 0⟩ + 1
    | none => (getCtx d g).epochInit
  let d := rset d ⟨.CLK_EP_STATE, g, l.fillSlot, 0⟩ 1
  let d := rset d ⟨.CLK_EP_NUM, g, l.fillSlot, 0⟩ n
  let d := rset (rset d ⟨.CLK_EP_FILL_SEQ, g, l.fillSlot, 0⟩ l.seq) ⟨.CLK_EP_FILL_CTX, g, l.fillSlot, 0⟩ c
  match l.waitFrom with
  | some t => pushSample { src := 7, ctx := some g, value := (e.clk.ns - t) / 1000 } d
  | none => d

/-- A logical tile begins a launch (R64, R218): issue starts at the entry index. -/
def startStrm (c entry : Nat) (d : Dev) (t : Nat × Nat) : Dev :=
  let s := getStrm d t.1 t.2 c
  let d := setStrm d t.1 t.2 c { s with next := entry, decoding := true, decLoops := [], loops := [], win := [], ended := false,
                                         endDone := false, advs := [], banks := [] }
  rset d ⟨.TILE_CTX_OVF, t.1, c, t.2⟩ 0

/-- Every logical tile of a context, by physical tile and half. -/
def halvesOf (d : Dev) (c : Nat) : List (Nat × Nat) :=
  (tilesOf d c).flatMap (fun p =>
    (if (getStrm d p 0 c).on then [(p, 0)] else []) ++ (if (getStrm d p 1 c).on then [(p, 1)] else []))

/-- The launch at the head starts (R218, R219, R226, R228). -/
def beginLaunch (e : Env) (c : Nat) (l : Launch) (d : Dev) : Dev :=
  let d := setCur c { l with started := true } d
  let d := if l.useEn then epPin c l.useSlot d else d
  let d := if l.fillEn then claimFill e c l d else d
  let d := updCtx d c (fun x => { x with judged := 0 })
  (halvesOf d c).foldl (startStrm c l.entry) d

/-- No launch starts: the hoist holds launches (R313, R314), or a fatal event is outstanding (R346). -/
def launchesHeld (d : Dev) : Bool :=
  let h := rget d ⟨.LNK_HOIST_STATE, 0, 0, 0⟩
  h = 1 || h = 2 || h = 4 || rget d ⟨.TEST_FATAL, 0, 0, 0⟩ = 1

/-- The launch at the head is judged (R219): one that a pending failure ends does not start, so that nothing holds its end
back (R448). -/
def judgeHead (e : Env) (c : Nat) (d : Dev) : Dev :=
  let x := getCtx d c
  match x.cur, x.queue with
  | none, l :: _ =>
    if !ctxLoaded d c then d
    else if rget d ⟨.CLK_CTX_FAIL_PEND, c, 0, 0⟩ = 1 then
      let cause := rget d ⟨.CLK_CTX_PEND_CAUSE, c, 0, 0⟩
      let aux := rget d ⟨.CLK_CTX_PEND_LOG, c, 0, 0⟩
      let d := rset (rset d ⟨.CLK_CTX_FAIL_PEND, c, 0, 0⟩ 0) ⟨.CLK_CTX_PEND_CAUSE, c, 0, 0⟩ 0
      failHead e c cause aux l (rset d ⟨.LNK_COL_FAIL_PEND, c, 0, 0⟩ 0)
    else if launchesHeld d || ctxHalted d c then d
    else if l.useEn ∧ epResident d c l.useSlot = false then
      let aux := d.logNext
      let d := logError e { cls := 0x0304, level := 4, kind := 8, ctx := some c, syn := l.useSlot + epState d c l.useSlot * 4 } d
      failHead e c 5 aux l d
    else if l.fillEn ∧ fillAllowed d l = false then waitFill e c l d
    else beginLaunch e c l d
  | _, _ => d

/-- Every group of advances issued in the launch in force has been judged (R34). -/
def allJudged (d : Dev) (c : Nat) : Bool :=
  (halvesOf d c).all (fun t => (getStrm d t.1 t.2 c).advs.length ≤ (getCtx d c).judged)

/-- A pennant left over at the end of a launch is a hazard, KIND 5 (R256). -/
def hazKind5 (e : Env) (c : Nat) (d : Dev) (t : Nat × Nat) : Dev :=
  if !hazOn d c then d
  else (onesOf (rget d ⟨.TILE_PEN_MASK, t.1, c, t.2⟩) 64).foldl (fun d n =>
    if rget d ⟨.TILE_PEN_COUNT, t.1, penNo t.2 n, 0⟩ = 0 then d
    else hazReport e t.1 t.2 c ⟨5, 0, 0, n, 0, 0, 0, 0, 0, 0, hazLoose 5⟩ d) d

/-- The launch in force is decided COMPLETED (R34, R218), not while its context is halted (R219), and pennants left over
are reported (R256). Its record waits until nothing of it is in flight (R234). -/
def completeLaunch (e : Env) (c : Nat) (d : Dev) : Dev :=
  let x := getCtx d c
  match x.cur with
  | some l =>
    if l.started ∧ x.ending = .running ∧ !x.decided ∧ !ctxHalted d c ∧ allJudged d c ∧
        (halvesOf d c).all (fun t => (getStrm d t.1 t.2 c).endDone) then
      let r := { doneNow e d l.seq 0 0 0 false with late := l.late, ovf := ctxOverflow d c, ofLaunch := true, ready := false }
      (halvesOf d c).foldl (hazKind5 e c) (setCtx d c { x with decided := true, waiting := x.waiting ++ [r] })
    else d
  | none => d

/-- Nothing of the launch of context c is in flight on the device (R235 item 5). -/
def ctxQuiet (d : Dev) (c : Nat) : Bool :=
  let ofC (o : WrOwner) : Bool := match o with
    | .channel _ _ k _ _ _ => k = c
    | _ => false
  (halvesOf d c).all (fun t => (getStrm d t.1 t.2 c).win.isEmpty) &&
  d.chans.all (fun e => (e.2.act.toList ++ e.2.shd.toList ++ e.2.held).all (fun x => x.c ≠ c)) &&
  d.hbmWr.all (fun w => !(w.src < 5760 && w.ctx = some c)) &&
  d.arrivals.all (fun a => !ofC a.owner) && d.answers.all (fun o => !ofC o) &&
  (getLink d 36).rx.all (fun q => q.pkt.type ≠ 1 ||
    (d.tags.filter (fun t => t.1 = bitsOf q.pkt.body 63 48)).all (fun t => !ofC t.2))

/-- Pennant counts and landing counters of a context on a logical tile go to 0 (R235 item 5). -/
def zeroCounters (c : Nat) (d : Dev) (t : Nat × Nat) : Dev :=
  let pens := onesOf (rget d ⟨.TILE_PEN_MASK, t.1, c, t.2⟩) 64
  let lands := onesOf (rget d ⟨.TILE_LAND_MASK, t.1, c, t.2⟩) 32
  let d := pens.foldl (fun d n => rset d ⟨.TILE_PEN_COUNT, t.1, penNo t.2 n, 0⟩ 0) d
  lands.foldl (fun d n => rset (rset d ⟨.TILE_LAND_COUNT, t.1, landNo t.2 n, 0⟩ 0) ⟨.TILE_LAND_BASE, t.1, landNo t.2 n, 0⟩ 0) d

/-- The channels of a tile take transfers of a context again: the launch that R203 stopped on them has ended. -/
def freeChans (c : Nat) (d : Dev) (p : Nat) : Dev :=
  (List.range 4).foldl (fun d n => let ch := getChan d p n; setChan d p n { ch with stopped := clearBits 8 ch.stopped (2 ^ c) }) d

/-- A context is resumed on every tile, its trap armed (R73, R105, R239). -/
def resumeCtx (c : Nat) (d : Dev) : Dev :=
  let d := (tilesOf d c).foldl (fun d p => setTile d p { getTile d p with halt := clearBits 8 (getTile d p).halt (2 ^ c) }) d
  updCtx d c (fun x => { x with trapArmed := true })

/-- The launch that ends early is quiet: counters go to 0 and its records may be written (R235 item 5, R449). -/
def quiesce (c : Nat) (how : Ending) (d : Dev) : Dev :=
  let x := getCtx d c
  if x.ending = how ∧ x.decided ∧ ctxQuiet d c ∧ x.waiting.any (fun r => !r.ready) then
    let d := (tilesOf d c).foldl (freeChans c) ((halvesOf d c).foldl (zeroCounters c) d)
    let d := updCtx d c (fun x => { x with waiting := x.waiting.map (fun r => { r with ready := true }) })
    if how = .aborting then resumeCtx c d else d
  else d

/-- A launch's deadline passes before its outcome (R221). -/
def deadlineBody (e : Env) (d : Dev) (l : Launch) : Nat :=
  packFields [(32, l.seq), (32, 0), (64, l.deadline), (64, d.rc), (64, e.clk.ft)]

/-- The deadline of the launch of SEQ seq passes (R221). -/
def deadlinePasses (e : Env) (c seq : Nat) (d : Dev) : Dev :=
  let x := getCtx d c
  let due (l : Launch) : Bool := l.seq = seq && !l.late && l.deadline ≠ 2 ^ 64 - 1 && l.deadline ≤ e.clk.ft
  let late (l : Launch) : Launch := if due l then { l with late := true } else l
  match (x.queue ++ (if x.decided then [] else x.cur.toList)).find? due with
  | none => d
  | some l =>
    let y := { x with queue := x.queue.map late, cur := if x.decided then x.cur else x.cur.map late }
    satAdd e ⟨.CLK_CTX_LATE, c, 0, 0⟩ 1 (pushEvent e c 2 (deadlineBody e d l) (setCtx d c y))

/-- LAUNCH (R218). -/
def execLaunch (c : Nat) (s : State) : Host.Outcome State Fault Refusal := act s (c < 8) (fun e d => takeLaunch e c d)

/-- ABORT (R235). -/
def execAbort (c : Nat) (s : State) : Host.Outcome State Fault Refusal := act s (c < 8) (fun e d => takeAbort e c d)

/-- LAUNCH_START (R219). -/
def execLaunchStart (c : Nat) (s : State) : Host.Outcome State Fault Refusal := act s (c < 8) (fun e d => judgeHead e c d)

/-- LAUNCH_COMPLETE (R218). -/
def execLaunchComplete (c : Nat) (s : State) : Host.Outcome State Fault Refusal :=
  act s (c < 8) (fun e d => completeLaunch e c d)

/-- ABORT_QUIESCED (R235). -/
def execAbortQuiesced (c : Nat) (s : State) : Host.Outcome State Fault Refusal :=
  act s (c < 8) (fun _ d => quiesce c .aborting d)

/-- FAIL_QUIESCED (R449). -/
def execFailQuiesced (c : Nat) (s : State) : Host.Outcome State Fault Refusal :=
  act s (c < 8) (fun _ d => quiesce c .failing d)

/-- DEADLINE_PASS (R221). -/
def execDeadlinePass (c seq : Nat) (s : State) : Host.Outcome State Fault Refusal :=
  act s (c < 8) (fun e d => deadlinePasses e c seq d)

end Sys2Proof.Machine
end

