-- ==== Sys2Proof/Machine/Power.lean ====
section
/-! DEFINITION. Power arbitration: tokens, the clock step, throttle, load shed, temperatures, rails and shutdowns (R371 to
R379, R386, R432, R439). -/

namespace Sys2Proof.Machine

/-- A field of the PWR block. -/
def wget (d : Dev) (r : Reg) : Nat := rget d ⟨r, 0, 0, 0⟩
def wset (r : Reg) (v : Nat) (d : Dev) : Dev := rset d ⟨r, 0, 0, 0⟩ v

/-- TILE_STATE: a spare or rotated-out tile on which a context is enabled reads as mapped. -/
def tileState (d : Dev) (p : Nat) : Nat :=
  let st := rget d ⟨.TILE_STATE, p, 0, 0⟩
  if (st = 1 ∨ st = 3) ∧ (List.range 8).any (enabledOn d p) then 2 else st

/-- T of R371. -/
def mappedTiles (d : Dev) : Nat := (allTiles.filter (fun p => tileState d p = 2 || tileState d p = 3)).length

/-- B of R374. -/
def budget (d : Dev) : Nat :=
  if wget d .PWR_THROTTLED = 1 ∨ wget d .PWR_SHED = 1 then min (wget d .PWR_BUDGET_W) 2000 else wget d .PWR_BUDGET_W

/-- floor((B − RES) / COST); COST is in sixteenths of a watt (R371). -/
def powerTerm (d : Dev) : Nat := (budget d - wget d .PWR_RESERVE_W) * 16 / wget d .PWR_TOKEN_COST

/-- C of R371. -/
def capacity (d : Dev) : Nat := min (powerTerm d) (mappedTiles d)

/-- k_tok for g tokens (R374). -/
def tokenStep (d : Dev) (g : Nat) : Nat :=
  let res := wget d .PWR_RESERVE_W
  ((List.range 15).find? (fun k => res ≤ budget d ∧ g * wget d .PWR_TOKEN_COST * (16 - k) ≤ (budget d - res) * 256)).getD 14

/-- k in force (R374). -/
def stepInForce (d : Dev) : Nat :=
  let forced := if wget d .PWR_SHED = 1 ∨ 0x0803 ∈ d.fatals then 14 else 0
  max (max d.kTok d.kOver) (max d.kTherm forced)

/-- A slot's tile (R368). -/
def lovageTile (d : Dev) (k : Nat) : Nat := rget d ⟨.TEST_L_TILE, k, 0, 0⟩

/-- A lovage run is aborted (R365). -/
def lovageAbort (e : Env) (reason : Nat) (d : Dev) (k : Nat) : Dev :=
  if lovageOn d k then
    let d := rset (rset d ⟨.TEST_L_STATE, k, 0, 0⟩ 5) ⟨.TEST_L_REASON, k, 0, 0⟩ reason
    logError e { cls := 0x0702, level := 3, index := lovageTile d k, syn := reason } d
  else d

/-- Every lovage run's token is withdrawn (R365, R374, R377). -/
def withdrawLovage (e : Env) (d : Dev) : Dev := (lovageRuns d).foldl (lovageAbort e 4) d

/-- The budget in force has fallen: below the power of the tokens held, lovage runs give theirs up (R374). -/
def budgetFell (e : Env) (d : Dev) : Dev :=
  if (budget d - wget d .PWR_RESERVE_W) * 16 < tokensHeld d * wget d .PWR_TOKEN_COST then withdrawLovage e d else d

/-- A THROTTLE record (R380). Its unit is the PWR block. -/
def throttleRecord (e : Env) (cause : Nat) (entry : Bool) (d : Dev) : Dev :=
  let syn := packFields [(2, cause), (1, b2n entry), (1, 0), (4, stepInForce d), (13, budget d), (3, 0), (13, wget d .PWR_INPUT_W)]
  logError e { cls := 0x0801, level := 4, kind := 5, index := 4, syn := syn } d

/-- A LOAD_SHED record (R380). -/
def shedRecord (e : Env) (mv : Nat) (entry : Bool) (d : Dev) : Dev :=
  logError e { cls := 0x0802, level := 4, kind := 5, index := 4, syn := mv % 65536 + b2n entry * 65536 } d

/-- k_over rises (R375). -/
def overRises (k : Nat) (d : Dev) : Dev := if d.kOver < k then wset .PWR_OVER_SEEN 1 { d with kOver := k } else d

/-- What the controller reads of the rails (R379, R385). -/
def readRails (rails : List Nat) (d : Dev) : Dev :=
  (rails.zipIdx).foldl (fun d x => rset d ⟨.PWR_RAIL_MV, x.2, 0, 0⟩ x.1) d

/-- A sample of the input power (R375), with the voltages that the controller reads at VIN and at the rails (R385). -/
def powerSample (e : Env) (watts mv : Nat) (rails : List Nat) (d : Dev) : Dev :=
  let d := readRails rails (wset .PWR_INPUT_MV mv (wset .PWR_INPUT_W watts d))
  if watts > 4200 then throttleRecord e 3 true (wset .PWR_PEAK_SEEN 1 (overRises 14 d)) else d

/-- 200 µs, or a further 50 µs, of samples above B (R375). -/
def overStepUp (e : Env) (d : Dev) : Dev :=
  if wget d .PWR_INPUT_W ≤ budget d then d
  else
    let first := d.kOver = 0
    let d := overRises (min 14 (d.kOver + 1)) d
    if first then throttleRecord e 2 true d else d

/-- 1 ms of samples at or below B (R375). -/
def overStepDown (d : Dev) : Dev := if wget d .PWR_INPUT_W ≤ budget d then { d with kOver := d.kOver - 1 } else d

/-- The figure of context c for the phase of the run coordinate (R253). -/
def tokenFigure (d : Dev) (c : Nat) : Nat := rget d ⟨.PWR_CTX_FIG, c, bitsOf d.rc 23 20, 0⟩

/-- A record asks for a token: TOKEN 1, and rules 1 to 5 of R91 met (R372). -/
def asksToken (d : Dev) (p h c : Nat) (older : List WinEnt) (w : WinEnt) : Bool :=
  tokenOf w.raw = 1 && !w.token && eligible d p h c older { w with token := true }

/-- A window with the asking of its records noted, and how many token overruns that makes (R253, R372). -/
def noteAsks (e : Env) (d : Dev) (p h c : Nat) : List WinEnt × Nat :=
  let full := tokenFigure d c ≤ tokensOf d c
  let one (x : List WinEnt × WinEnt) : WinEnt × Nat :=
    if asksToken d p h c x.1 x.2 then
      ({ x.2 with asked := some (x.2.asked.getD e.clk.ns), overrun := x.2.overrun || full }, b2n (full && !x.2.overrun))
    else (x.2, 0)
  let l := (withOlder [] (getStrm d p h c).win).map one
  (l.map (·.1), (l.map (·.2)).sum)

/-- The asking of every stream's records is noted. -/
def noteAllAsks (e : Env) (d : Dev) : Dev :=
  (d.strms.map (·.1)).foldl (fun d k =>
    let r := noteAsks e d (k / 16) (k / 8 % 2) (k % 8)
    let s := getStrm d (k / 16) (k / 8 % 2) (k % 8)
    satAdd e ⟨.PWR_CTX_OVERRUN, k % 8, 0, 0⟩ r.2 (setStrm d (k / 16) (k / 8 % 2) (k % 8) { s with win := r.1 })) d

/-- A physical tile holds a token already (R372). -/
def tileHolds (d : Dev) (p : Nat) : Bool :=
  (List.range 8).any (fun c => [0, 1].any (fun h => (getStrm d p h c).win.any (·.token))) ||
  (lovageRuns d).any (fun k => lovageTile d k = p)

/-- A record that may be granted a token: place, context, index, deadline and when it asked. -/
structure TokenAsk where
  p : Nat
  h : Nat
  c : Nat
  idx : Nat
  deadline : Nat
  asked : Nat
  deriving DecidableEq, Repr

/-- The records that may be granted one now (R253, R372). -/
def tokenAsks (d : Dev) : List TokenAsk :=
  (d.strms.map (·.1)).flatMap (fun k =>
    let p := k / 16
    let h := k / 8 % 2
    let c := k % 8
    if tileHolds d p ∨ tokenFigure d c ≤ tokensOf d c then []
    else ((withOlder [] (getStrm d p h c).win).filter (fun x => asksToken d p h c x.1 x.2)).map (fun x =>
      ⟨p, h, c, x.2.idx, deadlineOf d c x.2, x.2.asked.getD 0⟩))

/-- The order of grants (R372): deadline, context, oldest request. -/
def grantBefore (x y : TokenAsk) : Bool :=
  x.deadline < y.deadline || (x.deadline = y.deadline && (x.c < y.c || (x.c = y.c && x.asked < y.asked)))

/-- A token is granted to record n, if it is among the first in the order of grants and one is free (R372, R374). -/
def grantToken (e : Env) (p h c n : Nat) (d : Dev) : Dev :=
  let d := noteAllAsks e d
  let asks := tokenAsks d
  match asks.find? (fun x => x.p = p && x.h = h && x.c = c && x.idx = n) with
  | none => d
  | some x =>
    if capacity d ≤ tokensHeld d ∨ asks.any (fun y => grantBefore y x) then d
    else
      let s := getStrm d p h c
      let i := s.win.findIdx (fun w => w.idx = n && !w.issued && tokenOf w.raw = 1 && !w.token)
      setStrm d p h c { s with win := s.win.modify i (fun w => { w with token := true }) }

/-- Calibration tables that were applied give the arbiter its values (R404). -/
def takeCal (d : Dev) : Dev :=
  match d.calNext with
  | some (res, cost) => wset .PWR_RESERVE_W res (wset .PWR_TOKEN_COST cost { d with calNext := none })
  | none => d

/-- The arbiter's recomputation every 1 µs (R374, R404). -/
def recomputeToken (e : Env) (d : Dev) : Dev :=
  let d := budgetFell e (noteAllAsks e (takeCal d))
  { d with kTok := tokenStep d (tokensHeld d) }

/-- The clock step takes effect on TCLK (R373, R387). -/
def applyStep (d : Dev) : Dev := rset d ⟨.CLK_DOM_MHZ, 0, 0, 0⟩ (1750 * (16 - stepInForce d) / 16)

/-- Rates of the clock domains 1 to 16 in MHz (R382). -/
def domainRates : List Nat :=
  [1750, 2100, 1250, 5000, 1400, 56000, 1600, 26562, 2000, 16000, 3200, 2000, 1066, 200, 50, 1000]

/-- A domain that is locking has locked; TCLK shows its rate after the step (R373, R387). -/
def lockDomain (d : Dev) (n : Nat) : Dev :=
  if rget d ⟨.CLK_DOM_STATE, n, 0, 0⟩ = 1 then
    let rate := domainRates.getD n 0
    rset (rset d ⟨.CLK_DOM_STATE, n, 0, 0⟩ 2) ⟨.CLK_DOM_MHZ, n, 0, 0⟩ (if n = 0 then rate * (16 - stepInForce d) / 16 else rate)
  else d

/-- The domains that are locking have locked. -/
def lockDomains (d : Dev) : Dev := (List.range 16).foldl lockDomain d

/-- A sensor's reading as a signed number. -/
def sensorAt (d : Dev) (s : Nat) : Int := toSigned 16 (tblGet d.sensors s 0)

/-- One reading (R378, R416). -/
def readSensor (d : Dev) (r : Reading) : Dev :=
  let v := r.value.toNat
  pushSample { src := 5, fa := r.sensor, value := if v < 2 ^ 15 then v else 0 }
    { d with sensors := tblSet (fun k => k) d.sensors r.sensor v 0 }

/-- The hottest compute-die sensor (R385). -/
def hottest (d : Dev) : Int := (allTiles.map (sensorAt d)).foldl max (sensorAt d 0)

/-- The power controller reads sensors (R378). -/
def readSensors (rs : List Reading) (d : Dev) : Dev :=
  let d := rs.foldl readSensor d
  wset .PWR_TJ_MAX (ofSigned 16 (hottest d)) d

/-- A compute-die sensor is at the throttle threshold, or stays there for a further 1 ms (R378). -/
def thermalUp (e : Env) (d : Dev) : Dev :=
  if hottest d < wget d .PWR_TJ_THROTTLE then d
  else
    let first := d.kTherm = 0
    let d := if d.kTherm < 14 then wset .PWR_THERMAL_SEEN 1 { d with kTherm := d.kTherm + 1 } else d
    if first then throttleRecord e 1 true d else d

/-- Every compute-die sensor has been 5 °C below the threshold for 10 ms (R378). -/
def thermalDown (d : Dev) : Dev :=
  if hottest d < (wget d .PWR_TJ_THROTTLE : Int) - 40 then { d with kTherm := d.kTherm - 1 } else d

/-- A trip comparator finds a trip temperature (R378). -/
def thermalTrips (e : Env) (hbm : Bool) (unit temp : Nat) (d : Dev) : Dev :=
  let limit := wget d (if hbm then .PWR_TJ_HBM_TRIP else .PWR_TJ_TRIP)
  if toSigned 16 temp < limit then d
  else
    let syn := packFields [(2, b2n hbm), (11, unit), (3, 0), (16, temp)]
    if hbm then logError e { cls := 0x0803, level := 4, kind := 1, index := unit * 32, syn := syn } d
    else logError e { cls := 0x0803, level := 3, index := unit, syn := syn } d

/-- Nominal values of the rails in mV (R379). -/
def railNominal : List Nat := [40000, 12000, 750, 750, 850, 1100, 400, 1800, 900, 800, 500, 800]

/-- Target of a tile's band regulator in µV: 0.70 V, lowered during a lovage run by TEST_L_VDROP tenths of a per cent (R363,
R379). -/
def bandTarget (d : Dev) (p : Nat) : Nat :=
  700 * (1000 - (((lovageRuns d).find? (fun k => lovageTile d k = p)).map (fun k => rget d ⟨.TEST_L_VDROP, k, 0, 0⟩)).getD 0)

/-- An output lies outside ±5 % of its target in µV (R379). -/
def outOfRange (target mv : Nat) : Bool := mv * 1000 * 20 < target * 19 || target * 21 < mv * 1000 * 20

/-- A rail, or with `band` the band regulator of a tile under rail 2, has stayed at a voltage for 10 µs (R379): outside its
range it is a fatal event. Rail 0 is not regulated. -/
def railFails (e : Env) (r mv : Nat) (band : Option Nat) (d : Dev) : Dev :=
  let target := match band with
    | some p => bandTarget d p
    | none => railNominal.getD r 0 * 1000
  let d := if band.isNone then rset d ⟨.PWR_RAIL_MV, r, 0, 0⟩ mv else d
  if r = 0 ∨ outOfRange target mv = false then d else logError e { cls := 0x0804, level := 4, kind := 6, index := r, syn := r } d

/-- MOD_THROTTLE_N counts as asserted (R376). -/
def throttleOn (e : Env) (d : Dev) : Dev :=
  if wget d .PWR_THROTTLED = 1 then d
  else
    let d := wset .PWR_THROTTLE_SEEN 1 (wset .PWR_THROTTLED 1 d)
    throttleRecord e 0 true (budgetFell e (satAdd e ⟨.PWR_THROTTLE_COUNT, 0, 0, 0⟩ 1 d))

/-- MOD_THROTTLE_N is released (R376). -/
def throttleOff (e : Env) (d : Dev) : Dev :=
  if wget d .PWR_THROTTLED = 0 then d else throttleRecord e 0 false (wset .PWR_THROTTLED 0 d)

/-- Load is shed (R377). -/
def shedOn (e : Env) (mv : Nat) (d : Dev) : Dev :=
  if wget d .PWR_SHED = 1 ∨ mv ≥ 34000 then d
  else
    let d := wset .PWR_SHED_SEEN 1 (wset .PWR_SHED 1 (wset .PWR_INPUT_MV mv d))
    let d := withdrawLovage e (satAdd e ⟨.PWR_SHED_COUNT, 0, 0, 0⟩ 1 d)
    let d := shedRecord e mv true d
    { d with pins := { d.pins with alert := true } }

/-- Load shedding ends (R377). -/
def shedOff (e : Env) (mv : Nat) (d : Dev) : Dev :=
  if wget d .PWR_SHED = 0 ∨ mv < 35000 then d
  else alertRelease (shedRecord e mv false (wset .PWR_SHED 0 (wset .PWR_INPUT_MV mv d)))

/-- A write of PWR_BUDGET_W (R376, R386); out of range it is not accepted. -/
def writeBudget (e : Env) (v : Nat) (d : Dev) : Dev :=
  if 2000 ≤ v % 8192 ∧ v % 8192 ≤ 4000 then budgetFell e (wset .PWR_BUDGET_W v d) else regAccess e (regOffset ⟨.PWR_BUDGET_W, 0, 0, 0⟩) true d

/-- The sideband pins are the boundary scan's (R436). -/
def pinsTaken (d : Dev) : Bool := d.jtag.instr = .extest || d.jtag.instr = .clamp || d.jtag.instr = .highz

/-- The device without its volatile state, in a power state. What it has sent, the count of free values, the inputs and the
test access port stay; the management port stays while MOD_PWRGD is asserted (R433). MOD_THROTTLE_N is honoured in reset
(R430). -/
def volatileLost (pw : Power) (pwrgd : Bool) (d : Dev) : Dev :=
  { power := pw, pins := { pwrgd := pwrgd }, outbox := d.outbox, free := d.free, mated := d.mated, inputs := d.inputs,
    regs := if pwrgd && !d.inputs.throttle then [(⟨.PWR_THROTTLED, 0, 0, 0⟩, 1)] else [],
    i3c := if pwrgd then d.i3c else {}, jtag := if pwrgd then d.jtag else {} }

/-- A slot's hash as burned (R399). -/
def burnSlot (slot : Nat) (hash : List Byte) (nv : NonVol) : NonVol :=
  { nv with ownerBurned := nv.ownerBurned ||| 2 ^ slot, ownerHash := tblSet (fun k => k) nv.ownerHash slot hash [] }

/-- The fuses after an operation that is done (R399, R401). -/
def fuseDone (op : FuseOp) (nv : NonVol) : NonVol :=
  match op with
  | .advance t => { nv with arbCount := max nv.arbCount t }
  | .burn slot hash => burnSlot slot hash nv
  | .revoke slot => { nv with ownerRevoked := nv.ownerRevoked ||| 2 ^ slot }

/-- The fuses after an operation that was cut short or failed, by a free value x: a slot is as it was or done; some of
an advance's bits are burned (R399, R401). -/
def fuseCut (op : FuseOp) (x : Nat) (nv : NonVol) : NonVol :=
  match op with
  | .advance t => { nv with arbCount := nv.arbCount + x % (t - nv.arbCount + 1) }
  | op => if x % 2 = 1 then fuseDone op nv else nv

/-- What a fuse operation under way leaves when power is lost (R399). -/
def fusesKept (d : Dev) (nv : NonVol) : NonVol × Dev :=
  match d.fuseOp with
  | some op => (fuseCut op (takeFree d).1 nv, (takeFree d).2)
  | none => (nv, d)

/-- A fuse operation under way completes (R432). -/
def fusesFinished (d : Dev) (nv : NonVol) : NonVol :=
  match d.fuseOp with
  | some op => fuseDone op nv
  | none => nv

/-- Every volatile state is lost, fabric time included (R377, R432, R46). -/
def loseAll (pw : Power) (pwrgd : Bool) (s : State) : State :=
  { s with dev := volatileLost pw pwrgd s.dev, clk := { ns := s.clk.ns } }

/-- A shutdown (R377); a fuse operation is cut short (R399). -/
def shutDown (s : State) : State :=
  let r := fusesKept s.dev s.nv
  loseAll .off false { s with dev := r.2, nv := r.1 }

/-- Soft start begins: VIN has been in range for 100 ms, MOD_MATED_N is low (R377, R388, R432). -/
def softStart (s : State) : State :=
  if s.dev.power = .off ∧ s.dev.mated ∧ s.dev.inputs.vin then { s with dev := { s.dev with power := .softStart } } else s

/-- The state with other inputs. -/
def setInputs (f : Inputs → Inputs) (s : State) : State := { s with dev := { s.dev with inputs := f s.dev.inputs } }

/-- VIN leaves its range, and the module shuts down (R377). -/
def vinFails (s : State) : State := setInputs (fun i => { i with vin := false }) (shutDown s)

/-- What the device makes of the level of MOD_THROTTLE_N (R376): nothing while the boundary scan has its pins; in reset it is
honoured (R430), and no record is kept. -/
def throttleSeen (e : Env) (d : Dev) : Dev :=
  if pinsTaken d then d
  else match d.power with
    | .running => if d.inputs.throttle then throttleOff e d else throttleOn e d
    | .inReset => wset .PWR_THROTTLED (b2n (!d.inputs.throttle)) d
    | _ => d

/-- MOD_THROTTLE_N has read a level for 1 µs (R376). -/
def throttlePin (high : Bool) (s : State) : State :=
  let d := { s.dev with inputs := { s.dev.inputs with throttle := high } }
  { s with dev := inCycle s.dev (throttleSeen ⟨s.clk, s.nv⟩ d) }

/-- POWER_SAMPLE (R375). -/
def execPowerSample (watts : Nat) (s : State) (mv : Nat := 40000) (rails : List Nat := []) : Host.Outcome State Fault Refusal :=
  act s true (fun e d => powerSample e watts mv rails d)

/-- OVER_BUDGET_STEP_UP (R375). -/
def execOverBudgetStepUp (s : State) : Host.Outcome State Fault Refusal := act s true (fun e d => overStepUp e d)

/-- OVER_BUDGET_STEP_DOWN (R375). -/
def execOverBudgetStepDown (s : State) : Host.Outcome State Fault Refusal := act s true (fun _ d => overStepDown d)

/-- TOKEN_STEP_RECOMPUTE (R374). -/
def execTokenStepRecompute (s : State) : Host.Outcome State Fault Refusal := act s true (fun e d => recomputeToken e d)

/-- TOKEN_GRANT (R372). -/
def execTokenGrant (p h c n : Nat) (s : State) : Host.Outcome State Fault Refusal :=
  act s (placeOk p h c) (fun e d => grantToken e p h c n d)

/-- CLOCK_STEP_APPLY (R373). -/
def execClockStepApply (s : State) : Host.Outcome State Fault Refusal := act s true (fun _ d => applyStep d)

/-- SENSOR_READ (R378). -/
def execSensorRead (readings : List Reading) (s : State) : Host.Outcome State Fault Refusal :=
  act s (readings.all (fun r => r.sensor ≤ 1460)) (fun _ d => readSensors readings d)

/-- THERMAL_STEP_UP (R378). -/
def execThermalStepUp (s : State) : Host.Outcome State Fault Refusal := act s true (fun e d => thermalUp e d)

/-- THERMAL_STEP_DOWN (R378). -/
def execThermalStepDown (s : State) : Host.Outcome State Fault Refusal := act s true (fun _ d => thermalDown d)

/-- THERMAL_TRIP (R378). -/
def execThermalTrip (hbm : Bool) (unit : Nat) (temp : BitVec 16) (s : State) : Host.Outcome State Fault Refusal :=
  act s (if hbm then unit < 20 else unit < 1440) (fun e d => thermalTrips e hbm unit temp.toNat d)

/-- RAIL_FAULT (R379). -/
def execRailFault (r mv : Nat) (s : State) (band : Option Nat := none) : Host.Outcome State Fault Refusal :=
  act s (r < 12 && band.all (fun p => r = 2 && p < 1440)) (fun e d => railFails e r mv band d)

/-- THROTTLE_ASSERT (R376). -/
def execThrottleAssert (s : State) : Host.Outcome State Fault Refusal := .next (throttlePin false s)

/-- THROTTLE_RELEASE (R376). -/
def execThrottleRelease (s : State) : Host.Outcome State Fault Refusal := .next (throttlePin true s)

/-- LOAD_SHED_ENTRY (R377). -/
def execLoadShedEntry (mv : Nat) (s : State) : Host.Outcome State Fault Refusal := act s true (fun e d => shedOn e mv d)

/-- LOAD_SHED_EXIT (R377). -/
def execLoadShedExit (mv : Nat) (s : State) : Host.Outcome State Fault Refusal := act s true (fun e d => shedOff e mv d)

/-- UNDERVOLTAGE_SHUTDOWN (R377). -/
def execUndervoltageShutdown (s : State) : Host.Outcome State Fault Refusal := .next (vinFails s)

/-- OVERVOLTAGE_SHUTDOWN (R377). -/
def execOvervoltageShutdown (s : State) : Host.Outcome State Fault Refusal := .next (vinFails s)

/-- REFCLK100_B_LOSS (R377, R383). -/
def execRefclk100BLoss (s : State) : Host.Outcome State Fault Refusal := .next (shutDown s)

/-- POWER_UP (R377). -/
def execPowerUp (s : State) : Host.Outcome State Fault Refusal :=
  .next (softStart (setInputs (fun i => { i with vin := true }) s))

/-- BREAKER_TRIP (R439). -/
def execBreakerTrip (s : State) : Host.Outcome State Fault Refusal := .next (shutDown s)

/-- PWR_BUDGET_W (R386). -/
def execPwrBudgetW (v : Word) (s : State) : Host.Outcome State Fault Refusal := actT s true (fun e d => writeBudget e v.toNat d)

/-- MOD_MATED_N_LOW (R432). -/
def execModMatedNLow (s : State) : Host.Outcome State Fault Refusal :=
  .next (softStart { s with dev := { s.dev with mated := true } })

/-- MOD_MATED_N_HIGH (R432). -/
def execModMatedNHigh (s : State) : Host.Outcome State Fault Refusal :=
  .next (shutDown { s with dev := { s.dev with mated := false } })

end Sys2Proof.Machine
end

