-- ==== Sys2Proof/Machine/Trust.lean ====
section
/-! DEFINITION. SHA-256 (FIPS 180-4) and RSASSA-PSS verification (RFC 8017) with the parameters of R396. -/

namespace Sys2Proof.Machine

/-- Exclusive or of a 32-bit word turned right by each of some amounts. -/
def turnedXor (x : Nat) (ns : List Nat) : Nat := ns.foldl (fun s n => s ^^^ (x / 2 ^ n ||| (x % 2 ^ n) * 2 ^ (32 - n))) 0

/-- The number whose most significant byte comes first. -/
def beNat (bs : List Byte) : Nat := bs.foldl (fun a b => a * 256 + b.toNat) 0

/-- n in `len` bytes, most significant first. -/
def beBytes (n len : Nat) : List Byte := (leBytes n len).reverse

/-- The first n words of 32 bits of a number, the lowest first. -/
def wordsOf (x : Nat) : Nat → List Nat
  | 0 => []
  | n + 1 => x % 2 ^ 32 :: wordsOf (x / 2 ^ 32) n

/-- The round constants of FIPS 180-4, eight to a number, the first of them lowest. -/
def roundWords : List Nat :=
  [0xAB1C5ED5923F82A459F111F13956C25BE9B5DBA5B5C0FBCF71374491428A2F98,
   0xC19BF1749BDC06A780DEB1FE72BE5D74550C7DC3243185BE12835B01D807AA98,
   0x76F988DA5CB0A9DC4A7484AA2DE92C6F240CA1CC0FC19DC6EFBE4786E49B69C1,
   0x1429296706CA6351D5A79147C6E00BF3BF597FC7B00327C8A831C66D983E5152].flatMap (fun x => wordsOf x 8) ++
  [0x92722C8581C2C92E766A0ABB650A735453380D134D2C6DFC2E1B213827B70A85,
   0x106AA070F40E3585D6990624D192E819C76C51A3C24B8B70A81A664BA2BFE8A1,
   0x682E6FF35B9CCA4F4ED8AA4A391C0CB334B0BCB52748774C1E376C0819A4C116,
   0xC67178F2BEF9A3F7A4506CEB90BEFFFA8CC7020884C8781478A5636F748F82EE].flatMap (fun x => wordsOf x 8)

/-- The chaining value of FIPS 180-4 at the start: of its eight words the first four belong to one chain, the last four to
the other. -/
def startChains : List Nat × List Nat :=
  (wordsOf 0xA54FF53A3C6EF372BB67AE856A09E667 4, wordsOf 0x5BE0CD191F83D9AB9B05688C510E527F 4)

/-- One more word of a block's schedule; the last sixteen stand newest first. -/
def scheduled (w : List Nat) : Nat :=
  let old := w.getD 14 0
  let new := w.getD 1 0
  ((turnedXor old [7, 18] ^^^ old / 2 ^ 3) + (turnedXor new [17, 19] ^^^ new / 2 ^ 10) + w.getD 6 0 + w.getD 15 0) % 2 ^ 32

/-- One round. Each chain holds the last four of its words, newest first; x is the sum of the round's constant and its word
of the schedule. -/
def hashRound (s : List Nat × List Nat) (x : Nat) : List Nat × List Nat :=
  let a (i : Nat) : Nat := s.1.getD i 0
  let e (i : Nat) : Nat := s.2.getD i 0
  let t := x + e 3 + turnedXor (e 0) [6, 11, 25] + (e 2 ^^^ (e 0 &&& (e 1 ^^^ e 2)))
  ((t + turnedXor (a 0) [2, 13, 22] + ((a 0 &&& a 1) ||| (a 2 &&& (a 0 ||| a 1)))) % 2 ^ 32 :: s.1.take 3,
   (a 3 + t) % 2 ^ 32 :: s.2.take 3)

/-- The rounds of a block by its constants still to come, the schedule's last words and the block's words still to
come. -/
def hashRounds : List Nat → List Nat → List Nat → List Nat × List Nat → List Nat × List Nat
  | [], _, _, s => s
  | k :: ks, w, [], s => let x := scheduled w; hashRounds ks (x :: w.take 15) [] (hashRound s (k + x))
  | k :: ks, w, x :: m, s => hashRounds ks (x :: w.take 15) m (hashRound s (k + x))

/-- A word for each 4 bytes, most significant byte first. -/
def beWords : Nat → List Byte → List Nat
  | 0, _ => []
  | n + 1, bs => beNat (bs.take 4) :: beWords n (bs.drop 4)

/-- The chains after n more blocks of 64 bytes. -/
def hashBlocks : Nat → List Byte → List Nat × List Nat → List Nat × List Nat
  | 0, _, s => s
  | n + 1, bs, s =>
    let r := hashRounds roundWords [] (beWords 16 bs) s
    let add (a b : List Nat) : List Nat := (a.zip b).map (fun x => (x.1 + x.2) % 2 ^ 32)
    hashBlocks n (bs.drop 64) (add s.1 r.1, add s.2 r.2)

/-- SHA-256 (FIPS 180-4): 32 bytes. -/
def sha256 (bs : List Byte) : List Byte :=
  let whole := bs ++ (0x80 :: List.replicate ((119 - bs.length % 64) % 64) 0) ++ beBytes (bs.length * 8) 8
  let s := hashBlocks (whole.length / 64) whole startChains
  (s.1 ++ s.2).flatMap (fun w => beBytes w 4)

/-- MGF1 with SHA-256. -/
def mgf1 (seed : List Byte) (len : Nat) : List Byte :=
  ((List.range (ceilDiv len 32)).flatMap (fun i => sha256 (seed ++ beBytes i 4))).take len

/-- x to the power 65,537 modulo n. -/
def pow65537 (n x : Nat) : Nat :=
  (List.range 16).foldl (fun y _ => y * y % n) (x % n) * x % n

/-- Exclusive or of byte strings. -/
def xorBytes (a b : List Byte) : List Byte := List.zipWith (· ^^^ ·) a b

/-- EMSA-PSS encoding of a hash under a salt of 32 bytes, in 384 bytes of which the top bit is 0 (RFC 8017, R396). -/
def pssEncode (hash salt : List Byte) : List Byte :=
  let h := sha256 (List.replicate 8 0 ++ hash ++ salt)
  let db := xorBytes (List.replicate 318 0 ++ (1 :: salt)) (mgf1 h 351)
  let cleared := match db with
    | b :: bs => BitVec.ofNat 8 (b.toNat % 128) :: bs
    | [] => []
  cleared ++ h ++ [0xBC]

/-- What a private key makes of an encoded message: the number below the modulus whose power 65,537 it is, if there is one.
The model does not hold the private key; for an RSA modulus the number is unique (notes/assumptions/114.md). -/
def rsaRoot (modulus em : Nat) : Option Nat := (List.range modulus).find? (fun s => pow65537 modulus s = em)

/-- EMSA-PSS verification of an encoded message of `bits` bits in 384 bytes, salt of 32 bytes. -/
def pssOk (hash em : List Byte) (bits : Nat) : Bool :=
  let masked := em.take 351
  let h := (em.drop 351).take 32
  let top := 2 ^ (8 - (3072 - bits))
  let db := match xorBytes masked (mgf1 h 351) with
    | b :: bs => BitVec.ofNat 8 (b.toNat % top) :: bs
    | [] => []
  em.length = 384 && em.getD 383 0 = 0xBC && (em.getD 0 0).toNat < top &&
  (db.take 318).all (fun b => b = 0) && db.getD 318 0 = 1 &&
  sha256 (List.replicate 8 0 ++ hash ++ db.drop 319) = h

/-- A signature verifies under a modulus over bytes (R396). -/
def rsaOk (modulus : Nat) (bs sig : List Byte) : Bool :=
  let s := beNat sig
  2 ^ 3071 ≤ modulus && modulus < 2 ^ 3072 && sig.length = 384 && s < modulus &&
  pssOk (sha256 bs) (beBytes (pow65537 modulus s) 384) 3071

/-- The full hash of a key (R396). -/
def keyHash (modulus : Nat) : List Byte := sha256 (beBytes modulus 384 ++ beBytes 65537 4)

/-- KEY_ID as the little-endian field that holds its first 8 bytes (R396, R397). -/
def keyId (modulus : Nat) : Nat := leNat ((keyHash modulus).take 8)

/-- A certificate's fields (R397). -/
structure Cert where
  purpose : Nat
  keyId : Nat
  subject : Nat
  maxArb : Nat
  modulus : Nat
  issuer : Nat
  body : List Byte
  sig : List Byte
  deriving DecidableEq, Repr

/-- Little-endian field of a byte string. -/
def fieldAt (bs : List Byte) (off len : Nat) : Nat := leNat ((bs.drop off).take len)

/-- The bytes from lo to hi − 1 are 0. -/
def zeroBytes (bs : List Byte) (lo hi : Nat) : Bool := ((bs.drop lo).take (hi - lo)).all (fun b => b = 0)

/-- A well-formed certificate (R397): only an identity certificate, of PURPOSE 8, has a SUBJECT. -/
def certOf (bs : List Byte) : Option Cert :=
  let m := beNat ((bs.drop 0x40).take 384)
  if bs.length = 1024 ∧ fieldAt bs 0 4 = 0x54524543 ∧ (fieldAt bs 6 1 = 8 ∨ fieldAt bs 0x10 8 = 0) ∧ fieldAt bs 4 2 = 1 ∧ zeroBytes bs 7 8 ∧ fieldAt bs 0x18 1 < 128 ∧
      zeroBytes bs 0x19 0x40 ∧ beNat ((bs.drop 0x1C0).take 4) = 65537 ∧ zeroBytes bs 0x1C4 0x278 ∧ fieldAt bs 8 8 = keyId m then
    some { purpose := fieldAt bs 6 1, keyId := fieldAt bs 8 8, subject := fieldAt bs 0x10 8, maxArb := fieldAt bs 0x18 1,
           modulus := m, issuer := fieldAt bs 0x278 8, body := bs.take 0x280, sig := bs.drop 0x280 }
  else none

/-- A certificate is signed by a key (R397, R398). -/
def certSignedBy (c : Cert) (modulus : Nat) : Bool := c.issuer = keyId modulus && rsaOk modulus c.body c.sig

/-- A self-signed record of a purpose (R398). -/
def selfSigned (c : Cert) (purpose : Nat) : Bool := c.purpose = purpose && certSignedBy c c.modulus

end Sys2Proof.Machine
end

