-- ==== Sys2Proof/Machine/Boot.lean ====
section
/-! DEFINITION. From reset to service: straps, boot, readiness, firmware switch-over and UCIe modules (R264, R388 to R390,
R400, R405, R432). -/

namespace Sys2Proof.Machine

/-- Fields of the CFG and SEC blocks. -/
def sget (d : Dev) (r : Reg) : Nat := rget d ⟨r, 0, 0, 0⟩
def sset (r : Reg) (v : Nat) (d : Dev) : Dev := rset d ⟨r, 0, 0, 0⟩ v

/-- Offset of a register of the CFG and SEC blocks for the record of a refused write. -/
def sOff (r : Reg) : Nat := regOffset ⟨r, 0, 0, 0⟩

/-- A write that is not accepted (R13, R410). -/
def sRefused (e : Env) (r : Reg) (d : Dev) : Dev := regAccess e (sOff r) true d

/-- CFG_STATE (R388). -/
def cfgState (d : Dev) : Nat := sget d .CFG_STATE

/-- Calibration that is in force from reset (R371, R385, R409). -/
def fromFlash (nv : NonVol) (d : Dev) : Dev :=
  wset .PWR_RESERVE_W nv.cal.res (wset .PWR_TOKEN_COST nv.cal.cost (sset .SEC_CAL_VER nv.cal.version d))

/-- Straps are latched (R432). -/
def latchStraps (slot cr8 : Nat) (d : Dev) : Dev :=
  (List.range 4).foldl (fun d p => rset d ⟨.ETH_MEDIA, p, 0, 0⟩ (b2n (cr8.testBit p))) (sset .CFG_SLOT_ID slot d)

/-- What the device makes of the level of MOD_RST_N (R388, R432): nothing while the boundary scan has its pins. Low, it
resets a module whose rails are in regulation; a fuse operation in progress first completes. High, it ends the reset once
MOD_PWRGD is asserted, and the straps are latched. -/
def resetSeen (s : State) : State :=
  let i := s.dev.inputs
  if pinsTaken s.dev then s
  else if i.rst then
    if s.dev.power = .inReset then { s with dev := fromFlash s.nv (latchStraps i.slot i.cr8 { s.dev with power := .running }) } else s
  else if s.dev.power = .running ∨ s.dev.power = .inReset then
    loseAll .inReset true { s with nv := fusesFinished s.dev s.nv }
  else s

/-- MOD_RST_N reads low for 1 µs (R432). -/
def resetAsserted (s : State) : State := resetSeen (setInputs (fun i => { i with rst := false }) s)

/-- MOD_RST_N goes high, with the straps at their levels (R388, R432). -/
def resetReleased (slot cr8 : Nat) (s : State) : State :=
  resetSeen (setInputs (fun i => { i with rst := true, slot := slot, cr8 := cr8 }) s)

/-- Soft start ends, rails in regulation, and MOD_PWRGD is asserted (R388); a MOD_RST_N that is high already ends the reset
at once (R432). -/
def railsUp (s : State) : State :=
  if s.dev.power = .softStart then
    let d := { s.dev with power := .inReset, pins := { s.dev.pins with pwrgd := true } }
    resetSeen { s with dev := if d.inputs.throttle then d else wset .PWR_THROTTLED 1 d }
  else s

/-- A firmware slot. -/
def fwSlot (nv : NonVol) (n : Nat) : FwSlot := if n = 0 then nv.slotA else nv.slotB

/-- A hash as the number of the fuse that holds it, byte 0 lowest, given as bytes. -/
def fuseBytes (hash : Nat) : List Byte := leBytes hash 32

/-- The vendor root key record, if it is self-signed and its full hash is the fused one (R388, R398). -/
def rootKey (nv : NonVol) : Option RootRec :=
  if nv.rootRec.selfSigned ∧ keyHash nv.rootRec.modulus = fuseBytes nv.rootHash then some nv.rootRec else none

/-- The vendor root key record is accepted and meets its KEY_MAX_ARB (R397, R398). -/
def rootMeets (nv : NonVol) : Bool := nv.arbCount ≤ nv.rootRec.maxArb && (rootKey nv).isSome

/-- The identity key can be read, and so can its certificate, which the chain of R398 certifies for this module (R398,
R400). -/
def identityUsable (nv : NonVol) : Bool :=
  nv.idModulus ≠ 0 && nv.idSealed && rootMeets nv &&
  match certOf nv.idSigner, certOf nv.idCert with
  | some a, some b =>
    a.purpose = 5 && certSignedBy a nv.rootRec.modulus && nv.arbCount ≤ a.maxArb &&
    b.purpose = 8 && certSignedBy b a.modulus && nv.arbCount ≤ b.maxArb && b.subject = nv.serial && b.modulus = nv.idModulus
  | _, _ => false

/-- The identity of the module as SEC shows it (R400, R409). -/
def identityShown (nv : NonVol) (d : Dev) : Dev :=
  if identityUsable nv then sset .SEC_ID_PRESENT 1 (sset .SEC_ID_KEY_ID (keyId nv.idModulus) d) else d

/-- A firmware slot passes verification at boot (R388, R398). -/
def slotPasses (nv : NonVol) (n : Nat) : Bool :=
  (fwSlot nv n).present && nv.arbCount ≤ (fwSlot nv n).svn && nv.arbCount ≤ (fwSlot nv n).maxArb && rootMeets nv

/-- A measurement takes the place of the one of the same kind, slot and standing (R403). -/
def measure (m : Meas) (d : Dev) : Dev :=
  { d with meas := d.meas.filter (fun x => !(x.kind = m.kind && x.slot = m.slot && x.pending = m.pending)) ++ [m] }

/-- Measurement of a firmware slot. -/
def fwMeas (e : Env) (n : Nat) (pending : Bool) (f : FwSlot) : Meas :=
  { kind := 1, slot := n, pending := pending, version := f.svn, keyId := f.keyId, ft := e.clk.ft, digest := f.digest }

/-- The clock domains begin to lock (R387). -/
def startDomains (d : Dev) : Dev := (List.range 16).foldl (fun d n => rset d ⟨.CLK_DOM_STATE, n, 0, 0⟩ 1) d

/-- Tabok's cores start from a slot; readiness work starts (R388, R390). -/
def startCores (e : Env) (n : Nat) (d : Dev) : Dev :=
  let d := measure (fwMeas e n false (fwSlot e.nv n)) (sset .CFG_STATE 1 (sset .SEC_FW_ACTIVE n d))
  startDomains ((List.range 20).foldl (fun d s => rset d ⟨.HBM_STACK_STATE, s, 0, 0⟩ 1) d)

/-- Verification of the firmware slots ends (R388). -/
def bootVerified (e : Env) (d0 : Dev) : Dev :=
  let n := e.nv.bootSlot
  let d := identityShown e.nv d0
  if cfgState d0 ≠ 0 then d0
  else if slotPasses e.nv n then startCores e n d
  else if slotPasses e.nv (1 - n) then startCores e (1 - n) (sset .SEC_FW_REVERTED 1 d)
  else
    let d := sset .CFG_STATE 4 d
    { d with pins := { d.pins with fault := true, alert := true } }

/-- The identity key is generated and sealed on the first boot (R400); the command brings the key that the entropy source
gave, and the certificates that the vendor issues for it during manufacture (notes/assumptions/114.md). -/
def identityMade (modulus : Nat) (signer cert : List Byte) (s : State) : State :=
  if s.dev.power = .running ∧ s.nv.idModulus = 0 ∧ 2 ^ 3071 ≤ modulus ∧ modulus < 2 ^ 3072 then
    let nv := { s.nv with idModulus := modulus, idSealed := true, idSigner := signer, idCert := cert }
    { s with nv := nv, dev := identityShown nv s.dev }
  else s

/-- Readiness work is under way. -/
def readying (d : Dev) : Bool := tabokRuns d

/-- Every word of a tile's stores and buffer is written with +0 and a fresh code (R390). -/
def zeroTile (p : Nat) (d : Dev) : Dev :=
  let clear (m : List Host.Cell) (k : Nat) : List Host.Cell := m.filter (fun x => x.1 / 2 ^ k ≠ p)
  let fresh (l : List Nat) (k : Nat) : List Nat := l.filter (fun w => w * 8 / 2 ^ k ≠ p)
  let size : Coded → Nat
    | .ts => 21
    | .gs => 22
    | .tb => 16
    | .hbm => 0
  { d with ts := clear d.ts 21, gs := clear d.gs 22, tb := clear d.tb 16, tsUE := fresh d.tsUE 21, gsUE := fresh d.gsUE 22,
           tbUE := fresh d.tbUE 16, slips := d.slips.filter (fun x => x.mem = .hbm || x.at_ * 8 / 2 ^ size x.mem ≠ p) }

/-- A tile's self-test ends (R390, R343). -/
def tileTested (e : Env) (p : Nat) (ok : Bool) (d : Dev) : Dev :=
  let k : RegKey := ⟨.TILE_STATE, p, 0, 0⟩
  if readying d = false ∨ rget d k ≠ 0 then d
  else if ok then rset (zeroTile p d) k 1
  else logError e { cls := 0x0705, level := 3, index := p, syn := p } (rset d k 4)

/-- The staging self-test of the collective engines ends (R390). -/
def colTested (d : Dev) : Dev := if readying d then sset .CFG_RDY_COL 1 d else d

/-- A bit of a register set or cleared. -/
def putBit (v n : Nat) (on : Bool) : Nat := if v.testBit n = on then v else v ^^^ 2 ^ n

/-- A UCIe module is disabled; with all of them, the host is lost (R264). -/
def ucieOff (e : Env) (m : Nat) (d : Dev) : Dev :=
  let off := putBit (sget d .CFG_UCIE_OFF) m true
  let d := sset .CFG_UCIE_OFF off { d with ucieRetrain := putBit d.ucieRetrain m false }
  let d := logError e { cls := 0x0503, level := 4, kind := 4, index := m, syn := m } d
  if off = 255 then logError e { cls := 0x0504, level := 4, kind := 7 } d else d

/-- A UCIe module ends training, or one try of retraining (R264). -/
def ucieTrained (e : Env) (m : Nat) (ok : Bool) (d : Dev) : Dev :=
  if readying d = false ∨ (sget d .CFG_UCIE_OFF).testBit m ∨ (sget d .CFG_UCIE_UP).testBit m then d
  else if ok then
    sset .CFG_UCIE_UP (putBit (sget d .CFG_UCIE_UP) m true)
      { d with ucieRetrain := putBit d.ucieRetrain m false, ucieFails := tblSet (fun k => k) d.ucieFails m 0 0 }
  else if d.ucieRetrain.testBit m then
    let n := tblGet d.ucieFails m 0 + 1
    let d := { d with ucieFails := tblSet (fun k => k) d.ucieFails m n 0 }
    if n < 3 then d else ucieOff e m d
  else ucieOff e m d

/-- A flit arrives on a UCIe module; more than 16 replays in 1 µs retrain it (R264). -/
def ucieFlit (e : Env) (m : Nat) (crcOk : Bool) (d : Dev) : Dev :=
  if crcOk ∨ (sget d .CFG_UCIE_UP).testBit m = false then d
  else
    let recent := d.ucieReplays.filter (fun x => e.clk.ns < x.2 + 1000) ++ [(m, e.clk.ns)]
    if (recent.filter (fun x => x.1 = m)).length ≤ 16 then { d with ucieReplays := recent }
    else
      sset .CFG_UCIE_UP (putBit (sget d .CFG_UCIE_UP) m false)
        { d with ucieReplays := recent.filter (fun x => x.1 ≠ m), ucieRetrain := putBit d.ucieRetrain m true }

/-- The words of the staging area from a stored block (R392). -/
def stageBlock (block : List Byte) (d : Dev) : Dev :=
  if block = [] then d
  else
    let d := (List.range 256).foldl (fun d w => rset d ⟨.CFG_STAGE, w, 0, 0⟩ (leNat ((block.drop (4 * w)).take 4))) d
    { d with stageMask := 2 ^ 256 - 1 }

/-- A switch-over ends with the new firmware alive (R405). -/
def switched (e : Env) (d : Dev) : NonVol × Dev :=
  let n := 1 - sget d .SEC_FW_ACTIVE
  let d := { d with fwWait := 0, meas := (d.meas.filter (fun x => !(x.kind = 1 && !x.pending))).map (fun x => if x.kind = 1 then { x with pending := false } else x) }
  ({ e.nv with bootSlot := n }, sset .SEC_FW_ACTIVE n (sset .SEC_FW_PENDING 0 (sset .SEC_FW_SWITCHING 0 d)))

/-- SEC_FW_ALIVE is written (R388, R405, R410). -/
def fwAlive (e : Env) (d : Dev) : NonVol × Dev :=
  if d.fwWait = 1 then switched e d
  else if d.fwWait = 2 then (e.nv, sset .SEC_FW_SWITCHING 0 { d with fwWait := 0 })
  else if cfgState d = 1 then (e.nv, stageBlock e.nv.cfgBlock (sset .CFG_STATE 2 d))
  else (e.nv, sRefused e .SEC_FW_ALIVE d)

/-- The cores restart from the new slot (R405). -/
def handOver (d : Dev) : Dev :=
  if sget d .SEC_FW_SWITCHING = 1 ∧ d.fwWait = 0 then { d with fwWait := 1 } else d

/-- SEC_FW_HANDOVER is written (R405, R410). -/
def fwHandover (e : Env) (d : Dev) : Dev :=
  if sget d .SEC_FW_SWITCHING = 1 then handOver d else sRefused e .SEC_FW_HANDOVER d

/-- Restarted firmware does not come alive within 2 s (R405). -/
def notAlive (d : Dev) : Dev :=
  if d.fwWait = 1 then sset .SEC_FW_REVERTED 1 { d with fwWait := 2 }
  else if d.fwWait = 2 then { d with fwWait := 3, fwDead := true, pins := { d.pins with alert := true } }
  else d

/-- The security controller writes a new LNK_LIVE (R405). -/
def securityLive (d : Dev) : Dev :=
  if sget d .SEC_FW_SWITCHING = 1 ∧ d.fwDead = false then
    let r := takeFree d
    sset .LNK_LIVE ((sget d .LNK_LIVE + 1 + r.1 % 65535) % 65536) r.2
  else d

/-- A command that may also write fuses or the boot flash. -/
def actNv (s : State) (f : Env → Dev → NonVol × Dev) : Host.Outcome State Fault Refusal :=
  if s.dev.power = .running then
    .next { s with nv := (f ⟨s.clk, s.nv⟩ s.dev).1, dev := inCycle s.dev (f ⟨s.clk, s.nv⟩ s.dev).2 }
  else .next s

/-- A write of Tabok software that may also write fuses or the boot flash. -/
def actTNv (s : State) (f : Env → Dev → NonVol × Dev) : Host.Outcome State Fault Refusal :=
  actNv s (fun e d => if tabokRuns d then f e d else (e.nv, d))

/-- MOD_RST_N_ASSERT (R432). -/
def execModRstNAssert (s : State) : Host.Outcome State Fault Refusal := .next (resetAsserted s)

/-- MOD_RST_N_DEASSERT (R388). -/
def execModRstNDeassert (slot : BitVec 6) (cr8 : BitVec 4) (s : State) : Host.Outcome State Fault Refusal :=
  .next (resetReleased slot.toNat cr8.toNat s)

/-- BOOT_VERIFY_DONE (R388). -/
def execBootVerifyDone (s : State) : Host.Outcome State Fault Refusal := act s true (fun e d => bootVerified e d)

/-- IDENTITY_KEY_GENERATED (R400). -/
def execIdentityKeyGenerated (s : State) (modulus : Nat := 2 ^ 3071 + 1) (signer : List Byte := []) (cert : List Byte := []) :
    Host.Outcome State Fault Refusal :=
  .next (identityMade modulus signer cert s)

/-- RAILS_IN_REGULATION (R388). -/
def execRailsInRegulation (s : State) : Host.Outcome State Fault Refusal := .next (railsUp s)

/-- TILE_SELF_TEST_DONE (R390). -/
def execTileSelfTestDone (p : Nat) (ok : Bool) (s : State) : Host.Outcome State Fault Refusal :=
  act s (p < 1440) (fun e d => tileTested e p ok d)

/-- COLLECTIVE_SELF_TEST_DONE (R390). -/
def execCollectiveSelfTestDone (s : State) : Host.Outcome State Fault Refusal := act s true (fun _ d => colTested d)

/-- UCIE_MODULE_TRAIN_END (R264). -/
def execUcieModuleTrainEnd (m : Nat) (ok : Bool) (s : State) : Host.Outcome State Fault Refusal :=
  act s (m < 8) (fun e d => ucieTrained e m ok d)

/-- UCIE_FLIT_RX (R264). -/
def execUcieFlitRx (m : Nat) (crcOk : Bool) (s : State) : Host.Outcome State Fault Refusal :=
  act s (m < 8) (fun e d => ucieFlit e m crcOk d)

/-- SEC_FW_ALIVE (R388, R405). -/
def execSecFwAlive (s : State) : Host.Outcome State Fault Refusal := actTNv s (fun e d => fwAlive e d)

/-- SEC_FW_HANDOVER (R405). -/
def execSecFwHandover (s : State) : Host.Outcome State Fault Refusal := actT s true (fun e d => fwHandover e d)

/-- HANDOVER_TIMEOUT (R405). -/
def execHandoverTimeout (s : State) : Host.Outcome State Fault Refusal := act s true (fun _ d => handOver d)

/-- ALIVE_TIMEOUT (R405). -/
def execAliveTimeout (s : State) : Host.Outcome State Fault Refusal := act s true (fun _ d => notAlive d)

/-- SECURITY_LIVE_WRITE (R405). -/
def execSecurityLiveWrite (s : State) : Host.Outcome State Fault Refusal := act s true (fun _ d => securityLive d)

end Sys2Proof.Machine
end

