-- ==== Sys2Proof/Machine/Rings.lean ====
section
/-! DEFINITION. Doorbells, descriptor fetches, completion records, event entries, interrupt messages and the ring
enables (R265, R267 to R278, R282, R283, R450). -/

namespace Sys2Proof.Machine

/-- A register of context c. -/
def cget (d : Dev) (r : Reg) (c : Nat) : Nat := rget d ⟨r, c, 0, 0⟩
def cset (r : Reg) (c v : Nat) (d : Dev) : Dev := rset d ⟨r, c, 0, 0⟩ v

/-- Window offset of a word of context c's RING block (R282). -/
def ringOff (c off : Nat) : Nat := 0x101000 + 0x400 * c + off

/-- What a doorbell of R270 meets. -/
inductive DbCase
  | off
  | same
  | stale
  | refused
  | accepted
  deriving DecidableEq, Repr

/-- The first row of R270's table that applies. -/
def dbCase (en gen log2 prod cons tag p : Nat) : DbCase :=
  let dd := ringUsed p cons
  let o := ringUsed prod cons
  if en = 0 ∨ tag ≠ gen then .off
  else if dd < o then .stale
  else if dd = o then .same
  else if dd > 2 ^ log2 - 1 then .refused
  else .accepted

/-- A doorbell is taken (R270). -/
def doorbell (e : Env) (v : Nat) (d : Dev) : Dev :=
  let c := bitsOf v 18 16
  let p := bitsOf v 15 0
  match dbCase (cget d .RING_EN c) (cget d .RING_GEN c) (cget d .RING_CMD_LOG2 c) (cget d .RING_CMD_PROD c)
      (cget d .RING_CMD_CONS c) (bitsOf v 31 19) p with
  | .off => satAdd e ⟨.RING_DB_IGNORED, 0, 0, 0⟩ 1 d
  | .stale => satAdd e ⟨.RING_DB_IGNORED, 0, 0, 0⟩ 1 d
  | .same => d
  | .refused =>
    logError e { cls := 0x0502, level := 4, kind := 5, index := 2, ctx := some c, syn := v % 2 ^ 32 } (cset .RING_DB_BAD c 1 d)
  | .accepted => cset .RING_CMD_PROD c p d

/-- Address of entry i of a ring (R268). -/
def ringAddr (base log2 size i : Nat) : Nat := base + i % 2 ^ log2 * size

/-- The SEQ that the descriptor at command index i must carry (R271). -/
def wantSeq (d : Dev) (c i : Nat) : Nat := (cget d .RING_CMD_EXPECT c + ringUsed i (cget d .RING_CMD_CONS c)) % 2 ^ 32

/-- A read of the next descriptor is issued, as soon as the launch queue has room for what is read (R272, R273). -/
def descFetches (c : Nat) (d : Dev) : Dev :=
  let x := getCtx d c
  if cget d .RING_EN c = 1 ∧ cget d .RING_CMD_STOPPED c = 0 ∧ x.fetchNext ≠ cget d .RING_CMD_PROD c ∧
      x.queue.length + x.fetches.length + x.taken.length < 64 then
    setCtx d c { x with fetches := x.fetches ++ [{ idx := x.fetchNext }], fetchNext := (x.fetchNext + 1) % 65536 }
  else d

/-- Descriptors returned without a gap from the consumer index on. -/
def takenRun (x : Ctx) (cons : Nat) : Nat → Nat
  | 0 => 0
  | n + 1 => if x.taken.any (fun t => t.1 = cons % 65536) then 1 + takenRun x (cons + 1) n else 0

/-- Fetching stops at a descriptor (R272 item 3): event of type 5, record and count. What was read ahead of a gap is
given up, and is read again after the restart. -/
def descStops (e : Env) (c idx last : Nat) (d : Dev) : Dev :=
  let cons := cget d .RING_CMD_CONS c
  let body := packFields [(32, wantSeq d c idx), (32, last), (16, idx)]
  let k := takenRun (getCtx d c) cons 64
  let cut (x : Ctx) : Ctx := { x with fetches := [], fetchNext := (cons + k) % 65536, taken := x.taken.filter (fun t => ringUsed t.1 cons < k) }
  let d := cset .RING_CMD_STOPPED c 1 (updCtx d c cut)
  let d := pushEvent e c 5 body d
  let d := logError e { cls := 0x0501, level := 4, kind := 5, index := 2, ctx := some c, syn := idx } d
  satAdd e ⟨.RING_DESC_TIMEOUTS, c, 0, 0⟩ 1 d

/-- A fetch that has seen another mismatch (R272). -/
def fetchMissed (f : Fetch) : Fetch :=
  if f.first then { f with first := false, out := f.out - 1 } else { f with out := f.out - 1, missed := f.missed + 1 }

/-- Data of a descriptor read returns (R272, R450). The SEQ last read of a read that reached no memory is a free
value. -/
def descReturns (e : Env) (c idx n : Nat) (d : Dev) : Dev :=
  let x := getCtx d c
  match x.fetches.find? (fun f => f.idx = idx) with
  | none => d
  | some f =>
    let a := ringAddr (cget d .RING_CMD_BASE c) (cget d .RING_CMD_LOG2 c) 64 idx
    if f.out = 0 then d
    else if !inTabok a 64 then
      let (v, d) := takeFree (hostAccess e a false d)
      descStops e c idx v d
    else if descSeq n = wantSeq d c idx then
      setCtx d c { x with fetches := x.fetches.erase f, taken := x.taken ++ [(idx, n % 2 ^ 512)] }
    else
      let g := fetchMissed f
      if g.missed = 16 then descStops e c idx (descSeq n) d
      else setCtx d c { x with fetches := x.fetches.map (fun y => if y.idx = idx then g else y) }

/-- A re-read of a descriptor, of 16 in all (R272 item 1). -/
def descRereads (e : Env) (c idx : Nat) (d : Dev) : Dev :=
  let x := getCtx d c
  match x.fetches.find? (fun f => f.idx = idx) with
  | none => d
  | some f =>
    if f.first ∨ f.asked ≥ 16 then d
    else
      let g := { f with out := f.out + 1, asked := f.asked + 1 }
      satAdd e ⟨.RING_DESC_REREADS, c, 0, 0⟩ 1 (setCtx d c { x with fetches := x.fetches.map (fun y => if y.idx = idx then g else y) })

/-- A message may go: no sooner than the holdoff after the one before (R278). -/
def irqDue (e : Env) (hold : Nat) (last : Option Nat) : Bool :=
  match last with
  | none => true
  | some t => t + hold * 100 ≤ e.clk.ns

/-- A message of vector v. -/
def sendIrq (v : Nat) (d : Dev) : Dev := { d with outbox := d.outbox ++ [.irq v] }

/-- A completion record of context c was written: its message goes or is owed (R278). -/
def irqCq (e : Env) (c : Nat) (d : Dev) : Dev :=
  if cget d .RING_IRQ_EN_CQ c = 0 then d
  else if irqDue e (cget d .RING_IRQ_HOLDOFF c) (getCtx d c).irqCqAt then
    sendIrq (cget d .RING_IRQ_VEC_CQ c) (updCtx d c (fun x => { x with irqCqAt := some e.clk.ns, irqCq := false }))
  else updCtx d c (fun x => { x with irqCq := true })

/-- The same for an event entry. -/
def irqEq (e : Env) (c : Nat) (d : Dev) : Dev :=
  if cget d .RING_IRQ_EN_EQ c = 0 then d
  else if irqDue e (cget d .RING_IRQ_HOLDOFF c) (getCtx d c).irqEqAt then
    sendIrq (cget d .RING_IRQ_VEC_EQ c) (updCtx d c (fun x => { x with irqEqAt := some e.clk.ns, irqEq := false }))
  else updCtx d c (fun x => { x with irqEq := true })

/-- The image of a completion record (R274). -/
def cqImage (cseq : Nat) (r : Done) : Nat :=
  packFields [(32, cseq), (32, r.seq), (2, r.outcome), (1, b2n r.isAbort), (1, b2n r.late), (1, b2n r.ovf), (3, 0),
    (8, r.cause), (16, 0), (32, r.aux), (64, r.ft), (64, r.rc)]

/-- Free places of context c's completion ring. -/
def cqFree (d : Dev) (c : Nat) : Nat :=
  2 ^ cget d .RING_CQ_LOG2 c - 1 - ringUsed (cget d .RING_CQ_PROD c) (cget d .RING_CQ_CONS c)

/-- Nothing of what an outcome ends is in flight (R234): a launch that ended early has been quiesced, and one that
COMPLETED has no write on its way. -/
def mayWriteDone (d : Dev) (c : Nat) (r : Done) : Bool := r.ready || (r.ofLaunch && r.outcome = 0 && ctxQuiet d c)

/-- RING_CQ_FULL: an outcome waits for room (R275). -/
def cqFull (d : Dev) (c : Nat) : Bool :=
  cget d .RING_EN c = 1 && cqFree d c = 0 && (match (getCtx d c).waiting with
    | r :: _ => mayWriteDone d c r
    | [] => false)

/-- The launch in force ends with its record (R218, R226, R231). -/
def launchEnds (c : Nat) (r : Done) (d : Dev) : Dev :=
  match (getCtx d c).cur with
  | none => d
  | some l =>
    let d := if l.started ∧ l.useEn then epRelease c l.useSlot d else d
    let d := if r.outcome = 0 then d else epDropFill c l.seq d
    updCtx d c (fun x => { x with cur := none, ending := .running, decided := false })

/-- The oldest outcome is written, when nothing of its launch is in flight and the ring has room (R234, R274, R275). -/
def writeRecord (e : Env) (c : Nat) (d : Dev) : Dev :=
  match (getCtx d c).waiting with
  | [] => d
  | r :: rest =>
    if !mayWriteDone d c r ∨ cget d .RING_EN c = 0 ∨ cqFree d c = 0 then d
    else
      let prod := cget d .RING_CQ_PROD c
      let cseq := cget d .RING_CQ_CSEQ c
      let d := updCtx d c (fun x => { x with waiting := rest })
      let d := hostWrite e (ringAddr (cget d .RING_CQ_BASE c) (cget d .RING_CQ_LOG2 c) 32 prod) (leBytes (cqImage cseq r) 32) d
      let d := cset .RING_CQ_CSEQ c (cseq + 1) (cset .RING_CQ_PROD c (prod + 1) d)
      irqCq e c (if r.ofLaunch then launchEnds c r d else d)

/-- The envelope of an event entry (R276). -/
def eqEnvelope (e : Env) (eseq dropped : Nat) (v : EvEnt) : Nat :=
  packFields [(32, eseq), (8, v.type), (1, b2n (dropped ≠ 0)), (7, 0), (16, min dropped 0xFFFF), (64, e.clk.ft)]

/-- The oldest event entry is written, body first, when the ring has room (R276, R277). -/
def writeEvent (e : Env) (c : Nat) (d : Dev) : Dev :=
  let x := getCtx d c
  match x.evq with
  | [] => d
  | v :: rest =>
    if cget d .RING_EN c = 0 ∨ eqFree d c = 0 then d
    else
      let prod := cget d .RING_EQ_PROD c
      let eseq := cget d .RING_EQ_ESEQ c
      let a := ringAddr (cget d .RING_EQ_BASE c) (cget d .RING_EQ_LOG2 c) 128 prod
      let d := setCtx d c { x with evq := rest, dropped := 0 }
      let d := hostWrite e a (leBytes (eqEnvelope e eseq x.dropped v) 64) (hostWrite e (a + 64) (leBytes v.body 64) d)
      irqEq e c (cset .RING_EQ_ESEQ c (eseq + 1) (cset .RING_EQ_PROD c (prod + 1) d))

/-- Fetching of a stopped ring restarts (R272). -/
def retryFetch (c : Nat) (d : Dev) : Dev := cset .RING_CMD_STOPPED c 0 d

/-- RING_EN is set (R283). -/
def enableRing (c : Nat) (d : Dev) : Dev :=
  let zero : List Reg := [.RING_CMD_PROD, .RING_CMD_CONS, .RING_CQ_PROD, .RING_CQ_CONS, .RING_CQ_CSEQ, .RING_EQ_PROD,
    .RING_EQ_CONS, .RING_EQ_ESEQ, .RING_CMD_STOPPED]
  let d := zero.foldl (fun d r => cset r c 0 d) d
  let d := cset .RING_EN c 1 (cset .RING_CMD_EXPECT c (cget d .RING_CMD_SEQ0 c) d)
  updCtx d c (fun x => { x with dropped := 0, fetches := [], taken := [], fetchNext := 0 })

/-- RING_EN is cleared (R283). Event entries that the ring has room for are written first (notes/assumptions/37.md). -/
def disableRing (e : Env) (c : Nat) (d : Dev) : Dev :=
  let d := (getCtx d c).evq.foldl (fun d _ => writeEvent e c d) d
  cset .RING_EN c 0 (updCtx d c (fun x => { x with fetches := [], taken := [] }))

/-- RING_EN may be set (R283, R361, R389). -/
def ringSetOk (d : Dev) (c : Nat) : Bool :=
  rget d ⟨.CFG_STATE, 0, 0, 0⟩ = 3 && ctxState d c ≠ 0 && rget d ⟨.TEST_DRAINED, 0, 0, 0⟩ = 0

/-- RING_EN may be cleared (R283). -/
def ringClearOk (d : Dev) (c : Nat) : Bool :=
  ctxState d c ≤ 1 && (getCtx d c).queue.isEmpty && evHeld d c = 0

/-- A write of the word of RING_EN (R272, R282, R283). A write that is not accepted is ignored whole. -/
def writeRingEn (e : Env) (c v : Nat) (d : Dev) : Dev :=
  let en := b2n (bitOf v 0)
  let old := cget d .RING_EN c
  if en = 1 ∧ old = 0 ∧ ringSetOk d c = false ∨ en = 0 ∧ old = 1 ∧ ringClearOk d c = false then
    regAccess e (ringOff c 0) true d
  else
    let d := if en = 1 ∧ old = 0 then enableRing c d else if en = 0 ∧ old = 1 then disableRing e c d else d
    let d := if bitOf v 2 then retryFetch c d else d
    if bitOf v 3 then cset .RING_DB_BAD c 0 d else d

/-- A consumer index that would make the entries outstanding negative is not taken (R283). -/
def consOk (prod old new : Nat) : Bool := ringUsed prod new ≤ ringUsed prod old

/-- A write of a consumer index in bits 31 to 16. -/
def writeCons (e : Env) (rp rc : Reg) (c off v : Nat) (d : Dev) : Dev :=
  let new := bitsOf v 31 16
  if consOk (cget d rp c) (cget d rc c) new then cset rc c new d else regAccess e (ringOff c off) true d

/-- COMPLETION_RECORD_WRITE (R274, R275). -/
def execCompletionRecordWrite (c : Nat) (s : State) : Host.Outcome State Fault Refusal :=
  act s (c < 8) (fun e d => writeRecord e c d)

/-- EVENT_ENTRY_WRITE (R276). -/
def execEventEntryWrite (c : Nat) (s : State) : Host.Outcome State Fault Refusal :=
  act s (c < 8) (fun e d => writeEvent e c d)

/-- RING_DOORBELL (R270). -/
def execRingDoorbell (v : Word) (s : State) : Host.Outcome State Fault Refusal :=
  actT s true (fun e d => doorbell e v.toNat d)

/-- DESC_FETCH (R272). -/
def execDescFetch (c : Nat) (s : State) : Host.Outcome State Fault Refusal := act s (c < 8) (fun _ d => descFetches c d)

/-- DESC_READ_RETURN (R272). -/
def execDescReadReturn (c idx : Nat) (data : List Byte) (s : State) : Host.Outcome State Fault Refusal :=
  act s (c < 8) (fun e d => descReturns e c idx (leNat data) d)

/-- DESC_REREAD (R272). -/
def execDescReread (c idx : Nat) (s : State) : Host.Outcome State Fault Refusal :=
  act s (c < 8) (fun e d => descRereads e c idx d)

/-- RING_CMD_RETRY (R272, R282). -/
def execRingCmdRetry (c : Nat) (s : State) : Host.Outcome State Fault Refusal :=
  actT s (c < 8) (fun _ d => retryFetch c d)

/-- RING_EN (R283). -/
def execRingEn (c : Nat) (v : Word) (s : State) : Host.Outcome State Fault Refusal :=
  actT s (c < 8) (fun e d => writeRingEn e c v.toNat d)

/-- RING_CQ_CONS (R275, R283). -/
def execRingCqCons (c : Nat) (v : Word) (s : State) : Host.Outcome State Fault Refusal :=
  actT s (c < 8) (fun e d => writeCons e .RING_CQ_PROD .RING_CQ_CONS c 0x28 v.toNat d)

/-- RING_EQ_CONS (R277, R283). -/
def execRingEqCons (c : Nat) (v : Word) (s : State) : Host.Outcome State Fault Refusal :=
  actT s (c < 8) (fun e d => writeCons e .RING_EQ_PROD .RING_EQ_CONS c 0x38 v.toNat d)

end Sys2Proof.Machine
end

