-- ==== Sys2Proof/Machine/HbmCmds.lean ====
section
/-! DEFINITION. Commands of the memory tiers: reads of HBM from outside the tiles, evictions, scrubs, retirement of a
pseudo-channel and training (R179, R187 to R196). -/

namespace Sys2Proof.Machine

/-- The entries of the lines that n bytes from a touch. -/
def wcbMet (d : Dev) (a n : Nat) : Option WcbEnt := (linesOf a n).findSome? (fun l => wcbOf d l)

/-- The first entry of the lines that n bytes from a touch has a bad word (R193). -/
def spoilEntry (a n : Nat) (d : Dev) : Dev :=
  match wcbMet d a n with
  | some w => { d with wcb := d.wcb.map (fun x => if x.line = w.line then { x with bad := true } else x) }
  | none => d

/-- An answer to a read of HBM goes out. -/
def answerRead (who : HbmUser) (r : Option (List Byte)) (d : Dev) : Dev := { d with outbox := d.outbox ++ [.hbmData who r] }

/-- A read of HBM by the Tabok die or an Ethernet port (R180, R188, R190, R192, R193). -/
def readHbm (e : Env) (who : HbmUser) (a n : Nat) (d : Dev) : Dev :=
  match hbmRead d a n with
  | .ok bs => answerRead who (some bs) (hbmDone e a n d)
  | .beyond => answerRead who none (hbmBeyond e (max a (hbmCap d)) none none d)
  | r => answerRead who none (hbmFailed e a n r d)

/-- An idle entry of stack s is evicted (R187 item 4, R193). -/
def evictIdle (e : Env) (s line : Nat) (bad : Bool) (d : Dev) : Dev :=
  match wcbOf d line with
  | none => d
  | some w => if hbmStack (line * 64) ≠ s then d else if bad then evictFail e w d else evictEntry e w d

/-- What a check of a line finds: the error that the line holds, or what this read alone finds. -/
def lineFinds (d : Dev) (line : Nat) (f : Finding) : Finding :=
  if d.lineUE.contains line then .uncorrectable 0
  else match f, lineSlip d line with
    | .clean, some x => .corrected x
    | f, _ => f

/-- The patrol reads a line (R190, R191): its entry goes first; a corrected line is counted and written back; an
uncorrectable one is recorded and left. -/
def patrolLine (e : Env) (line : Nat) (f : Finding) (d : Dev) : Dev :=
  let a := line * 64
  let d := match wcbOf d line with
    | some w => evictEntry e w d
    | none => d
  match lineFinds d line f with
  | .corrected x => lineCorrected e line x { d with slips := slipsBut line d.slips }
  | .uncorrectable _ =>
    let d := { d with lineUE := if d.lineUE.contains line then d.lineUE else d.lineUE ++ [line] }
    logError e (hbmErr d 0x0113 a none none) (hbmUeSeen e a d)
  | .clean => d

/-- A patrol period of a stack ends (R191). -/
def patrolEnds (s : Nat) (d : Dev) : Dev :=
  let k : RegKey := ⟨.HBM_PATROL_PASSES, s, 0, 0⟩
  rset { d with patrolCe := d.patrolCe.filter (fun x => x.1 / 32 ≠ s), patrolOver := d.patrolOver.filter (fun x => x / 32 ≠ s) }
    k (rget d k + 1)

/-- Number of a store (R343). -/
def storeNo : StoreName → Nat
  | .tileStore => 0
  | .gradientStore => 1
  | .transposingBuffer => 2

/-- A word of a store is found uncorrectable. -/
def storeBad (st : StoreName) (w : Nat) (d : Dev) : Dev :=
  let add (l : List Nat) : List Nat := if l.contains w then l else l ++ [w]
  match st with
  | .tileStore => { d with tsUE := add d.tsUE }
  | .gradientStore => { d with gsUE := add d.gsUE }
  | .transposingBuffer => d

/-- The memory of a store. -/
def storeCoded : StoreName → Coded
  | .tileStore => .ts
  | .gradientStore => .gs
  | .transposingBuffer => .tb

/-- A word of a store is in the list of bad ones. -/
def storeIsBad (st : StoreName) (w : Nat) (d : Dev) : Bool :=
  match st with
  | .tileStore => d.tsUE.contains w
  | .gradientStore => d.gsUE.contains w
  | .transposingBuffer => d.tbUE.contains w

/-- What the scrub of a word finds: the error that the word holds, or what this read alone finds. The check syndrome of
a word that was bad before is a free value (notes/assumptions/99.md). -/
def wordFinds (st : StoreName) (w : Nat) (f : Finding) (d : Dev) : Finding × Dev :=
  match f, storeIsBad st w d, wordSlip d (storeCoded st) w with
  | .uncorrectable x, _, _ => (.uncorrectable x, d)
  | _, true, _ => let (u, d) := takeFree d; (.uncorrectable u, d)
  | .clean, false, some x => (.corrected x, d)
  | f, false, _ => (f, d)

/-- The scrub of a word of a tile store or a gradient store (R179): corrected and written back, or recorded and left;
the transposing buffer is not scrubbed. -/
def scrubWord (e : Env) (p : Nat) (st : StoreName) (word : Nat) (f : Finding) (d : Dev) : Dev :=
  let w := p * codedWords (storeCoded st) + word
  let n := storeNo st
  if n = 2 ∨ word ≥ codedWords (storeCoded st) then d
  else match wordFinds st w f d with
    | (.clean, d) => d
    | (.corrected x, d) => wordCorrected e p (storeCoded st) w x none none d
    | (.uncorrectable x, d) =>
      logError e (storeErr 0x0103 p n (word * 8) x none none) (satAdd e ⟨storeCounter n true, p, 0, 0⟩ 1 (storeBad st w d))

/-- HBM_RETIRE_RESULT of a request (R194, R195, R197). -/
def retireCode (d : Dev) (s : Nat) : Nat :=
  let st := rget d ⟨.HBM_STACK_STATE, s, 0, 0⟩
  let m := rget d ⟨.HBM_PC_RETIRED, s, 0, 0⟩
  if st = 3 then 2
  else if st ≠ 2 then 1
  else if m.testBit (rget d ⟨.HBM_RETIRE_PC, s, 0, 0⟩) then 3
  else if popCount m 32 ≥ 8 then 4 else 0

/-- HBM_RETIRE_GO (R194, R195): HBM_CAP follows from the migration begun. -/
def retireGo (e : Env) (s : Nat) (d : Dev) : Dev :=
  let pc := rget d ⟨.HBM_RETIRE_PC, s, 0, 0⟩
  let code := retireCode d s
  let d := rset d ⟨.HBM_RETIRE_RESULT, s, 0, 0⟩ code
  if code = 0 then
    rset { d with migs := tblSet (fun k => k) d.migs s (some (pc, 0)) none } ⟨.HBM_STACK_STATE, s, 0, 0⟩ 3
  else if code = 4 then logError e { cls := 0x0118, level := 4, kind := 1, index := s * 32 + pc, syn := pc } d
  else d

/-- Whether the chunk of a row changes its place in the migration of stack s (R195). -/
def rowMoves (d : Dev) (s q : Nat) : Bool := placeInStack q (retiredMask d s false) ≠ placeInStack q (retiredMask d s true)

/-- Rows that a migration of stack s judges: those below the new top (R182). -/
def migTop (d : Dev) (s : Nat) : Nat := 1572864 * (32 - popCount (retiredMask d s true) 32)

/-- The first of n rows from q that moves, or the row after them. -/
def nextMove (d : Dev) (s : Nat) : Nat → Nat → Nat
  | q, 0 => q
  | q, n + 1 => if rowMoves d s q ∨ q ≥ migTop d s then q else nextMove d s (q + 1) n

/-- Chunks from row q on that still move, over n rows. -/
def movesLeft (d : Dev) (s q : Nat) : Nat → Nat
  | 0 => 0
  | n + 1 => movesLeft d s q n + b2n (rowMoves d s (q + n))

/-- HBM_MIGRATE_LEFT (R197). -/
def migrateLeft (d : Dev) (s : Nat) : Nat :=
  match migOf d s with
  | some (_, q) => ceilDiv (movesLeft d s q (migTop d s - q)) 2
  | none => 0

/-- The address of the chunk of row q in stack s (R181). -/
def chunkAddr (s q : Nat) : Nat :=
  ((List.range 20).map (fun r => (20 * q + r) * 2048)).find? (fun a => hbmStack a = s) |>.getD 0

/-- A line of the moved chunk (R190, R195): an uncorrectable one is recorded, and reads so at its new place; one that
the code corrects arrives with a fresh code. -/
def moveLine (e : Env) (s : Nat) (d : Dev) (line : Nat) : Dev :=
  if d.lineUE.contains line then
    logError e (hbmErr d 0x0116 (line * 64) none none) (rbit d ⟨.HBM_MIGRATE_UE, s, 0, 0⟩)
  else match lineSlip d line with
    | some x => lineCorrected e line x { d with slips := slipsBut line d.slips }
    | none => d

/-- The migration of stack s is done (R195). -/
def migDone (s pc : Nat) (d : Dev) : Dev :=
  let k : RegKey := ⟨.HBM_PC_RETIRED, s, 0, 0⟩
  let d := rset (rset d k (rget d k ||| 2 ^ pc)) ⟨.HBM_STACK_STATE, s, 0, 0⟩ 2
  { d with migs := tblErase d.migs s, outbox := d.outbox ++ [.service "retirement done" s] }

/-- One chunk of a migration is moved (R195). Memory is kept by address, so the move changes no byte. -/
def moveChunk (e : Env) (s : Nat) (d : Dev) : Dev :=
  match migOf d s with
  | none => d
  | some (pc, q) =>
    let q := nextMove d s q 64
    let top := migTop d s
    let d := if q < top ∧ rowMoves d s q then (linesOf (chunkAddr s q) 2048).foldl (moveLine e s) d else d
    let r := nextMove d s (q + 1) 64
    if r ≥ top then migDone s pc d
    else { d with migs := tblSet (fun k => k) d.migs s (some (pc, r)) none }

/-- Every line of stack s is written with +0 and a fresh code (R390). -/
def zeroStack (s : Nat) (d : Dev) : Dev :=
  let other (line : Nat) : Bool := hbmStack (line * 64) ≠ s
  { d with hbm := d.hbm.filter (fun x => other (x.1 / 64)), lineUE := d.lineUE.filter other,
           slips := d.slips.filter (fun x => x.mem ≠ .hbm || other x.at_) }

/-- A stack ends training and zeroing (R196, R390): ready, or failed and the device suspect. -/
def stackTrained (e : Env) (s : Nat) (ok : Bool) (d : Dev) : Dev :=
  if tabokRuns d = false ∨ rget d ⟨.HBM_STACK_STATE, s, 0, 0⟩ ≥ 2 then d
  else if ok then rset (zeroStack s d) ⟨.HBM_STACK_STATE, s, 0, 0⟩ 2
  else
    logError e { cls := 0x0119, level := 4, kind := 1, index := s * 32, syn := s } (rset d ⟨.HBM_STACK_STATE, s, 0, 0⟩ 4)

/-- An entry's word reads bad. -/
def isBad : Finding → Bool
  | .uncorrectable _ => true
  | _ => false

/-- HBM_READ (R188). -/
def execHbmRead (who : HbmUser) (addr len : Nat) (entry : Finding) (s : State) : Host.Outcome State Fault Refusal :=
  act s true (fun e d => readHbm e who addr len (if isBad entry then spoilEntry addr len d else d))

/-- WCB_EVICT (R187). -/
def execWcbEvict (st line : Nat) (entry : Finding) (s : State) : Host.Outcome State Fault Refusal :=
  act s (st < 20) (fun e d => evictIdle e st line (isBad entry) d)

/-- PATROL_SCRUB (R191). -/
def execPatrolScrub (line : Nat) (f : Finding) (last : Bool) (s : State) : Host.Outcome State Fault Refusal :=
  act s (line < 32212254720) (fun e d =>
    let d := patrolLine e line f d
    if last then patrolEnds (hbmStack (line * 64)) d else d)

/-- TILE_SCRUB (R179). -/
def execTileScrub (p : Nat) (st : StoreName) (word : Nat) (f : Finding) (s : State) : Host.Outcome State Fault Refusal :=
  act s (p < 1440) (fun e d => scrubWord e p st word f d)

/-- HBM_RETIRE_GO (R195). -/
def execHbmRetireGo (st : Nat) (s : State) : Host.Outcome State Fault Refusal :=
  actT s (st < 20) (fun e d => retireGo e st d)

/-- HBM_CHUNK_MOVE (R195). -/
def execHbmChunkMove (st : Nat) (s : State) : Host.Outcome State Fault Refusal :=
  act s (st < 20) (fun e d => moveChunk e st d)

/-- HBM_STACK_TRAINED (R196). -/
def execHbmStackTrained (st : Nat) (ok : Bool) (s : State) : Host.Outcome State Fault Refusal :=
  act s (st < 20) (fun e d => stackTrained e st ok d)

end Sys2Proof.Machine
end

