-- ==== Sys2Proof/Machine/Packets.lean ====
section
/-! DEFINITION. Routed packets that end here, and packets that wait too long (R289 to R291, R297, R299). -/

namespace Sys2Proof.Machine

/-- A packet taken from the head of virtual channel v of buffer n has its E2E checked (R288, R291): what fails is
counted and discarded, at its link too (R318), and a request is answered with cause 5. -/
def checkE2E (e : Env) (n : Nat) (p : Pkt) (d : Dev) : Option Pkt × Dev :=
  if pktE2E p = p.e2e then (some p, d)
  else
    let x := linkOr n d
    let d := logError e (linkErr 0x0404 x.1 p.src) (satAdd e ⟨.LNK_E2E_BAD, 0, 0, 0⟩ 1 x.2)
    let d := if n < 36 then satAdd e ⟨.LNK_UNDELIV, n, 0, 0⟩ 1 d else d
    (none, if p.vc = 0 then injectPkt e none (undelivOf e d p 5) d else d)

/-- A packet of a type that ends here, at the head of virtual channel v of buffer n, is taken (R307, R308). -/
def takeHere (e : Env) (n v type : Nat) (d : Dev) : Option Pkt × Dev :=
  match takeHead d n v (fun q => q.pkt.type = type && routeOf d n q = .here) with
  | some (q, d) => checkE2E e n q.pkt d
  | none => (none, d)

/-- Fields of a WRITE (R290). -/
def wrTile (p : Pkt) : Nat := bitsOf p.body 15 0
def wrSpace (p : Pkt) : Nat := bitsOf p.body 16 16
def wrLand (p : Pkt) : Nat := bitsOf p.body 21 17
def wrUnit (p : Pkt) : Nat := bitsOf p.body 39 22
def wrSkip (p : Pkt) : Nat := bitsOf p.body 43 40
def wrKeep (p : Pkt) : Nat := bitsOf p.body 47 44
def pktTag (p : Pkt) : Nat := bitsOf p.body 63 48

/-- A WRITE is well formed (R290). -/
def writeOk (p : Pkt) : Bool :=
  0 < p.data.length && (p.data.length ≠ 16 || wrKeep p > wrSkip p || wrKeep p = 0)

/-- The write that a WRITE carries (R96, R290). -/
def writeArrival (p : Pkt) : Arrival :=
  let last := if wrKeep p = 0 then 16 else wrKeep p
  { src := 8192 + p.src, tile := wrTile p, space := wrSpace p, off := wrUnit p * 16 + wrSkip p, land := wrLand p,
    data := (p.data.take (p.data.length - 16 + last)).drop (wrSkip p), packet := some (p.src, pktTag p) }

/-- A malformed WRITE is rejected (R98, R290). -/
def writeMalformed (e : Env) (a : Arrival) (d : Dev) : Dev :=
  match placeOf d a.tile with
  | none => answerWrite e a true (rejectNowhere e a d)
  | some (p, h) => answerWrite e a true (rejectWrite e p (landOwner d p h a.land) a (rbit d ⟨.TILE_LAND_REJECT, p, 0, 0⟩))

/-- A WRITE arrives at its destination device and goes to the destination tile (R290). -/
def writeArrives (e : Env) (n cls : Nat) (d : Dev) : Dev :=
  match takeHere e n cls 1 d with
  | (none, d) => d
  | (some p, d) =>
    if writeOk p then { d with arrivals := d.arrivals ++ [writeArrival p] } else writeMalformed e (writeArrival p) d

/-- A WRITE_ACK returns (R289, R205, R207); one for a released tag is discarded and counted (R299). -/
def ackArrives (e : Env) (n cls : Nat) (d : Dev) : Dev :=
  match takeHere e n (2 + cls) 2 d with
  | (none, d) => d
  | (some p, d) =>
    match d.tags.find? (fun x => x.1 = pktTag p) with
    | none => satAdd e ⟨.LNK_LATE_RESP, 0, 0, 0⟩ 1 d
    | some x =>
      let d := { d with tags := d.tags.filter (fun y => y.1 ≠ x.1) }
      if bitsOf p.body 1 0 = 0 then ownerLanded x.2 d else ownerFailed e x.2 0 d

/-- An UNDELIV returns (R291, R207). -/
def undelivArrives (e : Env) (n cls : Nat) (d : Dev) : Dev :=
  match takeHere e n (2 + cls) 3 d with
  | (none, d) => d
  | (some p, d) => tagFailed e (pktTag p) (bitsOf p.body 9 6) d

/-- A routed packet has waited LNK_HOLD_LIMIT in a buffer (R299): the pos-th of its virtual channel. -/
def holdEnds (e : Env) (n vc pos : Nat) (d : Dev) : Dev :=
  match ((getLink d n).rx.filter (fun q => pktVc q.pkt = vc))[pos]? with
  | none => d
  | some q =>
    if q.pkt.vc = 3 then d
    else freeWords n q.pkt (undeliver e n 4 q (updLink d n (fun l => { l with rx := l.rx.erase q })))

/-- A tag has waited four times LNK_HOLD_LIMIT (R299). -/
def tagTimesOut (e : Env) (t : Nat) (d : Dev) : Dev := if d.tags.any (fun x => x.1 = t) then tagFailed e t 4 d else d

/-- WRITE (R290). Buffer 36 holds packets for the device's own address. -/
def execWrite (n cls : Nat) (s : State) : Host.Outcome State Fault Refusal :=
  act s (n ≤ 36 && cls < 2) (fun e d => writeArrives e n cls d)

/-- WRITE_ACK (R289). -/
def execWriteAck (n cls : Nat) (s : State) : Host.Outcome State Fault Refusal :=
  act s (n ≤ 36 && cls < 2) (fun e d => ackArrives e n cls d)

/-- UNDELIV (R291). -/
def execUndeliv (n cls : Nat) (s : State) : Host.Outcome State Fault Refusal :=
  act s (n ≤ 36 && cls < 2) (fun e d => undelivArrives e n cls d)

/-- HOLD_LIMIT (R299). -/
def execHoldLimit (n vc pos : Nat) (s : State) : Host.Outcome State Fault Refusal :=
  act s (n ≤ 36 && vc < 8) (fun e d => holdEnds e n vc pos d)

/-- TAG_TIMEOUT (R299). -/
def execTagTimeout (tag : Nat) (s : State) : Host.Outcome State Fault Refusal :=
  act s (tag < 65536) (fun e d => tagTimesOut e tag d)

end Sys2Proof.Machine
end

