-- ==== Sys2Proof/Machine/Records.lean ====
section
/-! DEFINITION. Decoding of records into windows (R81, R86, R90), their completion (R93), the age exception (R220),
the exchange of a folded tile's transposing buffer (R166) and the wait limit of the hazard detector (R256). -/

namespace Sys2Proof.Machine

/-- What a context may name on a logical tile (R86, R199, R240). -/
def allotOf (d : Dev) (p h c : Nat) : Allot :=
  { pens := rget d ⟨.TILE_PEN_MASK, p, c, h⟩, lands := rget d ⟨.TILE_LAND_MASK, p, c, h⟩,
    digs := rget d ⟨.TILE_DIG_MASK, p, c, h⟩, opds := rget d ⟨.TILE_OPD_LIMIT, p, c, h⟩,
    dma := ((List.range 4).map (fun n => if (rget d ⟨.TILE_DMA_ALLOW, p, n, 0⟩).testBit c then 2 ^ n else 0)).sum,
    heritage := heritageOf (getCtx d c).arith }

/-- Byte offset of the record of an index (R81). -/
def recordOff (d : Dev) (p h c idx : Nat) : Nat := rget d ⟨.TILE_STREAM_BASE, p, c, h⟩ * 16 + 16 * idx

/-- The image of a descriptor entry; 0 for none and for an entry outside the allotment, which R86 refuses. -/
def opdImage (d : Dev) (p h c lim n : Nat) : Except StoreRes Nat :=
  if n = 1023 ∨ n ≥ lim then .ok 0
  else match storeRead d p h c 0 (0x1F0000 + 32 * (rget d ⟨.TILE_OPD_BASE, p, c, h⟩ + opdNo h n)) 32 with
    | .ok bs => .ok (leNat bs)
    | r => .error r

/-- The window entry of the record at an index, with the images of its descriptors (R82, R87). -/
def fetchRecord (d : Dev) (p h c idx : Nat) : Except StoreRes WinEnt :=
  match storeRead d p h c 0 (recordOff d p h c idx) 16 with
  | .ok bs =>
    let raw := leNat bs
    let lim := rget d ⟨.TILE_OPD_LIMIT, p, c, h⟩
    match opdImage d p h c lim (opdAOf raw), opdImage d p h c lim (opdBOf raw), opdImage d p h c lim (opdCOf raw),
        opdImage d p h c lim (opdDOf raw) with
    | .ok a, .ok b, .ok x, .ok y => .ok { idx := idx, raw := raw, a := a, b := b, c := x, d := y }
    | .error r, _, _, _ => .error r
    | _, .error r, _, _ => .error r
    | _, _, .error r, _ => .error r
    | _, _, _, .error r => .error r
  | r => .error r

/-- Decoding of a stream stops. -/
def stopDecode (p h c : Nat) (d : Dev) : Dev :=
  setStrm d p h c { getStrm d p h c with decoding := false }

/-- One of the faults of a record, which its report names: where there are several, a free value says which
(notes/assumptions/94.md). -/
def pickFault {α : Type} (none_ : α) (l : List α) (d : Dev) : α × Dev :=
  match l with
  | [x] => (x, d)
  | l => let f := takeFree d; (l.getD (f.1 % l.length) none_, f.2)

/-- The record at an index is malformed, `opds` the descriptors at fault (R86, R343). -/
def malformedRecord (e : Env) (p h c idx : Nat) (opds : List Nat) (d : Dev) : Dev :=
  let x := pickFault 0x3FF opds d
  failWith e c 1 { cls := 0x0201, level := 3, index := p, op := some (idx, tblGet (getStrm d p h c).issues idx 0),
                   syn := recordOff d p h c idx % 2 ^ 24 + x.1 * 2 ^ 24 } (rbit (stopDecode p h c x.2) ⟨.TILE_MALFORMED, p, 0, 0⟩)

/-- The record at an index is out of bounds: the descriptor, the store and the byte of each footprint outside (R86,
R343). -/
def boundsRecord (e : Env) (p h c idx : Nat) (outs : List (Nat × Nat × Nat)) (d : Dev) : Dev :=
  let x := pickFault (0x3FF, 0, 0) outs d
  failWith e c 2 { cls := 0x0202, level := 3, index := p, op := some (idx, tblGet (getStrm d p h c).issues idx 0),
                   syn := x.1.2.2 % 2 ^ 24 + x.1.2.1 * 2 ^ 24 + x.1.1 * 2 ^ 26 } (rbit (stopDecode p h c x.2) ⟨.TILE_BOUNDS, p, 0, 0⟩)

/-- Decoding goes on after a well-formed record: the next index, the loops as decoding follows them, and whether it
goes on (R84, R85). -/
def decodeOn (w : WinEnt) (s : Strm) : Strm :=
  if engineOf w.raw ≠ 6 then { s with next := w.idx + 1 }
  else match opcodeOf w.raw, s.decLoops with
    | 0x01, l => { s with next := w.idx + 1, decLoops := (w.idx + 1, paramOf w.a 0) :: l }
    | 0x02, (b, n) :: l => { s with next := if n - 1 = 0 then w.idx + 1 else b, decLoops := loopNext ((b, n) :: l) }
    | 0x04, _ => { s with next := w.idx + 1, decoding := false }
    | _, _ => { s with next := w.idx + 1 }

/-- The byte ranges that decoding reads: the record, then the descriptors that it names (R82, R87). -/
def decodeRanges (d : Dev) (p h c idx : Nat) (w : WinEnt) : List (Nat × Nat) :=
  (recordOff d p h c idx, 16) ::
    ([opdAOf w.raw, opdBOf w.raw, opdCOf w.raw, opdDOf w.raw].filter
      (fun n => n ≠ 1023 && n < rget d ⟨.TILE_OPD_LIMIT, p, c, h⟩)).map
      (fun n => (0x1F0000 + 32 * (rget d ⟨.TILE_OPD_BASE, p, c, h⟩ + opdNo h n), 32))

/-- What the reads of decoding find beside what they deliver (R179, R190, R193). A record that cannot be read names no
descriptor. -/
def decodeSeen (e : Env) (p h c idx : Nat) (w : WinEnt) (d : Dev) : Dev :=
  let op := some (idx, tblGet (getStrm d p h c).issues idx 0)
  let d := (decodeRanges d p h c idx w).foldl (fun d r => storeSeen e p h c 0 r.1 r.2 op d) d
  (decodeRanges d p h c idx w).foldl (fun d r => storeMet e p h c 0 r.1 r.2 d) d

/-- A record enters its window (R90), the last in the order of entries of the tile (R166). -/
def enterWindow (p h c : Nat) (w : WinEnt) (d : Dev) : Dev :=
  let t := getTile d p
  let s := getStrm d p h c
  waitsMoved p (setTile (setStrm d p h c (decodeOn w { s with win := s.win ++ [{ w with entered := t.entries }] })) p
    { t with entries := t.entries + 1 })

/-- A record is judged: its own bytes, then malformation, then footprints (R86). -/
def decodeRecord (e : Env) (p h c : Nat) (d : Dev) : Dev :=
  let s := getStrm d p h c
  if !s.on || !s.decoding || s.win.length ≥ 16 then d
  else
    let off := recordOff d p h c s.next
    if !inShare d p h c 0 off (off + 15) then boundsRecord e p h c s.next [(0x3FF, 0, firstOutside d p h c 0 off)] d
    else match fetchRecord d p h c s.next with
      | .error r =>
        readFail e p c (some (s.next, tblGet s.issues s.next 0)) r (decodeSeen e p h c s.next { raw := 2 ^ 128 - 1 } (stopDecode p h c d))
      | .ok w =>
        let d := decodeSeen e p h c s.next w d
        match judgeForm (allotOf d p h c) s.decLoops.length w with
        | .ok => match judgeBounds d p h c w with
          | .bounds l => boundsRecord e p h c s.next l d
          | _ => enterWindow p h c w d
        | .malformed l => malformedRecord e p h c s.next l d
        | .bounds l => boundsRecord e p h c s.next l d

/-- The record at a place of a window completes (R93). -/
def completeRecord (e : Env) (p h c n : Nat) (d : Dev) : Dev :=
  match (getStrm d p h c).win[n]? with
  | some w => if mayComplete n w then completeAt e p h c n w d else d
  | none => d

/-- 65,536 TCLK at 1,750 MHz, in whole nanoseconds rounded up (R220, R373). -/
def ageNs : Nat := 37450

/-- The age exception of R220 for the record at place n: it has met rules 1 to 4 since fabric time `began`. -/
def ageRecord (e : Env) (p h c n began : Nat) (d : Dev) : Dev :=
  match (withOlder [] (getStrm d p h c).win)[n]? with
  | some x =>
    if !x.2.issued ∧ x.2.aged = none ∧ metRules d p h x.1 x.2 ∧ began + ageNs ≤ e.clk.ft then
      putEnt p h c n { x.2 with aged := some began } d
    else d
  | none => d

/-- HBM address of the transposing buffer image of a folded tile (R165). -/
def tbImageAt (d : Dev) (p : Nat) : Nat := rbase d ⟨.TILE_FOLD_BACK, p, 0, 0⟩ + 0x5F0000

/-- The record of logical tile h for which the buffer changes its owner, with its context: the oldest unissued one of the
tile that touches the buffer (R166; notes/assumptions/102.md). -/
def wantsTb (d : Dev) (p h : Nat) : Option (Nat × WinEnt) :=
  (oldestTb d p h).filter (fun x => (oldestTb d p (1 - h)).all (fun y => x.2.entered < y.2.entered))

/-- The owner has an issued record that touches the buffer (R166). -/
def holdsTb (d : Dev) (p h : Nat) : Bool :=
  (List.range 8).any (fun c => (getStrm d p h c).win.any (fun w => w.issued && touchesTb w))

/-- The buffer and the image change places, and the owner changes (R166). -/
def exchangeTb (e : Env) (p : Nat) (d : Dev) : Dev :=
  let o := rget d ⟨.TILE_FOLD_TB_OWNER, p, 0, 0⟩
  match wantsTb d p (1 - o) with
  | none => d
  | some (c, w) =>
    if !isFolded d p || holdsTb d p o then d
    else
      let at_ := tbImageAt d p
      let op := some (w.idx, tblGet (getStrm d p (1 - o) c).issues w.idx 0)
      let seen := hbmDone e at_ 65536 (storeSeen e p o c 2 0 65536 op d)
      match storeRead d p o c 2 0 65536, hbmRead d at_ 65536 with
      | .ok mine, .ok image =>
        let d := hbmAccept e (some c) at_ mine seen
        rset (storeWrite e p o c 2 0 image d) ⟨.TILE_FOLD_TB_OWNER, p, 0, 0⟩ (1 - o)
      | .ok _, .bad l => readFail e p c op (.badHbm l) seen
      | .ok _, .lost l => readFail e p c op (.lostHbm l) seen
      | .ok _, .beyond => readFail e p c op (.beyond at_) seen
      | r, _ => readFail e p c op r seen

/-- Context c has a record in flight, or a transfer active or held, on a tile. -/
def busyOn (d : Dev) (p c : Nat) : Bool :=
  (getStrm d p 0 c).win.any (·.issued) || (getStrm d p 1 c).win.any (·.issued) ||
  (List.range 4).any (fun n => !(transfersOf d p 0 c n).isEmpty || !(transfersOf d p 1 c n).isEmpty)

/-- The pennants of a record whose waits are not satisfied. -/
def awaitedPennants (d : Dev) (p h : Nat) (older : List WinEnt) (w : WinEnt) : List Nat :=
  ((waitsOf w.raw).filter (fun n =>
    (waitsOf w.raw).count n + ((older.filter (fun o => !o.issued)).map (fun o => (waitsOf o.raw).count n)).sum
      > rget d ⟨.TILE_PEN_COUNT, p, penNo h n, 0⟩)).eraseDups

/-- The pennant that a report of KIND 7 names, of those awaited: R257 does not say which, so the choice is free. -/
def awaitedPennant (d : Dev) (p h : Nat) (older : List WinEnt) (w : WinEnt) : Nat × Dev :=
  match awaitedPennants d p h older w with
  | [] => (0, d)
  | n :: ns => let (u, d) := takeFree d; ((n :: ns).getD (u % (ns.length + 1)) n, d)

/-- Fields of a report of KIND 7 that have no value (R257). -/
def waitLoose (d : Dev) (p h : Nat) (older : List WinEnt) (w : WinEnt) : Nat :=
  hazLoose 7 + (if lwEnOf w.raw then 0 else hazCountBits + hazTargetBits) +
  (if (awaitedPennants d p h older w).isEmpty then hazOtherBits else 0)

/-- KIND 7 (R256): the waits of the record at place n have stayed unsatisfied for DBG_WAIT_LIMIT with nothing in
flight; one report for each wait. -/
def waitLimit (e : Env) (p h c n : Nat) (d : Dev) : Dev :=
  match (withOlder [] (getStrm d p h c).win)[n]? with
  | some x =>
    if hazOn d c ∧ !x.2.issued ∧ !x.2.hazWait ∧ !(waitsMet d p h x.1 x.2 && landMet d p h x.2) ∧ !busyOn d p c then
      let ln := landNo h (lwIdxOf x.2.raw)
      let land (k : Nat) : Nat := if lwEnOf x.2.raw then k else 0
      let (pen, d') := awaitedPennant d p h x.1 x.2
      let z : Haz := ⟨7, x.2.idx, tblGet (getStrm d p h c).issues x.2.idx 0, pen, 0, land ln, 0,
        land (rget d ⟨.TILE_LAND_COUNT, p, ln, 0⟩), land (rget d ⟨.TILE_LAND_BASE, p, ln, 0⟩), land (lwTargetOf x.2.raw),
        waitLoose d p h x.1 x.2⟩
      hazReport e p h c z (putEnt p h c n { x.2 with hazWait := true } d')
    else d
  | none => d

/-- RECORD_DECODE (R90). -/
def execRecordDecode (p h c : Nat) (s : State) : Host.Outcome State Fault Refusal :=
  act s (placeOk p h c) (fun e d => decodeRecord e p h c d)

/-- RECORD_COMPLETE (R93). -/
def execRecordComplete (p h c n : Nat) (s : State) : Host.Outcome State Fault Refusal :=
  act s (placeOk p h c) (fun e d => completeRecord e p h c n d)

/-- RECORD_AGED (R220). -/
def execRecordAged (p h c n began : Nat) (s : State) : Host.Outcome State Fault Refusal :=
  act s (placeOk p h c) (fun e d => ageRecord e p h c n began d)

/-- TB_OWNER_EXCHANGE (R166). -/
def execTbOwnerExchange (p : Nat) (s : State) : Host.Outcome State Fault Refusal :=
  act s (p < 1440) (fun e d => exchangeTb e p d)

/-- HAZARD_WAIT_LIMIT (R256). -/
def execHazardWaitLimit (p h c n : Nat) (s : State) : Host.Outcome State Fault Refusal :=
  act s (placeOk p h c) (fun e d => waitLimit e p h c n d)

end Sys2Proof.Machine
end

