-- ==== Sys2Proof/Machine/Placement.lean ====
section
/-! DEFINITION. Changes of placement: a logical tile's whole state moves to another place, and tiles are retired (R40,
R162 to R169, R362). -/

namespace Sys2Proof.Machine

/-- The register that names the logical tile at a place (R106). -/
def logReg (h : Nat) : Reg := if h = 0 then .TILE_LOG_A else .TILE_LOG_B

/-- Fields of which each logical tile has its own copy for each context. -/
def movedRegs : List Reg :=
  [.TILE_TS_BASE, .TILE_TS_LIMIT, .TILE_GS_BASE, .TILE_GS_LIMIT, .TILE_OPD_BASE, .TILE_OPD_LIMIT, .TILE_PEN_MASK,
   .TILE_LAND_MASK, .TILE_STREAM_BASE, .TILE_DIG_MASK, .TILE_CTX_OVF, .TILE_SRL_KEY, .TILE_SRL_SALT, .TILE_SRL_STEP, .TILE_AGED]

/-- How many of n resources a move takes along: half of them where a folded tile is involved (R163, R164). -/
def movedSpan (d0 d1 : Dev) (m : Move) (n : Nat) : Nat :=
  if m.fromH = 0 ∧ m.toH = 0 ∧ isFolded d0 m.fromP = false ∧ isFolded d1 m.toP = false then n else n / 2

/-- A place is cleared. -/
def clearPlace (d : Dev) (p h : Nat) : Dev :=
  let d := (List.range 8).foldl (fun d c =>
    movedRegs.foldl (fun d r => rset d ⟨r, p, c, h⟩ r.reset) (setStrm d p h c {})) d
  rset { d with lineTags := d.lineTags.filter (fun t => !(t.p = p && t.h = h)) } ⟨logReg h, p, 0, 0⟩ 0xFFFF

/-- Fields for each context move, with the streams. -/
def moveCtxs (d0 : Dev) (m : Move) (d : Dev) : Dev :=
  (List.range 8).foldl (fun d c =>
    movedRegs.foldl (fun d r => rset d ⟨r, m.toP, c, m.toH⟩ (rget d0 ⟨r, m.fromP, c, m.fromH⟩))
      (setStrm d m.toP m.toH c (getStrm d0 m.fromP m.fromH c))) d

/-- Pennants, landing counters with their shadow bases, and digest slots move (R164, R256). -/
def moveCounts (d0 : Dev) (m : Move) (d : Dev) : Dev :=
  let copy (r : Reg) (no : Nat → Nat → Nat) (d : Dev) (n : Nat) : Dev :=
    rset d ⟨r, m.toP, no m.toH n, 0⟩ (rget d0 ⟨r, m.fromP, no m.fromH n, 0⟩)
  let d := (List.range (movedSpan d0 d m 64)).foldl (copy .TILE_PEN_COUNT penNo) d
  let d := (List.range (movedSpan d0 d m 32)).foldl (fun d n => copy .TILE_LAND_BASE landNo (copy .TILE_LAND_COUNT landNo d n) n) d
  let d := (List.range (movedSpan d0 d m 32)).foldl (copy .TILE_DIG slotNo) d
  let base (t : List (Nat × Nat)) (n : Nat) : List (Nat × Nat) :=
    tblSet (fun k => k) t (m.toP * 32 + landNo m.toH n) (shadowBase d0 m.fromP (landNo m.fromH n)) 0
  { d with shadowBases := (List.range (movedSpan d0 d m 32)).foldl base d.shadowBases }

/-- A word at a location reads uncorrectable from now on. -/
def spoil (d : Dev) : Loc → Dev
  | .ts a => { d with tsUE := d.tsUE ++ [a / 8] }
  | .gs a => { d with gsUE := d.gsUE ++ [a / 8] }
  | .tb a => { d with tbUE := d.tbUE ++ [a / 8] }
  | .hbm a => { d with lineUE := d.lineUE ++ [a / 64] }

/-- Words or lines at some of n locations that cannot be read are as bad at the places the bytes move to. -/
def spoilSame (d0 : Dev) (n : Nat) (src dst : Nat → Loc) (d : Dev) : Dev :=
  ((List.range n).filter (fun i => i % 8 = 0 && (locBad d0 0 i (src i)).isSome)).foldl (fun d i => spoil d (dst i)) d

/-- n bytes from lo of a context's share move, with the words that read uncorrectable. -/
def moveBytes (e : Env) (d0 : Dev) (m : Move) (c space lo n : Nat) (d : Dev) : Dev :=
  let src (i : Nat) : Loc := locOf d0 m.fromP m.fromH c space (lo + i)
  let d := storeWrite e m.toP m.toH c space lo ((List.range n).map (fun i => locByte d0 (src i))) d
  spoilSame d0 n src (fun i => locOf d m.toP m.toH c space (lo + i)) d

/-- The shares and descriptors of a context move. -/
def moveShares (e : Env) (d0 : Dev) (m : Move) (d : Dev) (c : Nat) : Dev :=
  if (getStrm d0 m.fromP m.fromH c).on then
    let ts := shareOf d0 m.fromP m.fromH c 0
    let gs := shareOf d0 m.fromP m.fromH c 1
    let base := rget d0 ⟨.TILE_OPD_BASE, m.fromP, c, m.fromH⟩
    let n := rget d0 ⟨.TILE_OPD_LIMIT, m.fromP, c, m.fromH⟩
    let opd (p h : Nat) : Nat := p * 2 ^ 21 + 0x1F0000 + 32 * opdNo h base
    let d := moveBytes e d0 m c 1 gs.1 (gs.2 - gs.1) (moveBytes e d0 m c 0 ts.1 (ts.2 - ts.1) d)
    { d with ts := memWrite d.ts (opd m.toP m.toH) (memRead d0.ts (opd m.fromP m.fromH) (32 * n)) }
  else d

/-- Where byte i of the transposing buffer of a logical tile lies: on the tile, or in its image in HBM (R166). -/
def bufferLoc (d : Dev) (p h i : Nat) : Loc :=
  if isFolded d p = false ∨ rget d ⟨.TILE_FOLD_TB_OWNER, p, 0, 0⟩ = h then .tb (p * 2 ^ 16 + i) else .hbm (tbImageAt d p + i)

/-- The transposing buffer moves, with the words that read uncorrectable. -/
def moveBuffer (e : Env) (d0 : Dev) (m : Move) (d : Dev) : Dev :=
  let src := bufferLoc d0 m.fromP m.fromH
  let bs := (List.range 65536).map (fun i => locByte d0 (src i))
  let d := match bufferLoc d m.toP m.toH 0 with
    | .hbm a => hbmAccept e none a bs d
    | _ => tbPut (m.toP * 2 ^ 16) bs d
  spoilSame d0 65536 src (bufferLoc d m.toP m.toH) d

/-- Tags of lines and halts of a logical tile move. -/
def moveTags (d0 : Dev) (m : Move) (d : Dev) : Dev :=
  let tag (t : LineTag) : LineTag := { t with p := m.toP, h := m.toH, counter := landNo m.toH (t.counter - landNo m.fromH 0) }
  let d := { d with lineTags := d.lineTags ++ (d0.lineTags.filter (fun t => t.p = m.fromP && t.h = m.fromH)).map tag }
  let d := setTile d m.toP { getTile d m.toP with halt := (getTile d m.toP).halt ||| (getTile d0 m.fromP).halt }
  (List.range 4).foldl (fun d n =>
    let ch := getChan d m.toP n
    let d := setChan d m.toP n { ch with stopped := ch.stopped ||| (getChan d0 m.fromP n).stopped }
    let k : RegKey := ⟨.TILE_DMA_ALLOW, m.toP, n, 0⟩
    rset d k (rget d k ||| rget d0 ⟨.TILE_DMA_ALLOW, m.fromP, n, 0⟩)) d

/-- The tile takes its logical tile: the number, and TILE_STATE. -/
def nameTile (d0 : Dev) (d : Dev) (m : Move) : Dev :=
  rset (rset d ⟨logReg m.toH, m.toP, 0, 0⟩ (rget d0 ⟨logReg m.fromH, m.fromP, 0, 0⟩)) ⟨.TILE_STATE, m.toP, 0, 0⟩ 1

/-- A logical tile's whole state goes to its new place (R169). -/
def moveState (e : Env) (d0 : Dev) (d : Dev) (m : Move) : Dev :=
  let d := moveCounts d0 m (moveCtxs d0 m d)
  moveTags d0 m (moveBuffer e d0 m ((List.range 8).foldl (moveShares e d0 m) d))

/-- A physical tile that carried a logical tile and carries none has been rotated out (R106). -/
def vacate (d : Dev) (m : Move) : Dev :=
  if rget d ⟨.TILE_LOG_A, m.fromP, 0, 0⟩ = 0xFFFF ∧ rget d ⟨.TILE_LOG_B, m.fromP, 0, 0⟩ = 0xFFFF then
    setTile (rset d ⟨.TILE_STATE, m.fromP, 0, 0⟩ 3) m.fromP { getTile d m.fromP with halt := 0 }
  else d

/-- A retired tile that carries nothing takes TILE_STATE 4 (R362). -/
def retireTile (d : Dev) (p : Nat) : Dev :=
  let st := tileState d p
  if st = 1 ∨ st = 3 then rset d ⟨.TILE_STATE, p, 0, 0⟩ 4 else d

/-- Work ordered before the advance is complete at a place: nothing of it is in flight (R40). -/
def placeQuiet (d : Dev) (p h : Nat) : Bool := (List.range 8).all (fun c => (getStrm d p h c).win.all (fun w => !w.issued))

/-- Every transfer of the device has reached completion. None was launched after the advance, since every context waits
(R40, R208). -/
def transfersOver (d : Dev) : Bool := d.chans.all (fun x => x.2.act.isNone && x.2.shd.isNone && x.2.held.all (·.complete))

/-- A list of moves makes sense: places left and taken are each named once, and a place taken is free or left. -/
def movesOk (d : Dev) (ms : List Move) : Bool :=
  let src := ms.map (fun m => (m.fromP, m.fromH))
  let dst := ms.map (fun m => (m.toP, m.toH))
  src.eraseDups.length = src.length && dst.eraseDups.length = dst.length &&
  ms.all (fun m => rget d ⟨logReg m.fromH, m.fromP, 0, 0⟩ ≠ 0xFFFF &&
    (src.contains (m.toP, m.toH) || rget d ⟨logReg m.toH, m.toP, 0, 0⟩ = 0xFFFF) &&
    1 ≤ tileState d m.toP && tileState d m.toP ≤ 3)

/-- Nothing that a list of moves touches is under way (R40, R208). -/
def movesQuiet (d : Dev) (ms : List Move) : Bool := transfersOver d && ms.all (fun m => placeQuiet d m.fromP m.fromH)

/-- Logical tiles move (R169): their places are left, named anew and filled. -/
def makeMoves (e : Env) (ms : List Move) (d : Dev) : Dev :=
  let d1 := ms.foldl (fun x m => clearPlace x m.fromP m.fromH) d
  ms.foldl vacate (ms.foldl (moveState e d) (ms.foldl (nameTile d) d1))

/-- Moves the other way. -/
def movesBack (ms : List Move) : List Move :=
  ms.map (fun m => { fromP := m.toP, fromH := m.toH, toP := m.fromP, toH := m.fromH })

/-- The newest change that a set has overtaken is taken back, once its places are quiet (R43); one that can no longer be
is given up. -/
def takeBack (e : Env) (d : Dev) : Dev :=
  match d.undo with
  | [] => d
  | ms :: rest =>
    if !movesQuiet d ms then d
    else if movesOk d ms then { makeMoves e ms d with undo := rest } else { d with undo := rest }

/-- The mapping in force at a coordinate that was set is restored, as far as the places are quiet (R43). -/
def restoreMap (e : Env) (d : Dev) : Dev := (List.range d.undo.length).foldl (fun d _ => takeBack e d) d

/-- The changes made above coordinate v are to be taken back, newest first, and fired changes above it are not made
(R43). -/
def overtake (v : Nat) (d : Dev) : Dev :=
  { d with placeDue := d.placeDue.filter (· ≤ v), mapLog := d.mapLog.filter (fun x => x.1 ≤ v),
           undo := d.undo ++ ((d.mapLog.filter (fun x => v < x.1)).reverse.map (fun x => movesBack x.2)) }

/-- A change of placement (R40, R169, R208, R362): what a set has overtaken goes back first; then the oldest fired change
that is due is made, with its moves; where none is due, tiles that carry nothing are retired. -/
def changePlacement (e : Env) (ms : List Move) (retired : List Nat) (d : Dev) : Dev :=
  let d := restoreMap e d
  match d.undo, d.placeDue with
  | [], [] => if ms = [] then retired.foldl retireTile d else d
  | [], v :: rest =>
    if movesOk d ms && movesQuiet d ms then
      retired.foldl retireTile { makeMoves e ms d with placeDue := rest, mapLog := d.mapLog ++ [(v, ms)] }
    else d
  | _, _ => d

/-- PLACEMENT_CHANGE (R40). -/
def execPlacementChange (moves : List Move) (retired : List Nat) (s : State) : Host.Outcome State Fault Refusal :=
  act s (moves.all (fun m => m.fromP < 1440 && m.fromH < 2 && m.toP < 1440 && m.toH < 2) && retired.all (fun p => p < 1440))
    (fun e d => changePlacement e moves retired d)

end Sys2Proof.Machine
end

