-- ==== Sys2Proof/Machine/RunCoord.lean ====
section
/-! DEFINITION. The run coordinate, collective positions, armed events and the coordinate set (R31 to R43, R49, R51,
R52, R325, R447). -/

namespace Sys2Proof.Machine

/-- Fields of a run coordinate (R31). -/
def rcStep (v : Nat) : Nat := bitsOf v 63 24
def rcPhase (v : Nat) : Nat := bitsOf v 23 20
def rcMb (v : Nat) : Nat := bitsOf v 19 10
def rcLayer (v : Nat) : Nat := bitsOf v 9 0

/-- A step boundary: phase, micro-batch and layer 0. -/
def rcBoundary (v : Nat) : Bool := v % 2 ^ 24 = 0

/-- Firing order of a kind (R37); none for a reserved code. -/
def kindOrder : Nat → Option Nat
  | 7 => some 1
  | 3 => some 2
  | 6 => some 3
  | 5 => some 4
  | 2 => some 5
  | 1 => some 6
  | 4 => some 7
  | _ => none

/-- Coordinates at which a kind may be armed (R37). -/
def kindAllows (kind v : Nat) : Bool :=
  match kind with
  | 7 => true
  | 3 | 5 | 6 => rcBoundary v
  | 2 => rcMb v = 0 && rcLayer v = 0 && 1 ≤ rcPhase v && rcPhase v ≤ 8
  | 1 => rcPhase v = 7 && rcMb v = 0 && rcLayer v = 0
  | 4 => rcPhase v = 3 || rcPhase v = 4 || rcPhase v = 8
  | _ => false

/-- Kinds that a rollback arms again (R37). -/
def rearms (kind : Nat) : Bool := kind = 7 || kind = 2 || kind = 4

/-- The order of firing (R39). -/
def firesBefore (a b : Armed) : Bool :=
  let key (x : Armed) : Nat := (x.coord * 8 + (kindOrder x.kind).getD 0) * 8 + x.ctx
  key a ≤ key b

/-- What the firing of a kind does to the device (R40, R230, R405, R420): whether a publication found no slot. -/
def fireEffect (e : Env) (a : Armed) (d : Dev) : Dev × Bool :=
  match a.kind with
  | 1 =>
    match epPublish a.ctx a.coord d with
    | some d => (d, false)
    | none => (d, true)
  | 2 => ({ d with placeDue := d.placeDue ++ [a.coord] }, false)
  | 5 => ({ d with placeDue := d.placeDue ++ [a.coord] }, false)
  | 6 =>
    if rget d ⟨.SEC_FW_PENDING, 0, 0, 0⟩ = 1 then
      let d := rbit d ⟨.SEC_FW_SWITCHING, 0, 0, 0⟩
      ({ d with outbox := d.outbox ++ [.service "firmware switch-over" a.action] }, false)
    else (d, false)
  | 7 => (takeSnapshot e a.action d, false)
  | _ => (d, false)

/-- Body of the record of a firing (R276 type 1). -/
def firedBody (e : Env) (a : Armed) (noFill : Bool) : Nat :=
  packFields [(64, a.coord), (4, a.kind), (1, b2n noFill), (11, 0), (16, a.action), (32, 0), (64, e.clk.ft)]

/-- One event fires (R39, R230). -/
def fireOne (e : Env) (d : Dev) (a : Armed) : Dev :=
  let d := { d with armed := d.armed.map (fun x => if x.slot = a.slot then { x with fired := true } else x) }
  let (d, noFill) := fireEffect e a d
  let d := pushEvent e a.ctx 1 (firedBody e a noFill) d
  if noFill then logError e { cls := 0x0303, level := 4, kind := 8, ctx := some a.ctx, syn := a.coord } d else d

/-- Entries that have not fired at or below v, in the order of R39. -/
def dueEvents (d : Dev) (v : Nat) : List Armed := sortBy firesBefore (d.armed.filter (fun a => !a.fired && a.coord ≤ v))

/-- Every event due at v fires (R39). -/
def fireDue (e : Env) (v : Nat) (d : Dev) : Dev := (dueEvents d v).foldl (fireOne e) d

/-- A fired entry that no set can arm again with the coordinate at v (R447). -/
def placeGone (v : Nat) (a : Armed) : Bool :=
  a.fired && (!rearms a.kind || rcBoundary a.coord || (rcStep a.coord + 1) * 2 ^ 24 ≤ v)

/-- Places of the table are given up (R447). -/
def releasePlaces (d : Dev) : Dev := { d with armed := d.armed.filter (fun a => !placeGone d.rc a) }

/-- What the advances of group k of context c name, over its logical tiles in ascending number; none while a tile
has neither issued its own nor ended (R34). -/
def groupValues (d : Dev) (c k : Nat) : Option (List (Option Nat)) :=
  let ss := (logicalTiles d c).map (fun t => getStrm d t.1 t.2 c)
  if ss.any (fun s => k < s.advs.length) && ss.all (fun s => k < s.advs.length || s.ended) then
    some (ss.map (fun s => s.advs[k]?))
  else none

/-- How a group is judged (R34, R35, R49, R325). -/
inductive GroupVerdict
  | waits
  | differs (v : Nat)
  | notGreater (v : Nat)
  | limit (v : Nat)
  | takes (v : Nat)
  deriving DecidableEq, Repr

/-- The verdict on the next group of context c against its position (R35). A refusal of tiles that name different values
shows that of the lowest-numbered logical tile among them (the model's choice: the manual says only "value named";
notes/assumptions/109.md). -/
def judgeGroup (d : Dev) (c pos : Nat) : GroupVerdict :=
  match groupValues d c (getCtx d c).judged with
  | none => .waits
  | some vs =>
    match vs.filterMap id with
    | [] => .waits
    | v :: _ =>
      if vs.any (fun x => x ≠ some v) then .differs v
      else if rcStep v = 2 ^ 40 - 1 then .limit v
      else if v ≤ pos then .notGreater v
      else .takes v

/-- A group is behind the unit (R34). -/
def groupJudged (c : Nat) (d : Dev) : Dev := updCtx d c (fun x => { x with judged := x.judged + 1 })

/-- A group named the limit step (R49): STEP_LIMIT, fatal event, and no position moves until a set. -/
def stepLimit (e : Env) (c v : Nat) (d : Dev) : Dev :=
  let d := { rbit d ⟨.CLK_STEP_LIMIT, 0, 0, 0⟩ with rcStopped := true }
  failWith e c 8 { cls := 0x0302, level := 4, kind := 8, syn := v } d

/-- A group of the pacing context is refused (R35). -/
def badAdvance (e : Env) (c v : Nat) (d : Dev) : Dev :=
  failWith e c 8 { cls := 0x0301, level := 4, kind := 8, syn := v } (rbit d ⟨.CLK_BAD_ADVANCE, 0, 0, 0⟩)

/-- A group of another context is refused (R325). -/
def badPosition (e : Env) (c : Nat) (d : Dev) : Dev :=
  failWith e c 8 { cls := 0x0305, level := 4, kind := 8 } (rbit d ⟨.LNK_COL_POS_BAD, c, 0, 0⟩)

/-- The run coordinate takes a value, and what is due fires (R34, R39, R129, R447). -/
def takeCoord (e : Env) (c v : Nat) (d : Dev) : Dev :=
  releasePlaces (fireDue e v { ratioLeaves c d.rc d with rc := v })

/-- The next group of the pacing context is judged (R34, R35, R49). -/
def advanceJudged (e : Env) (d : Dev) : Dev :=
  match pacingCtx d with
  | none => d
  | some c =>
    if d.rcStopped then d
    else match judgeGroup d c d.rc with
      | .waits => d
      | .differs v => badAdvance e c v (groupJudged c d)
      | .notGreater v => badAdvance e c v (groupJudged c d)
      | .limit v => stepLimit e c v (groupJudged c d)
      | .takes v => takeCoord e c v (groupJudged c d)

/-- The next group of another context is judged against its collective position (R325, R49). -/
def positionJudged (e : Env) (c : Nat) (d : Dev) : Dev :=
  let x := getCtx d c
  if d.rcStopped ∨ pacingCtx d = some c then d
  else match judgeGroup d c x.pos with
    | .waits => d
    | .differs _ => badPosition e c (groupJudged c d)
    | .notGreater _ => badPosition e c (groupJudged c d)
    | .limit v => stepLimit e c v (groupJudged c d)
    | .takes v => updCtx (ratioLeaves c x.pos (groupJudged c d)) c (fun x => { x with pos := v })

/-- CLK_ARM_RES_CODE of an arm request: the lowest that applies (R38, R51). -/
def armCode (armed : List Armed) (rc kind ctx coord : Nat) : Nat :=
  if armed.length ≥ 256 then 1
  else if kindOrder kind = none ∨ rcPhase coord ≥ 9 then 2
  else if kindAllows kind coord = false then 3
  else if coord ≤ rc then 4
  else if armed.any (fun a => !a.fired && a.kind = kind && a.ctx = ctx && a.coord = coord) then 5
  else 0

/-- A free place of the table. Which of them an entry takes is open (R51, R447), so a free value f says where among the
256 the search begins (notes/assumptions/93.md). -/
def freePlace (f : Nat) (armed : List Armed) : Nat :=
  (((List.range 256).map (fun k => (f + k) % 256)).find? (fun k => armed.all (fun a => a.slot ≠ k))).getD 0

/-- A field of the run-coordinate unit. -/
def kget (d : Dev) (r : Reg) : Nat := rget d ⟨r, 0, 0, 0⟩

/-- CLK_ARM_GO (R38, R52). -/
def armGo (d : Dev) : Dev :=
  let coord := kget d .CLK_ARM_COORD
  let kind := kget d .CLK_ARM_KIND
  let ctx := kget d .CLK_ARM_CTX
  let code := armCode d.armed d.rc kind ctx coord
  let d := rset d ⟨.CLK_ARM_RES_CODE, 0, 0, 0⟩ code
  if code = 0 then
    let (f, d) := takeFree d
    let slot := freePlace f d.armed
    let a : Armed := ⟨slot, coord, kind, ctx, kget d .CLK_ARM_ACTION, false⟩
    rset { d with armed := d.armed ++ [a] } ⟨.CLK_ARM_RES_SLOT, 0, 0, 0⟩ slot
  else d

/-- CLK_ARM_CANCEL (R41, R447). -/
def armCancel (d : Dev) : Dev :=
  let slot := kget d .CLK_ARM_SLOT
  match d.armed.find? (fun a => a.slot = slot) with
  | none => rset d ⟨.CLK_ARM_RES_CODE, 0, 0, 0⟩ 7
  | some a =>
    if a.fired then rset d ⟨.CLK_ARM_RES_CODE, 0, 0, 0⟩ 6
    else rset { d with armed := d.armed.filter (fun a => a.slot ≠ slot) } ⟨.CLK_ARM_RES_CODE, 0, 0, 0⟩ 0

/-- CLK_ARM_RES_CODE of a set (R43, R52). A reserved phase is reported before a context that runs (the model's choice: no
rule orders the codes of a set; notes/assumptions/110.md). -/
def setCode (d : Dev) (v : Nat) : Nat :=
  if rcPhase v ≥ 9 then 2
  else if (List.range 8).any (fun c => ctxState d c = 2 || ctxState d c = 4) then 8 else 0

/-- A FILLING slot whose fill launch has its outcome becomes FREE at a set (R231). -/
def dropDoneFills (d : Dev) : Dev :=
  let slots := (List.range 8).flatMap (fun g => (List.range 4).map (fun k => (g, k)))
  slots.foldl (fun d x =>
    let f := getCtx d (rget d ⟨.CLK_EP_FILL_CTX, x.1, x.2, 0⟩)
    let seq := rget d ⟨.CLK_EP_FILL_SEQ, x.1, x.2, 0⟩
    let inForce := f.cur.any (fun l => l.seq = seq && !f.decided)
    if epState d x.1 x.2 = 1 ∧ inForce = false then rset d ⟨.CLK_EP_STATE, x.1, x.2, 0⟩ 0 else d) d

/-- Positions, walks and pending failures of a context at a set (R325, R337, R448). Update-ratio sums of what is replayed
go, so that the samples repeat (R129, R153; notes/assumptions/105.md). -/
def setCtxPos (v : Nat) (d : Dev) (c : Nat) : Dev :=
  let d := updCtx d c (fun x => { x with pos := v, walkStep := rcStep v, walkNext := 0 })
  let d := rset (rset d ⟨.CLK_CTX_FAIL_PEND, c, 0, 0⟩ 0) ⟨.CLK_CTX_PEND_CAUSE, c, 0, 0⟩ 0
  let d := rset d ⟨.LNK_COL_FAIL_PEND, c, 0, 0⟩ 0
  (halvesOf d c).foldl (fun d t =>
    rset (setStrm d t.1 t.2 c { getStrm d t.1 t.2 c with sdw := 0, sw := 0, banks := [] }) ⟨.TILE_SRL_STEP, t.1, c, t.2⟩ (rcStep v)) d

/-- Landing counters return to 0 at a set (R96), and waits on them are judged anew (R220). -/
def zeroLandings (d : Dev) : Dev :=
  (usedTiles d).foldl (fun d p => waitsMoved p d)
    { d with regs := d.regs.filter (fun x => x.1.reg ≠ .TILE_LAND_COUNT && x.1.reg ≠ .TILE_LAND_BASE) }

/-- Entries that fired above v are armed again (R37, R43). -/
def rearmAbove (v : Nat) (d : Dev) : Dev :=
  let back (a : Armed) : Bool := a.fired && rearms a.kind && v < a.coord
  overtake v { d with armed := d.armed.map (fun a => if back a then { a with fired := false } else a) }

/-- Every open collective is discarded (R337). What TEST_RCP_STATE and TEST_RCP_CAUSE read when a recovery permute is
among them is not stated: free values (notes/assumptions/98.md). -/
def dropCols (d : Dev) : Dev :=
  let d' := { d with cols := [], early := [] }
  if d.cols.any (fun x => x.c = 8) then
    let (u, d') := takeFree d'
    rset (rset d' ⟨.TEST_RCP_STATE, 0, 0, 0⟩ u) ⟨.TEST_RCP_CAUSE, 0, 0, 0⟩ (u / 4)
  else d'

/-- An accepted coordinate set, in the order of R43. -/
def setCoord (e : Env) (v : Nat) (d : Dev) : Dev :=
  let d := fatalClear 0x0302 d
  let d := (List.range 8).foldl (setCtxPos v) (dropCols { d with rc := v, rcStopped := false })
  let d := rearmAbove v (zeroLandings d)
  restoreMap e (dropDoneFills (releasePlaces (fireDue e v d)))

/-- CLK_RC_SET_GO (R43, R52). -/
def setGo (e : Env) (d : Dev) : Dev :=
  let v := kget d .CLK_RC_SET
  let code := setCode d v
  let d := rset d ⟨.CLK_ARM_RES_CODE, 0, 0, 0⟩ code
  if code = 0 then setCoord e v d else rbit d ⟨.CLK_BAD_SET, 0, 0, 0⟩

/-- ADVANCE_GROUP_JUDGE (R34). -/
def execAdvanceGroupJudge (s : State) : Host.Outcome State Fault Refusal := act s true (fun e d => advanceJudged e d)

/-- COLLECTIVE_POSITION_GROUP (R325). -/
def execCollectivePositionGroup (c : Nat) (s : State) : Host.Outcome State Fault Refusal :=
  act s (c < 8) (fun e d => positionJudged e c d)

/-- CLK_ARM_GO (R38). -/
def execClkArmGo (s : State) : Host.Outcome State Fault Refusal := actT s true (fun _ d => armGo d)

/-- CLK_ARM_CANCEL (R41). -/
def execClkArmCancel (s : State) : Host.Outcome State Fault Refusal := actT s true (fun _ d => armCancel d)

/-- CLK_RC_SET_GO (R43). -/
def execClkRcSetGo (s : State) : Host.Outcome State Fault Refusal := actT s true (fun e d => setGo e d)

end Sys2Proof.Machine
end

