-- ==== Sys2Proof/Machine/Collectives.lean ====
section
/-! DEFINITION. Ordered collectives: the walk of the tables, streams, credits, the ordered sum, permutes, done records
and failures (R321 to R337, R354). -/

namespace Sys2Proof.Machine

/-- Fields of a table entry (R324). -/
def enOp (x : Nat) : Nat := bitsOf x 3 0
def enPhase (x : Nat) : Nat := bitsOf x 7 4
def enId (x : Nat) : Nat := bitsOf x 31 16
def enMb (x : Nat) : Nat := bitsOf x 41 32
def enLayer (x : Nat) : Nat := bitsOf x 51 42
def enFirst (x : Nat) : Nat := bitsOf x 79 64
def enStride (x : Nat) : Nat := bitsOf x 95 80
def enCount (x : Nat) : Nat := bitsOf x 111 96 + 1
def enDoneLand (x : Nat) : Nat := bitsOf x 116 112
def enSend (x : Nat) : Nat := bitsOf x 191 128
def enRecv (x : Nat) : Nat := bitsOf x 255 192
def enSlen (x : Nat) : Nat := bitsOf x 295 256
def enDoneOff (x : Nat) : Nat := bitsOf x 340 320
def enPieces (x : Nat) : Nat := bitsOf x 383 352
def enPlan (x : Nat) : Nat := bitsOf x 447 384

/-- The reserved bits of an entry are 0. -/
def enReservedOk (x : Nat) : Bool :=
  bitsOf x 15 8 = 0 && bitsOf x 63 52 = 0 && bitsOf x 127 117 = 0 && bitsOf x 319 296 = 0 && bitsOf x 351 341 = 0 &&
  bitsOf x 511 448 = 0

/-- An entry is malformed (R323, R324). -/
def enMalformed (x : Nat) : Bool :=
  !(enReservedOk x && 1 ≤ enOp x && enOp x ≤ 4 && enPhase x ≤ 8 && enStride x ≠ 0 && enSend x % 64 = 0 && enRecv x % 64 = 0 &&
    enDoneOff x % 64 = 0 &&
    (if enOp x = 4 then enPieces x ≠ 0 && enPlan x % 32 = 0 && enSlen x = 0
     else enPieces x = 0 && enPlan x = 0 && enSlen x % 16 = 0 && 16 ≤ enSlen x))

/-- The trigger of an entry in step s (R326). -/
def enTrigger (s x : Nat) : Nat := s * 2 ^ 24 + enPhase x * 2 ^ 20 + enMb x * 2 ^ 10 + enLayer x

/-- The number of rank r in the group of an entry. -/
def enMember (r x : Nat) : Option Nat :=
  let k := r - enFirst x
  if r < enFirst x then none
  else if enStride x = 0 then (if k = 0 then some 0 else none)
  else if k % enStride x = 0 ∧ k / enStride x < enCount x then some (k / enStride x) else none

/-- Rank of member i. -/
def enRank (x i : Nat) : Nat := enFirst x + i * enStride x

/-- The device's own rank (R307). -/
def myRank (d : Dev) : Nat := rget d ⟨.LNK_MY_RANK, 0, 0, 0⟩

/-- Fields of a plan piece (R332). -/
def pcSends (x : Nat) : Bool := !bitOf x 16
def pcLocal (x : Nat) : Nat := bitsOf x 127 64
def pcRemote (x : Nat) : Nat := bitsOf x 191 128
def pcLen (x : Nat) : Nat := bitsOf x 231 192

/-- Peer rank of a piece. -/
def pcPeer (d : Dev) (x : Nat) : Nat :=
  if bitOf x 17 then (myRank d + bitsOf x 15 0) % rget d ⟨.LNK_RANK_COUNT, 0, 0, 0⟩ else bitsOf x 15 0

/-- A piece is malformed (R332). -/
def pcMalformed (x : Nat) : Bool :=
  !(bitsOf x 31 18 = 0 && bitsOf x 63 32 = 0 && bitsOf x 255 232 = 0 && pcLocal x % 16 = 0 && pcRemote x % 16 = 0 &&
    pcLen x % 16 = 0 && 16 ≤ pcLen x && (pcSends x || pcRemote x = 0))

/-- What a piece names of HBM, its own and, for a send piece, its peer's (R332, R334 cause 7). Every device's capacity is
judged by this one's (notes/assumptions/104.md). -/
def pcAreas (x : Nat) : List (Nat × Nat) :=
  (pcLocal x, pcLen x) :: (if pcSends x then [(pcRemote x, pcLen x)] else [])

/-- Packets of a send piece. -/
def pcPackets (x : Nat) : Nat := ceilDiv (pcLen x) 384

/-- Open collectives. -/
def findCol (d : Dev) (h : Nat) : Option Col := d.cols.find? (fun x => x.handle = h)
def updCol (d : Dev) (h : Nat) (f : Col → Col) : Dev := { d with cols := d.cols.map (fun x => if x.handle = h then f x else x) }
def updStream (d : Dev) (h i : Nat) (f : ColStream → ColStream) : Dev :=
  updCol d h (fun x => { x with streams := x.streams.modify i f })

/-- Packets of a shard (R329). -/
def shardPackets (x : Nat) : Nat := ceilDiv (enSlen x) 400

/-- Bytes of the r-th packet of a shard. -/
def shardBytes (x r : Nat) : Nat := min 400 (enSlen x - r * 400)

/-- The cables to a peer, in the order of the lower rank's links (R329); the routed path where there is none. -/
def cablesTo (d : Dev) (peer : Nat) : List (Option Nat) :=
  let ls := (List.range 36).filter (fun n =>
    rget d ⟨.LNK_COL_RANK_V, n, 0, 0⟩ = 1 && rget d ⟨.LNK_COL_RANK, n, 0, 0⟩ = peer)
  let key (n : Nat) : Nat := if peer < myRank d then rget d ⟨.LNK_NBR_LINK, n, 0, 0⟩ else n
  if ls.isEmpty then [none] else (sortBy (fun a b => decide (key a ≤ key b)) ls).map some

/-- Step, phase and identifier as packets carry them (R330). -/
def colKey (x : Col) : Nat := x.step + enPhase x.img * 2 ^ 40 + enId x.img * 2 ^ 44

/-- A packet of a collective to a peer (R330). -/
def colPkt (e : Env) (d : Dev) (x : Col) (peer vc type bits : Nat) (data : List Byte) : Pkt :=
  { dst := (rankAddr d peer).getD 0, src := myAddr d, vc := vc, type := type, birth := birthNow e,
    body := colKey x + bits * 2 ^ 60, data := data }

/-- Nothing can leave for a peer this way (R334 cause 2): the cable is not UP, or the routed path has no route. -/
def pathGone (d : Dev) (peer : Nat) (via : Option Nat) : Bool :=
  match via, rankAddr d peer with
  | none, none => true
  | _, a => match routeOf d 36 { pkt := { dst := a.getD 0 }, via := via } with
    | .nowhere _ => true
    | _ => false

/-- The link whose engine sends a packet. -/
def engineLink (d : Dev) (p : Pkt) (via : Option Nat) : Option Nat :=
  match routeOf d 36 { pkt := p, via := via } with
  | .port n _ => some n
  | _ => none

/-- A packet of a collective is sent (R330), counted by its engine (R338). -/
def sendCol (e : Env) (via : Option Nat) (p : Pkt) (d : Dev) : Dev :=
  let d := match engineLink d p via with
    | some n => satAdd e ⟨.LNK_COL_PKTS, n, 0, 0⟩ 1 d
    | none => d
  injectPkt e via p d

/-- A packet of the injection buffer belongs to a collective's streams. -/
def ownedBy (x : Col) (q : Queued) : Bool := (q.pkt.type = 4 || q.pkt.type = 6) && bitsOf q.pkt.body 59 0 = colKey x

/-- COL_ABORT goes to every peer but one, on every cable and path to it (R335 item 2). -/
def sendAborts (e : Env) (x : Col) (cause : Nat) (skip : Option Nat) (d : Dev) : Dev :=
  let ways := (x.streams.flatMap (fun s => s.cables.map (fun v => (s.peer, v)))).eraseDups
  (ways.filter (fun w => skip ≠ some w.1)).foldl (fun d w => sendCol e w.2 (colPkt e d x w.1 1 7 cause []) d) d

/-- FAIL_CAUSE of a failed collective (R335 item 4). -/
def colFailCause (cause : Nat) (beyond : Bool) : Nat := if cause = 7 then (if beyond then 9 else 1) else 6

/-- The context of a failed collective is halted and its launch fails (R335 items 3 and 4). -/
def colFailCtx (e : Env) (c cause : Nat) (beyond : Bool) (r : Err) (d : Dev) : Dev :=
  let d := satAdd e ⟨.LNK_COL_FAILS, c, 0, 0⟩ 1 (rbit d ⟨.LNK_COL_FAILED, c, 0, 0⟩)
  let before := rget d ⟨.CLK_CTX_FAIL_PEND, c, 0, 0⟩
  let d := failWith e c (colFailCause cause beyond) r d
  if before = 0 ∧ rget d ⟨.CLK_CTX_FAIL_PEND, c, 0, 0⟩ = 1 then rbit d ⟨.LNK_COL_FAIL_PEND, c, 0, 0⟩ else d

/-- The recovery permute fails (R354). -/
def recoveryFails (e : Env) (cause : Nat) (r : Err) (d : Dev) : Dev :=
  rset (rset (logError e r d) ⟨.TEST_RCP_STATE, 0, 0, 0⟩ 3) ⟨.TEST_RCP_CAUSE, 0, 0, 0⟩ cause

/-- A collective fails at this member (R335): `link` is the unit of its record, `skip` the peer that sent an abort. -/
def failCol (e : Env) (x : Col) (cause link : Nat) (beyond : Bool) (skip : Option Nat) (d : Dev) : Dev :=
  let d := { d with cols := d.cols.filter (fun y => y.handle ≠ x.handle) }
  let d := updLink d 36 (fun l => { l with rx := l.rx.filter (fun q => !ownedBy x q) })
  let d := sendAborts e x cause skip d
  let r : Err := linkErr 0x0405 link (cause + enId x.img * 16)
  if x.c < 8 then colFailCtx e x.c cause beyond r d else recoveryFails e cause r d

/-- The link that the record of a failed collective names: a free one of its cables, or any where it has none
(notes/assumptions/57.md). -/
def failLink (x : Col) (d : Dev) : Nat × Dev :=
  match (x.streams.flatMap (·.cables)).filterMap id with
  | [] => someLink d
  | l => let f := takeFree d; (l.getD (f.1 % l.length) 0, f.2)

/-- The failure of an open collective by its handle. -/
def failHandle (e : Env) (h cause : Nat) (beyond : Bool) (d : Dev) : Dev :=
  match findCol d h with
  | some x => let u := failLink x d; failCol e x cause u.1 beyond none u.2
  | none => d

/-- Source of a collective's writes. -/
def colSrc (h : Nat) : Nat := 2 ^ 21 + h

/-- Bytes that a collective writes to HBM, on their way (R183). -/
def colWrite (x : Col) (a : Nat) (bs : List Byte) (d : Dev) : Dev :=
  let ws := (cutLines a bs.length bs).map (fun y =>
    { src := colSrc x.handle, addr := y.1, data := y.2, ctx := if x.c < 8 then some x.c else none,
      owner := .collective x.handle : HbmWr })
  updCol { d with hbmWr := d.hbmWr ++ ws } x.handle (fun y => { y with unlanded := y.unlanded + ws.length })

/-- A read for an open collective has failed: n bytes from a (R334 causes 4 and 7). -/
def readFails (e : Env) (h a n : Nat) (r : HbmRes) (d : Dev) : Dev :=
  match r with
  | .ok _ => d
  | .beyond => failHandle e h 7 true (hbmBeyond e (max a (hbmCap d)) none none d)
  | r => failHandle e h 4 false (hbmFailed e a n r d)

/-- A read for a collective (R192, R334 causes 4 and 7): the bytes, or the collective has failed. -/
def colRead (e : Env) (h a n : Nat) (d : Dev) : Option (List Byte) × Dev :=
  match hbmRead d a n with
  | .ok bs => (some bs, hbmDone e a n d)
  | r => (none, readFails e h a n r d)

/-- Where a stream's packet q comes from this member's own send buffer, its address (R328). -/
def ownSource (x : Col) (s : ColStream) (q : Nat) : Option Nat :=
  let n := shardPackets x.img
  let k := s.first + q / n
  let a := enSend x.img + q % n * 400
  match enOp x.img with
  | 3 => if k = x.member then some a else none
  | 2 => if x.member = 0 ∧ s.dir = 0 then some (a + k * enSlen x.img) else none
  | _ => if x.member = 0 ∧ s.dir = 0 then some a else none

/-- The piece of packet q of a permute's stream, and the packet's number in it (R332). -/
def pieceOfPacket : List Nat → Nat → Option (Nat × Nat)
  | [], _ => none
  | p :: ps, q => if q < pcPackets p then some (p, q) else pieceOfPacket ps (q - pcPackets p)

/-- The data of packet q of an outgoing stream, if it is there (R328, R332); none with a changed device where a read
failed. -/
def packetData (e : Env) (x : Col) (s : ColStream) (q : Nat) (d : Dev) : Option (List Byte) × Dev :=
  if enOp x.img = 4 then
    match pieceOfPacket s.pieces q with
    | none => (none, d)
    | some (p, r) =>
      match colRead e x.handle (pcLocal p + r * 384) (min 384 (pcLen p - r * 384)) d with
      | (some bs, d) => (some (leBytes (pcRemote p + r * 384) 16 ++ bs), d)
      | r => r
  else match ownSource x s q with
    | some a => colRead e x.handle a (shardBytes x.img (q % shardPackets x.img)) d
    | none => ((s.ready.find? (fun y => y.1 = q)).map (·.2.2), d)

/-- Packets of a permute that wait for cable `via`: no more than fill one flit are made at a time. -/
def permWaits (d : Dev) (x : Col) (via : Option Nat) : Nat :=
  ((getLink d 36).rx.filter (fun q => ownedBy x q && q.via = via)).length

/-- A packet may be sent on a cable: with credit (R331), or after the peer has opened a permute (R332). -/
def maySend (d : Dev) (x : Col) (s : ColStream) (k : Nat) (via : Option Nat) : Bool :=
  if enOp x.img = 4 then s.started && permWaits d x via < 21 else 0 < cntGet s.credit k

/-- The next packet of stream i of a collective goes out on cable k, if it may (R329 to R332). -/
def sendNext (e : Env) (h i k : Nat) (d : Dev) : Dev :=
  match findCol d h with
  | none => d
  | some x =>
    match x.streams[i]? with
    | none => d
    | some s =>
      let q := k + cntGet s.moved k * s.cables.length
      let via := (s.cables[k]?).getD none
      if !s.out ∨ q ≥ s.total ∨ !maySend d x s k via then d
      else match packetData e x s q d with
        | (none, d) => d
        | (some bs, d) =>
          let d := updStream d h i (fun s => { s with moved := cntAdd s.moved k 1, credit := cntSub s.credit k 1,
                                                      ready := s.ready.filter (fun y => y.1 ≠ q) })
          sendCol e via (colPkt e d x s.peer 2 (if enOp x.img = 4 then 6 else 4) (if enOp x.img = 4 then 0 else s.dir) bs) d

/-- A function done n times. -/
def times {α : Type} (f : α → α) : Nat → α → α
  | 0, a => a
  | n + 1, a => times f n (f a)

/-- Packets that a cable may send at once. -/
def burst (x : Col) (s : ColStream) (k : Nat) : Nat := if enOp x.img = 4 then 21 else cntGet s.credit k

/-- Bytes that an engine stages (R331, R338). -/
def stagedOn (d : Dev) (n : Nat) : Nat :=
  ((d.cols.flatMap (fun x => x.streams.flatMap (fun s => s.ready.filter (fun y => y.2.1 = n)))).map (fun y => y.2.2.length)).sum

/-- Credit outstanding, in bytes, for packets that may come on a link: those of its cables, and those of routed streams,
which may come on any. -/
def promised (d : Dev) (n : Nat) : Nat :=
  400 * ((d.cols.flatMap (fun x => x.streams.flatMap (fun s =>
    if s.out then [] else (List.range s.cables.length).filterMap (fun k =>
      if ((s.cables[k]?).getD none).all (· = n) then some (cntGet s.credit k) else none)))).sum)

/-- Blocks of 16 packets that the staging of a link's engine can still keep (R331). -/
def roomOn (d : Dev) (n : Nat) : Nat := (2 ^ 20 - stagedOn d n - promised d n) / 6400

/-- The most blocks of 16 packets that an engine may grant now: what 1 MiB of staging keeps, to at most 112 packets
outstanding. -/
def grantBlocks (d : Dev) (s : ColStream) (k : Nat) : Nat :=
  let out := cntGet s.credit k
  let mine := (s.total + s.cables.length - 1 - k) / s.cables.length
  let room := match (s.cables[k]?).getD none with
    | some n => roomOn d n
    | none => ((List.range 36).map (roomOn d)).foldl min 7
  if cntGet s.moved k + out < mine then min ((112 - out) / 16) room else 0

/-- The blocks that an engine grants (R331): how much is open, so that a free value picks from 1 to the most; 0 where
nothing may be granted (notes/assumptions/56.md). -/
def freeGrant (d : Dev) (s : ColStream) (k : Nat) : Nat × Dev :=
  let n := grantBlocks d s k
  if n ≤ 1 then (n, d) else let f := takeFree d; (1 + f.1 % n, f.2)

/-- A COL_CREDIT goes back on cable k of incoming stream i (R331). -/
def sendGrant (e : Env) (h i k g : Nat) (d : Dev) : Dev :=
  match findCol d h with
  | none => d
  | some x =>
    match x.streams[i]? with
    | none => d
    | some s =>
      let d := updStream d h i (fun s => { s with credit := cntAdd s.credit k (16 * g) })
      sendCol e ((s.cables[k]?).getD none) (colPkt e d x s.peer 1 5 (s.dir + 2 * g) []) d

/-- Cable k of stream i: a sender sends what it may, a receiver grants what it can. -/
def pumpCable (e : Env) (h i k : Nat) (d : Dev) : Dev :=
  match findCol d h with
  | none => d
  | some x =>
    match x.streams[i]? with
    | none => d
    | some s =>
      if s.out then times (sendNext e h i k) (burst x s k) d
      else if enOp x.img = 4 ∨ grantBlocks d s k = 0 then d
      else let g := freeGrant d s k; sendGrant e h i k g.1 g.2

/-- Every cable of every stream of a collective. -/
def pumpCol (e : Env) (d : Dev) (h : Nat) : Dev :=
  match findCol d h with
  | none => d
  | some x =>
    let ws := (List.range x.streams.length).flatMap (fun i =>
      (List.range (((x.streams[i]?).map (·.cables.length)).getD 0)).map (fun k => (i, k)))
    ws.foldl (fun d w => pumpCable e h w.1 w.2 d) d

/-- Every open collective sends what it may. -/
def pumpAll (e : Env) (d : Dev) : Dev := (d.cols.map (·.handle)).foldl (pumpCol e) d

/-- Packets or bytes of a stream that have moved. -/
def movedAll (s : ColStream) : Nat := (s.moved.map (·.2)).sum

/-- A packet of a stream waits in the injection buffer: it has not been handed to its link or path (R333). -/
def unhanded (d : Dev) (x : Col) (s : ColStream) : Bool :=
  (getLink d 36).rx.any (fun q => ownedBy x q && s.cables.contains q.via && rankAddr d s.peer = some q.pkt.dst &&
    (q.pkt.type = 6 || bitsOf q.pkt.body 60 60 = s.dir))

/-- A stream is unfinished. -/
def unfinished (d : Dev) (x : Col) (s : ColStream) : Bool := movedAll s < s.total || s.out && unhanded d x s

/-- A cable or path of an unfinished stream is gone (R334 cause 2). -/
def colCut (d : Dev) (x : Col) : Bool := x.streams.any (fun s => unfinished d x s && s.cables.any (pathGone d s.peer))

/-- Every buffer loses what can no longer be carried (R291), and the collectives that have lost a cable or path of an
unfinished stream fail (R334 cause 2). -/
def sweepAll (e : Env) (d : Dev) : Dev :=
  ((d.cols.filter (colCut d)).map (·.handle)).foldl (fun d h => failHandle e h 2 false d) (sweepLinks e d)

/-- Streams of a chain at member i of n (R328): direction, whether sent, peer, first shard, number of shards. -/
def chainStreams (x i : Nat) : List (Nat × Bool × Nat × Nat × Nat) :=
  let n := enCount x
  let at_ (a b c : Nat × Nat) : Nat × Nat := match enOp x with
    | 1 => a
    | 2 => b
    | _ => c
  let one (dir : Nat) (out : Bool) (j : Nat) (r : Nat × Nat) : Nat × Bool × Nat × Nat × Nat := (dir, out, enRank x j, r.1, r.2)
  (if i + 1 < n then [one 0 true (i + 1) (at_ (0, 1) (0, n) (0, i + 1)),
                      one 1 false (i + 1) (at_ (0, 1) (0, i + 1) (i + 1, n - i - 1))] else []) ++
  (if 0 < i then [one 1 true (i - 1) (at_ (0, 1) (0, i) (i, n - i)), one 0 false (i - 1) (at_ (0, 1) (0, n) (0, i))] else [])

/-- The same as streams of the state. -/
def openStreams (d : Dev) (x i : Nat) : List ColStream :=
  (chainStreams x i).map (fun t =>
    { dir := t.1, out := t.2.1, peer := t.2.2.1, cables := cablesTo d t.2.2.1, first := t.2.2.2.1,
      total := t.2.2.2.2 * shardPackets x })

/-- The streams of a permute (R332): one for each peer of the send pieces and each of the receive pieces. -/
def permStreams (d : Dev) (ps : List Nat) : List ColStream :=
  let of (out : Bool) : List ColStream :=
    let mine := ps.filter (fun p => pcSends p = out)
    (mine.map (pcPeer d)).eraseDups.map (fun r =>
      let qs := mine.filter (fun p => pcPeer d p = r)
      { out := out, peer := r, cables := cablesTo d r, pieces := qs, total := (qs.map (if out then pcPackets else pcLen)).sum })
  of true ++ of false

/-- The plan's pieces (R332): images of 32 bytes; what a read gave instead, with its address, where one cannot be
read. -/
def planPieces (d : Dev) (a : Nat) : Nat → Except (Nat × HbmRes) (List Nat)
  | 0 => .ok []
  | n + 1 => match planPieces d a n, hbmRead d (a + 32 * n) 32 with
    | .ok ps, .ok bs => .ok (ps ++ [leNat bs])
    | .ok _, r => .error (a + 32 * n, r)
    | r, _ => r

/-- What reading the first n pieces of a plan does beside (R190, R416). -/
def planSeen (e : Env) (a n : Nat) (d : Dev) : Dev := (List.range n).foldl (fun d i => hbmDone e (a + 32 * i) 32 d) d

/-- A collective opens at this member (R326): its place among the open ones. -/
def addCol (c x step i : Nat) (ss : List ColStream) (d : Dev) : Nat × Dev :=
  let y : Col := { handle := d.colNext, c := c, img := x, step := step, member := i, streams := ss }
  (y.handle, { d with cols := d.cols ++ [y], colNext := d.colNext + 1 })

/-- The first credits go out: of each incoming stream of a chain (R331), of each receive peer of a permute (R332). -/
def firstCredits (e : Env) (h : Nat) (d : Dev) : Dev :=
  match findCol d h with
  | none => d
  | some x =>
    let ws := (List.range x.streams.length).flatMap (fun i =>
      match x.streams[i]? with
      | some s => if s.out then [] else (List.range (if enOp x.img = 4 then 1 else s.cables.length)).map (fun k => (i, k))
      | none => [])
    ws.foldl (fun d w =>
      match (findCol d h).bind (fun x => x.streams[w.1]?) with
      | some s =>
        let g := if enOp x.img = 4 then (0, d) else freeGrant d s w.2
        sendGrant e h w.1 w.2 g.1 g.2
      | none => d) d

/-- The member's own shard where the operation keeps it (R321, R328): n = 1, or its place of an ALL_GATHER. -/
def ownCopy (e : Env) (h : Nat) (d : Dev) : Dev :=
  match findCol d h with
  | none => d
  | some x =>
    if enOp x.img = 4 ∨ (enCount x.img ≠ 1 ∧ enOp x.img ≠ 3) then d
    else match colRead e h (enSend x.img) (enSlen x.img) d with
      | (some bs, d) => colWrite x (enRecv x.img + (if enOp x.img = 3 then x.member * enSlen x.img else 0)) bs d
      | (none, d) => d

/-- A COL_CREDIT is taken by the stream that it grants (R331, R332). -/
def creditStream (h i k g : Nat) (d : Dev) : Dev :=
  updStream d h i (fun s => { s with credit := cntAdd s.credit k (16 * g), started := true })

/-- The stream of a collective that a packet belongs to, and the number of the cable it came on (R329). Buffer 36
stands for the routed path. -/
def streamOf (d : Dev) (x : Col) (out : Bool) (n : Nat) (p : Pkt) : Option (Nat × Nat) :=
  (List.range x.streams.length).findSome? (fun i =>
    match x.streams[i]? with
    | none => none
    | some s =>
      if s.out ≠ out then none
      else if enOp x.img = 4 then (if rankAddr d s.peer = some p.src then some (i, 0) else none)
      else if s.dir ≠ bitsOf p.body 60 60 then none
      else if s.cables = [none] then some (i, 0)
      else (s.cables.findIdx? (fun v => v = some n)).map (fun k => (i, k)))

/-- A collective packet of nothing that is open: discarded, counted and recorded (R334, R336). -/
def colStale (e : Env) (n : Nat) (p : Pkt) (d : Dev) : Dev :=
  let u := linkOr n d
  logError e (linkErr 0x0406 u.1 (bitsOf p.body 59 44 * 16)) (satAdd e ⟨.LNK_COL_STALE, u.1, 0, 0⟩ 1 u.2)

/-- A COL_CREDIT for an open collective. -/
def creditArrives (e : Env) (x : Col) (n : Nat) (p : Pkt) (d : Dev) : Dev :=
  match streamOf d x true n p with
  | some (i, k) => pumpCol e (creditStream x.handle i k (bitsOf p.body 63 61) d) x.handle
  | none => colStale e n p d

/-- Credits that came before the collective opened are taken (R331). -/
def takeEarly (e : Env) (h : Nat) (d : Dev) : Dev :=
  match findCol d h with
  | none => d
  | some x =>
    let mine (q : Queued) : Bool := bitsOf q.pkt.body 59 0 = colKey x
    (d.early.filter mine).foldl (fun d q =>
      match findCol d h with
      | some y => creditArrives e y (q.via.getD 36) q.pkt d
      | none => d) { d with early := d.early.filter (fun q => !mine q) }

/-- An opened collective begins: credits, its own shard, credits that came early. -/
def beginCol (e : Env) (h : Nat) (d : Dev) : Dev :=
  match findCol d h with
  | none => d
  | some x =>
    if colCut d x then failHandle e h 2 false d
    else pumpCol e (takeEarly e h (ownCopy e h (firstCredits e h d))) h

/-- Highest addresses that a chain's entry names at this member. -/
def chainTop (x : Nat) : Nat :=
  let n := enCount x
  max (enSend x + enSlen x * (if enOp x = 2 then n else 1)) (enRecv x + enSlen x * (if enOp x = 3 then n else 1))

/-- A permute opens (R332): its plan is read and judged. -/
def openPermute (e : Env) (c x step i : Nat) (d : Dev) : Dev :=
  match planPieces d (enPlan x) (enPieces x) with
  | .error r =>
    let (h, d) := addCol c x step i [] (planSeen e (enPlan x) ((r.1 - enPlan x) / 32) d)
    readFails e h r.1 32 r.2 d
  | .ok ps =>
    let good := ps.filter (fun p => !pcMalformed p)
    let (h, d) := addCol c x step i (permStreams d good) (planSeen e (enPlan x) ps.length d)
    if good.length < ps.length then failHandle e h 7 false d
    else match (ps.flatMap pcAreas).find? (fun y => y.1 + y.2 > hbmCap d) with
      | some y => failHandle e h 7 true (hbmBeyond e (max y.1 (hbmCap d)) none none d)
      | none => beginCol e h d

/-- An identifier is in use by an open collective. -/
def idOpen (d : Dev) (x : Nat) : Bool := d.cols.any (fun y => enId y.img = enId x)

/-- An entry starts at a member (R324, R326, R334 cause 7). -/
def openEntry (e : Env) (c x step i : Nat) (d : Dev) : Dev :=
  if enMalformed x ∨ idOpen d x then
    let (h, d) := addCol c x step i (if 1 ≤ enOp x ∧ enOp x ≤ 3 then openStreams d x i else []) d
    failHandle e h 7 false d
  else if enOp x = 4 then openPermute e c x step i d
  else
    let (h, d) := addCol c x step i (openStreams d x i) d
    if chainTop x > hbmCap d then
      failHandle e h 7 true (hbmBeyond e (max (min (enSend x) (enRecv x)) (hbmCap d)) none none d)
    else beginCol e h d

/-- A context's collective position (R325). -/
def colPos (d : Dev) (c : Nat) : Nat := if pacingCtx d = some c then d.rc else (getCtx d c).pos

/-- Entries of a context's table (R339). -/
def tableSize (d : Dev) (c : Nat) : Nat := rget d ⟨.LNK_COL_TBL_N, c, 0, 0⟩

/-- The walk of the next step begins when the last one is over and the position has reached it (R326 item 1). -/
def nextWalk (c : Nat) (d : Dev) : Dev :=
  let x := getCtx d c
  if tableSize d c ≤ x.walkNext ∧ x.walkStep < rcStep (colPos d c) then
    setCtx d c { x with walkStep := x.walkStep + 1, walkNext := 0 }
  else d

/-- The walk has taken an entry. -/
def entryTaken (c : Nat) (d : Dev) : Dev := updCtx d c (fun x => { x with walkNext := x.walkNext + 1 })

/-- An entry that cannot be read fails when the walk comes to it (R334 causes 4 and 7); the identifier that its record
names is free. -/
def entryUnread (e : Env) (c step j : Nat) (r : HbmRes) (d : Dev) : Dev :=
  let f := takeFree d
  let (h, d) := addCol c (f.1 % 2 ^ 16 * 2 ^ 16) step 0 [] f.2
  readFails e h (rbase d ⟨.LNK_COL_TBL, c, 0, 0⟩ + 64 * j) 64 r d

/-- The next entry of a context's table starts, if its turn has come (R326). -/
def entryStarts (e : Env) (c : Nat) (d : Dev) : Dev :=
  if !ctxLoaded d c ∨ tableSize d c = 0 then d
  else
    let d := nextWalk c d
    let x := getCtx d c
    let j := x.walkNext
    if tableSize d c ≤ j ∨ rcStep (colPos d c) < x.walkStep ∨ (d.cols.filter (fun y => y.c = c)).length ≥ 16 then d
    else match hbmRead d (rbase d ⟨.LNK_COL_TBL, c, 0, 0⟩ + 64 * j) 64 with
      | .ok bs =>
        let en := leNat bs
        if colPos d c < enTrigger x.walkStep en then d
        else
          let d := entryTaken c (hbmDone e (rbase d ⟨.LNK_COL_TBL, c, 0, 0⟩ + 64 * j) 64 d)
          match enMember (myRank d) en with
          | some i => openEntry e c en x.walkStep i d
          | none => d
      | r => entryUnread e c x.walkStep j r (entryTaken c d)

/-- A collective that a key names has yet to open here: an entry still to start, or a recovery permute (R331, R354). -/
def awaited (d : Dev) (key : Nat) : Bool :=
  let entry (c j : Nat) : Bool := match hbmRead d (rbase d ⟨.LNK_COL_TBL, c, 0, 0⟩ + 64 * j) 64 with
    | .ok bs => enId (leNat bs) = bitsOf key 59 44 && enPhase (leNat bs) = bitsOf key 43 40
    | _ => false
  let step := bitsOf key 39 0
  (List.range 8).any (fun c =>
    let x := getCtx d c
    ctxLoaded d c && x.walkStep ≤ step &&
    (List.range (tableSize d c)).any (fun j => (x.walkStep < step || x.walkNext ≤ j) && entry c j)) ||
  (rget d ⟨.TEST_RCP_STATE, 0, 0, 0⟩ ≠ 1 && bitsOf key 59 44 = rget d ⟨.TEST_RCP_ID, 0, 0, 0⟩ && bitsOf key 43 40 = 0 &&
   step = rget d ⟨.TEST_RCP_STEP, 0, 0, 0⟩ && rget d ⟨.TEST_RCP_PIECES, 0, 0, 0⟩ ≠ 0)

/-- A sum on the way: the elements of R322, whether any saturated, and the NaN events (R333). -/
def addBytes : Nat → Nat → List Byte → List Byte → List Byte × Bool × List NanEv
  | 0, _, _, _ => ([], false, [])
  | n + 1, i, a, b =>
    let x := leNat (a.take 4)
    let y := leNat (b.take 4)
    let v := addOp (fpValue vf32 x) (fpValue vf32 y)
    let r := addBytes n (i + 1) (a.drop 4) (b.drop 4)
    (leBytes v.code 4 ++ r.1, v.ov || r.2.1, (if v.cause = 0 then [] else [⟨i, v.cause, 0, x, y, 0⟩]) ++ r.2.2)

/-- An addition has saturated: the done record and the context's sticky status say so (R64, R333), the latter on every
logical tile of the context (the model's choice: no rule names one; notes/assumptions/112.md). -/
def colOverflow (x : Col) (d : Dev) : Dev :=
  (halvesOf d x.c).foldl (fun d t => rbit d ⟨.TILE_CTX_OVF, t.1, x.c, t.2⟩) (updCol d x.handle (fun y => { y with ovf := true }))

/-- Data joins what an outgoing stream of a direction has ready, as packet r of shard k. -/
def passOn (h dir k r link : Nat) (bs : List Byte) (d : Dev) : Dev :=
  updCol d h (fun x => { x with streams := x.streams.map (fun s =>
    if s.out ∧ s.dir = dir then { s with ready := s.ready ++ [((k - s.first) * shardPackets x.img + r, link, bs)] } else s) })

/-- The ordered sum of packet r of shard k at a member (R328): written where it belongs, and passed down. -/
def sumArrives (x : Col) (k r link : Nat) (bs : List Byte) (d : Dev) : Dev :=
  let ar := enOp x.img = 1
  let d := if ar ∨ k = x.member then colWrite x (enRecv x.img + r * 400) bs d else d
  if 0 < x.member ∧ (ar ∨ k ≠ x.member) then passOn x.handle 1 k r link bs d else d

/-- Packet r of shard k has come up (R322, R328). A trap of the engine's addition comes from no operation record: its OP_INDEX
and OP_ISSUE are 0 (the model's choice; notes/assumptions/111.md). -/
def upArrives (e : Env) (x : Col) (k r link : Nat) (bs : List Byte) (d : Dev) : Dev :=
  let last := x.member + 1 = enCount x.img
  if enOp x.img = 3 then
    let d := colWrite x (enRecv x.img + k * enSlen x.img + r * 400) bs d
    if last then d else passOn x.handle 0 k r link bs d
  else
    let base := (if enOp x.img = 2 then k * enSlen x.img else 0) + r * 400
    match colRead e x.handle (enSend x.img + base) bs.length d with
    | (none, d) => d
    | (some own, d) =>
      let (sum, ov, evs) := addBytes (bs.length / 4) (base / 4) bs own
      let d := if ov then colOverflow x d else d
      let d := if last then sumArrives x k r link sum d else passOn x.handle 0 k r link sum d
      let u := linkOr link d
      nanTrap e u.1 x.c 3 0 0 evs u.2

/-- Packet r of shard k has come down (R328). -/
def downArrives (x : Col) (k r link : Nat) (bs : List Byte) (d : Dev) : Dev :=
  if enOp x.img = 3 then
    let d := colWrite x (enRecv x.img + k * enSlen x.img + r * 400) bs d
    if 0 < x.member then passOn x.handle 1 k r link bs d else d
  else sumArrives x k r link bs d

/-- A COL_DATA is taken by its place in its stream (R329, R331); one that has no place is stale. -/
def dataArrives (e : Env) (x : Col) (n : Nat) (p : Pkt) (d : Dev) : Dev :=
  match streamOf d x false n p with
  | none => colStale e n p d
  | some (i, k) =>
    match x.streams[i]? with
    | none => d
    | some s =>
      let q := k + cntGet s.moved k * s.cables.length
      let ppk := shardPackets x.img
      if enOp x.img = 4 ∨ q ≥ s.total ∨ p.data.length ≠ shardBytes x.img (q % ppk) then colStale e n p d
      else
        let d := updStream d x.handle i (fun s => { s with moved := cntAdd s.moved k 1, credit := cntSub s.credit k 1, started := true })
        let shard := s.first + q / ppk
        let d := if s.dir = 0 then upArrives e x shard (q % ppk) n p.data d else downArrives x shard (q % ppk) n p.data d
        pumpCol e d x.handle

/-- Whether a byte lies in a receive piece. -/
def inPieces (ps : List Nat) (a : Nat) : Bool := ps.any (fun p => pcLocal p ≤ a && a < pcLocal p + pcLen p)

/-- A PERM_DATA is checked against the receive pieces of its source and written (R332, R334 cause 5). -/
def permArrives (e : Env) (x : Col) (n : Nat) (p : Pkt) (d : Dev) : Dev :=
  let a := leNat (p.data.take 8)
  let bs := p.data.drop 16
  match (if enOp x.img = 4 then streamOf d x false n p else none) with
  | none => let u := linkOr n d; failCol e x 5 u.1 false none u.2
  | some (i, _) =>
    let ok := ((x.streams[i]?).map (fun s => (List.range bs.length).all (fun j => inPieces s.pieces (a + j)))).getD false
    if ok then
      colWrite x a bs (updStream d x.handle i (fun s => { s with moved := cntAdd s.moved 0 bs.length, started := true }))
    else let u := linkOr n d; failCol e x 5 u.1 false none u.2

/-- Whether a packet is of the same step and phase as an open collective (R36, R334 cause 1). -/
def sameRound (x : Col) (p : Pkt) : Bool := bitsOf p.body 43 0 = bitsOf (colKey x) 43 0

/-- A collective packet has come for a collective (R331 to R336): `f` is what an open one of the same round does. -/
def colArrives (e : Env) (n cls vc type : Nat) (f : Col → Pkt → Dev → Dev) (d : Dev) : Dev :=
  match takeHere e n (2 * vc + cls) type d with
  | (none, d) => d
  | (some p, d) =>
    match d.cols.find? (fun x => enId x.img = bitsOf p.body 59 44) with
    | none =>
      if type = 5 ∧ awaited d (bitsOf p.body 59 0) then
        { d with early := d.early ++ [{ pkt := p, via := if n < 36 then some n else none }] }
      else colStale e n p d
    | some x =>
      if sameRound x p then f x p d
      else if type = 7 then colStale e n p d
      else let u := linkOr n d; failCol e x 1 u.1 false none u.2

/-- The peer of a collective whose address a packet came from. -/
def peerFrom (d : Dev) (x : Col) (src : Nat) : Option Nat :=
  (x.streams.map (·.peer)).find? (fun r => rankAddr d r = some src)

/-- A collective is done at this member (R333): every stream has moved, every write has landed, and every packet has
been handed on. -/
def colOver (d : Dev) (x : Col) : Bool := x.unlanded = 0 && x.streams.all (fun s => !unfinished d x s)

/-- The done record (R333). -/
def doneRecord (x : Col) : List Byte :=
  leBytes (packFields [(16, enId x.img), (1, b2n x.ovf), (15, 0), (32, 0), (64, enTrigger x.step x.img)]) 64

/-- The done record goes to every logical tile of the context (R333). -/
def doneArrivals (d : Dev) (x : Col) : List Arrival :=
  (halvesOf d x.c).map (fun t =>
    { src := colSrc x.handle, tile := gridNo d t.1 t.2, off := (shareOf d t.1 t.2 x.c 0).1 + enDoneOff x.img,
      land := enDoneLand x.img, data := doneRecord x })

/-- The k-th open collective is decided done (R333, R336, R354). -/
def colDone (e : Env) (k : Nat) (d : Dev) : Dev :=
  match d.cols[k]? with
  | none => d
  | some x =>
    if !colOver d x then d
    else
      let d := { d with cols := d.cols.filter (fun y => y.handle ≠ x.handle) }
      if x.c < 8 then satAdd e ⟨.LNK_COL_DONE, x.c, 0, 0⟩ 1 { d with arrivals := d.arrivals ++ doneArrivals d x }
      else rset d ⟨.TEST_RCP_STATE, 0, 0, 0⟩ 2

/-- A started stream of the k-th open collective has made no progress for the stall limit (R334 cause 3). -/
def colStalls (e : Env) (k : Nat) (d : Dev) : Dev :=
  match d.cols[k]? with
  | none => d
  | some x => if x.streams.any (fun s => s.started && unfinished d x s) then failHandle e x.handle 3 false d else d

/-- The entry that stands for a recovery permute (R354). -/
def recoveryImage (d : Dev) : Nat :=
  packFields [(4, 4), (12, 0), (16, rget d ⟨.TEST_RCP_ID, 0, 0, 0⟩), (32, 0), (16, 0), (16, 1), (256, 0),
    (32, rget d ⟨.TEST_RCP_PIECES, 0, 0, 0⟩), (64, rbase d ⟨.TEST_RCP_PLAN, 0, 0, 0⟩), (64, 0)]

/-- TEST_RCP_GO (R354, R369). -/
def recoveryGo (e : Env) (d : Dev) : Dev :=
  let free := (List.range 8).all (fun c => ctxState d c = 0 || ctxState d c = 1 || ctxState d c = 3)
  if !free ∨ rget d ⟨.TEST_RCP_STATE, 0, 0, 0⟩ = 1 then regAccess e (regOffset ⟨.TEST_RCP_GO, 0, 0, 0⟩) true d
  else
    let x := recoveryImage d
    let d := rset (rset d ⟨.TEST_RCP_STATE, 0, 0, 0⟩ 1) ⟨.TEST_RCP_CAUSE, 0, 0, 0⟩ 0
    if enMalformed x ∨ idOpen d x then
      let (h, d) := addCol 8 x (rget d ⟨.TEST_RCP_STEP, 0, 0, 0⟩) 0 [] d
      failHandle e h 7 false d
    else openPermute e 8 x (rget d ⟨.TEST_RCP_STEP, 0, 0, 0⟩) 0 d

/-- TEST_RCP_ABORT (R368). -/
def recoveryAbort (e : Env) (d : Dev) : Dev :=
  match d.cols.find? (fun x => x.c = 8) with
  | some x => failHandle e x.handle 6 false d
  | none => d

/-- The k-th write on its way is accepted by its controller (R183, R187, R193): none of its source and stack is
before it. -/
def acceptWrite (e : Env) (k : Nat) (bad : Bool) (d : Dev) : Dev :=
  match d.hbmWr[k]? with
  | none => d
  | some w =>
    if (d.hbmWr.take k).any (fun v => v.src = w.src && hbmStack v.addr = hbmStack w.addr) then d
    else
      let d := { d with hbmWr := d.hbmWr.eraseIdx k }
      if w.addr + w.data.length > hbmCap d then
        match w.owner, w.ctx with
        | .collective h, _ => failHandle e h 7 true (hbmBeyond e w.addr w.ctx none d)
        | .channel p n c h idx issueNo, _ =>
          let d := setChan d p n (stopXfer c h idx issueNo (getChan d p n))
          let x := beyondErr w.addr (some c) (some (idx, issueNo)) d
          failWith e c 9 x.1 x.2
        | .nobody, some c => let x := beyondErr w.addr (some c) none d; failWith e c 9 x.1 x.2
        | .nobody, none => hbmBeyond e w.addr none none d
      else
        let d := match wcbOf d (w.addr / 64) with
          | some x => if bad ∧ w.data.length ≠ 64 then evictFail e x d else d
          | none => d
        ownerLanded w.owner (hbmAccept e w.ctx w.addr w.data d)

/-- A write of the Tabok die is accepted (R180, R187, R193). -/
def tabokWrite (e : Env) (a : Nat) (bs : List Byte) (bad : Bool) (d : Dev) : Dev :=
  if a + bs.length > hbmCap d then hbmBeyond e (max a (hbmCap d)) none none d
  else
    let d := match (if bad then wcbMet d a bs.length else none) with
      | some x => evictFail e x d
      | none => d
    hbmAccept e none a bs d

/-- HBM_WRITE (R187). -/
def execHbmWrite (w : HbmWriteForm) (entry : Finding) (s : State) : Host.Outcome State Fault Refusal :=
  act s true (fun e d => match w with
    | .queued k => acceptWrite e k (isBad entry) d
    | .tabok a bs => tabokWrite e a bs (isBad entry) d)

/-- COLLECTIVE_ENTRY_START (R326). -/
def execCollectiveEntryStart (c : Nat) (s : State) : Host.Outcome State Fault Refusal :=
  act s (c < 8) (fun e d => entryStarts e c d)

/-- COL_DATA (R331). -/
def execColData (n cls : Nat) (s : State) : Host.Outcome State Fault Refusal :=
  act s (n ≤ 36 && cls < 2) (fun e d => colArrives e n cls 2 4 (fun x p d => dataArrives e x n p d) d)

/-- COL_CREDIT (R331). -/
def execColCredit (n cls : Nat) (s : State) : Host.Outcome State Fault Refusal :=
  act s (n ≤ 36 && cls < 2) (fun e d => colArrives e n cls 1 5 (fun x p d => creditArrives e x n p d) d)

/-- PERM_DATA (R332). -/
def execPermData (n cls : Nat) (s : State) : Host.Outcome State Fault Refusal :=
  act s (n ≤ 36 && cls < 2) (fun e d => pumpAll e (colArrives e n cls 2 6 (fun x p d => permArrives e x n p d) d))

/-- COL_ABORT (R335). -/
def execColAbort (n cls : Nat) (s : State) : Host.Outcome State Fault Refusal :=
  act s (n ≤ 36 && cls < 2) (fun e d => colArrives e n cls 1 7 (fun x p d =>
    let u := linkOr n d; failCol e x 6 u.1 false (peerFrom d x p.src) u.2) d)

/-- COLLECTIVE_DONE (R333). -/
def execCollectiveDone (k : Nat) (s : State) : Host.Outcome State Fault Refusal := act s (k < 129) (fun e d => colDone e k d)

/-- COLLECTIVE_STALL (R334). -/
def execCollectiveStall (k : Nat) (s : State) : Host.Outcome State Fault Refusal :=
  act s (k < 129) (fun e d => colStalls e k d)

/-- TEST_RCP_GO (R354). -/
def execTestRcpGo (s : State) : Host.Outcome State Fault Refusal := actT s true (fun e d => recoveryGo e d)

/-- TEST_RCP_ABORT (R368). -/
def execTestRcpAbort (s : State) : Host.Outcome State Fault Refusal := actT s true (fun e d => recoveryAbort e d)

end Sys2Proof.Machine
end

