-- ==== Sys2Proof/Machine/Commit.lean ====
section
/-! DEFINITION. The configuration block: staging, check and commit (R391 to R395). -/

namespace Sys2Proof.Machine

/-- A staging write or a clear is accepted (R410). -/
def stagingOpen (d : Dev) : Bool := cfgState d = 2 && sget d .CFG_COMMIT_BUSY = 0

/-- A staging word is written (R392). -/
def stageWord (e : Env) (w v : Nat) (d : Dev) : Dev :=
  let k : RegKey := ⟨.CFG_STAGE, w, 0, 0⟩
  if stagingOpen d then { rset d k v with stageMask := putBit d.stageMask w true } else regAccess e (regOffset k) true d

/-- CFG_STAGE_CLEAR is written (R392). -/
def stageClear (e : Env) (d : Dev) : Dev :=
  if stagingOpen d then { d with stageMask := 0 } else sRefused e .CFG_STAGE_CLEAR d

/-- CFG_COMMIT is written (R393). -/
def commitStart (e : Env) (d : Dev) : Dev :=
  if sget d .CFG_COMMIT_BUSY = 1 then sRefused e .CFG_COMMIT d else sset .CFG_COMMIT_BUSY 1 d

/-- The staged block as bytes. -/
def stagedBlock (d : Dev) : List Byte := (List.range 256).flatMap (fun w => leBytes (rget d ⟨.CFG_STAGE, w, 0, 0⟩) 4)

/-- The active owner slot: the lowest burned and not revoked (R399). -/
def ownerActive (nv : NonVol) : Option Nat :=
  (List.range 4).find? (fun k => nv.ownerBurned.testBit k && !nv.ownerRevoked.testBit k)

/-- The hash in an owner slot (R409). -/
def ownerFuse (nv : NonVol) (k : Nat) : List Byte := tblGet nv.ownerHash k (List.replicate 32 0)

/-- An owner key record whose full hash the active slot holds (R398). -/
def ownerRecord (nv : NonVol) (rec : List Byte) : Option Cert :=
  match ownerActive nv, certOf rec with
  | some k, some c => if selfSigned c 6 ∧ keyHash c.modulus = ownerFuse nv k then some c else none
  | _, _ => none

/-- An owner key record that the active slot accepts and that meets its KEY_MAX_ARB (R398). -/
def ownerKey (nv : NonVol) (rec : List Byte) : Option Cert :=
  match ownerRecord nv rec with
  | some c => if nv.arbCount ≤ c.maxArb then some c else none
  | none => none

/-- Fields and reserved bits of a block (R391, R393 check 3). -/
def blockForm (b : List Byte) : Bool :=
  fieldAt b 0 4 = 0x47464356 && fieldAt b 4 2 = 1 && zeroBytes b 6 8 && fieldAt b 8 4 = 1024 &&
  fieldAt b 0x18 2 < 2 ^ 13 && fieldAt b 0x1A 2 < 2 ^ 9 && fieldAt b 0x1C 4 < 16 && fieldAt b 0x20 8 < 2 ^ 36 &&
  (List.range 4).all (fun p => fieldAt b (0x2E + 8 * p) 2 = 0) && zeroBytes b 0x48 0x1FC && zeroBytes b 0x200 0x278 &&
  2000 ≤ fieldAt b 0x18 2 && fieldAt b 0x18 2 ≤ 4000

/-- The first check that fails, 0 when none does (R393). -/
def commitCode (nv : NonVol) (rec : List Byte) (d : Dev) : Nat :=
  let b := stagedBlock d
  if cfgState d ≠ 2 then 1
  else if popCount d.stageMask 256 ≠ 256 then 2
  else if !blockForm b then 3
  else if fieldAt b 0x1FC 4 ≠ crc32c (b.take 0x1FC) then 4
  else match ownerKey nv rec with
    | none => 5
    | some c =>
      if fieldAt b 0x278 8 ≠ c.keyId ∨ rsaOk c.modulus (b.take 0x280) (b.drop 0x280) = false then 6
      else if fieldAt b 0x10 8 ≠ nv.serial then 7
      else if bitOf (fieldAt b 0x1A 2) 6 ∧ fieldAt b 0x1A 2 % 64 ≠ sget d .CFG_SLOT_ID then 8
      else if fieldAt b 0xC 4 < sget d .CFG_VER_FLOOR then 9
      else 0

/-- Measurements of the block and of the owner key record (R395, R403, R406). -/
def measureBlock (e : Env) (rec : List Byte) (d : Dev) : Dev :=
  let b := stagedBlock d
  let owner := fieldAt b 0x278 8
  let d := measure { kind := 5, version := fieldAt b 0xC 4, keyId := owner, ft := e.clk.ft, digest := sha256 (b.take 0x280) } d
  measure { kind := 7, keyId := owner, ft := e.clk.ft, digest := sha256 (rec.take 0x280) } d

/-- A port after the commit: in ETH_MASK it trains, outside it stays disabled (R395). -/
def portsFrom (mask : Nat) (d : Dev) : Dev :=
  (List.range 4).foldl (fun d p => rset d ⟨.ETH_PORT_STATE, p, 0, 0⟩ (if mask.testBit p then 1 else 3)) d

/-- An accepted block takes effect (R395). -/
def commitEffects (e : Env) (rec : List Byte) (d : Dev) : NonVol × Dev :=
  let b := stagedBlock d
  let ver := fieldAt b 0xC 4
  let d1 := sset .CFG_DEBUG_ALLOW (fieldAt b 0x1A 2 / 128) (sset .CFG_JTAG_ALLOW (fieldAt b 0x1A 2 / 256) (sset .CFG_VERSION ver d))
  let d2 := budgetFell e (wset .PWR_BUDGET_W (fieldAt b 0x18 2) (measureBlock e rec d1))
  let macs := (List.range 4).map (fun p => (p, fieldAt b (0x28 + 8 * p) 6))
  let d3 := portsFrom (fieldAt b 0x1C 1) { d2 with ethMacs := macs, ethMask := fieldAt b 0x1C 1, linkMask := fieldAt b 0x20 8 }
  let d4 := sset .CFG_STATE 3 d3
  ({ e.nv with cfgBlock := b, ownerRec := rec, verFloor := ver }, { d4 with pins := { d4.pins with ready := true } })

/-- The owner key record that a check reads: the bytes at SEC_CERT_ADDR, or those in flash (R393). -/
def ownerRecRead (e : Env) (rec : List Byte) (d : Dev) : List Byte × Dev :=
  let a := sget d .SEC_CERT_ADDR
  if a = 0 then (e.nv.ownerRec, d) else if inTabok a 1024 then (rec, d) else ([], hostAccess e a false d)

/-- The check of the staged block ends (R393, R395). -/
def commitDone (e : Env) (rec : List Byte) (d : Dev) : NonVol × Dev :=
  if sget d .CFG_COMMIT_BUSY = 0 then (e.nv, d)
  else
    let r := ownerRecRead e rec d
    let code := commitCode e.nv r.1 r.2
    let after := if code = 0 then commitEffects e r.1 r.2 else (e.nv, r.2)
    (after.1, { sset .CFG_COMMIT_BUSY 0 (sset .CFG_COMMIT_RESULT code after.2) with stageMask := 0 })

/-- CFG_STAGE (R392). -/
def execCfgStage (w : Nat) (v : Word) (s : State) : Host.Outcome State Fault Refusal :=
  actT s (w < 256) (fun e d => stageWord e w v.toNat d)

/-- CFG_STAGE_CLEAR (R392). -/
def execCfgStageClear (s : State) : Host.Outcome State Fault Refusal := actT s true (fun e d => stageClear e d)

/-- CFG_COMMIT (R393). -/
def execCfgCommit (s : State) : Host.Outcome State Fault Refusal := actT s true (fun e d => commitStart e d)

/-- CFG_COMMIT_DONE (R395). -/
def execCfgCommitDone (ownerRec : List Byte) (s : State) : Host.Outcome State Fault Refusal :=
  actNv s (fun e d => commitDone e ownerRec d)

end Sys2Proof.Machine
end

