-- ==== Sys2Proof/Machine/Eth.lean ====
section
/-! DEFINITION. Storage Ethernet: queue pairs, work requests, frames and flow control (R279 to R281, R450). -/

namespace Sys2Proof.Machine

/-- A queue pair (R280). -/
def getQp (d : Dev) (port qp : Nat) : Qp := tblGet d.qps (port * 1024 + qp) {}
def setQp (port qp : Nat) (q : Qp) (d : Dev) : Dev :=
  { d with qps := tblSet (fun k => k) d.qps (port * 1024 + qp) q {} }

/-- A register of a queue pair, and of a port. -/
def qget (d : Dev) (r : Reg) (port qp : Nat) : Nat := rget d ⟨r, port, qp, 0⟩
def pget (d : Dev) (r : Reg) (port : Nat) : Nat := rget d ⟨r, port, 0, 0⟩

/-- Window offset of a word of a port's block (R281). -/
def ethOff (port off : Nat) : Nat := 0x500000 + 0x1000 * port + off

/-- A port is up and may send (R281, R361). -/
def portUp (d : Dev) (port : Nat) : Bool := pget d .ETH_PORT_STATE port = 2
def portSends (d : Dev) (port : Nat) : Bool := portUp d port && rget d ⟨.TEST_DRAINED, 0, 0, 0⟩ = 0

/-- Sending on a priority is paused by flow control (R279). -/
def prioPaused (e : Env) (d : Dev) (port q : Nat) : Bool := e.clk.ns < tblGet d.pfc (port * 8 + q) 0

/-- Payload bytes counted in units of 4 KiB (R281): dir 0 received, 1 sent. -/
def countBytes (e : Env) (port dir n : Nat) (d : Dev) : Dev :=
  let k := port * 2 + dir
  let t := tblGet d.ethRem k 0 + n
  let r : RegKey := ⟨if dir = 0 then .ETH_RX_BYTES else .ETH_TX_BYTES, port, 0, 0⟩
  satAdd e r (t / 4096) { d with ethRem := tblSet (fun k => k) d.ethRem k (t % 4096) 0 }

/-- Fields of a work request (R280). -/
def wrOp (w : Nat) : Nat := bitsOf w 39 32
def wrFence (w : Nat) : Bool := bitOf w 40
def wrLocal (w : Nat) : Nat := bitsOf w 127 64
def wrRemote (w : Nat) : Nat := bitsOf w 191 128
def wrLen (w : Nat) : Nat := bitsOf w 223 192
def wrKey (w : Nat) : Nat := bitsOf w 255 224

/-- A work request that the device does not act on (R12, R280): reserved operation or bits, a length out of range,
fields of a SEND that must be 0, or an NVMe operation on a queue pair without NVMe. -/
def wrBad (d : Dev) (port qp w : Nat) : Bool :=
  let op := wrOp w
  op = 0 || op > 5 || bitsOf w 63 41 ≠ 0 || bitsOf w 511 256 ≠ 0 || wrLen w = 0 || wrLen w > 2 ^ 31 ||
  (op = 3 && (wrRemote w ≠ 0 || wrKey w ≠ 0)) || (op ≥ 4 && qget d .ETH_QP_NVME port qp = 0)

/-- A doorbell of a queue pair (R268, R270, R280): an index at or behind the one in force, or one that the ring cannot
hold, changes nothing. -/
def ethDoorbell (port v : Nat) (d : Dev) : Dev :=
  let qp := bitsOf v 25 16
  let p := bitsOf v 15 0
  let q := getQp d port qp
  let dd := ringUsed p q.cons
  if qget d .ETH_QP_EN port qp = 0 ∨ dd ≤ ringUsed q.prod q.cons ∨ dd > 2 ^ qget d .ETH_QP_SQ_LOG2 port qp - 1 then d
  else setQp port qp { q with prod := p } d

/-- The queue pair stops taking requests (R272, R450). -/
def qpStops (port qp : Nat) (d : Dev) : Dev := setQp port qp { getQp d port qp with stopped := true } d

/-- What a read of the next work request meets. -/
inductive WrCase
  | none
  | noMemory
  | mismatch
  | waits
  | takes
  deriving DecidableEq, Repr

/-- The request at the head of a send ring (R268, R271, R272, R280, R450). -/
def wrCase (e : Env) (d : Dev) (port qp w : Nat) : WrCase :=
  let q := getQp d port qp
  let a := ringAddr (qget d .ETH_QP_SQ port qp) (qget d .ETH_QP_SQ_LOG2 port qp) 64 q.cons
  if qget d .ETH_QP_EN port qp = 0 ∨ q.stopped ∨ q.cons = q.prod then .none
  else if !inTabok a 64 then .noMemory
  else if w % 2 ^ 32 ≠ q.expect then .mismatch
  else if wrFence w && !q.flights.isEmpty then .waits
  else if !portSends d port || prioPaused e d port (pget d .ETH_ROCE_PRIO port) then .waits
  else .takes

/-- The request is taken and starts (R280): `r` says how it stands and `d` is the device after its own effect. -/
def wrTaken (port qp w : Nat) (r : Wr) (d : Dev) : Dev :=
  let q := getQp d port qp
  let fs := q.flights ++ [{ r with seq := w % 2 ^ 32 }]
  setQp port qp { q with cons := (q.cons + 1) % 65536, expect := (q.expect + 1) % 2 ^ 32, missed := 0, flights := fs } d

/-- An operation goes to the remote side. -/
def wrSends (e : Env) (port qp w sent : Nat) (data : List Byte) (d : Dev) : Dev :=
  countBytes e port 1 sent { d with outbox := d.outbox ++ [.remote port qp (wrOp w) (wrRemote w) (wrKey w) (wrLen w) data] }

/-- A request that reads remote bytes into HBM (operations 1 and 4). -/
def wrReads (e : Env) (port qp w : Nat) (d : Dev) : Wr × Dev :=
  if wrLocal w + wrLen w > hbmCap d then
    ({ op := wrOp w, cause := 9 }, hbmBeyond e (max (wrLocal w) (hbmCap d)) none none d)
  else ({ op := wrOp w, local_ := wrLocal w, len := wrLen w }, wrSends e port qp w 0 [] d)

/-- A request that sends bytes of HBM (operations 2 and 5, R192). -/
def wrWrites (e : Env) (port qp w : Nat) (d : Dev) : Wr × Dev :=
  match hbmRead d (wrLocal w) (wrLen w) with
  | .ok bs => ({ op := wrOp w, len := wrLen w }, wrSends e port qp w (wrLen w) bs (hbmDone e (wrLocal w) (wrLen w) d))
  | .beyond => ({ op := wrOp w, cause := 9 }, hbmBeyond e (max (wrLocal w) (hbmCap d)) none none d)
  | r => ({ op := wrOp w, cause := 4 }, hbmFailed e (wrLocal w) (wrLen w) r d)

/-- A SEND of bytes of Tabok memory (operation 3, R450). -/
def wrSend (e : Env) (data : List Byte) (port qp w : Nat) (d : Dev) : Wr × Dev :=
  if inTabok (wrLocal w) (wrLen w) then
    ({ op := 3, len := wrLen w }, wrSends e port qp w (wrLen w) (data.take (wrLen w)) d)
  else ({ op := 3, cause := 16 }, hostAccess e (wrLocal w) false d)

/-- A work request of operation `op` is read and, where it may be, taken and started. -/
def workRequest (op : Nat) (start : Env → Nat → Nat → Nat → Dev → Wr × Dev) (e : Env) (port qp w : Nat) (d : Dev) : Dev :=
  match wrCase e d port qp w with
  | .none => d
  | .waits => d
  | .noMemory =>
    let a := ringAddr (qget d .ETH_QP_SQ port qp) (qget d .ETH_QP_SQ_LOG2 port qp) 64 (getQp d port qp).cons
    qpStops port qp (hostAccess e a false d)
  | .mismatch =>
    let q := getQp d port qp
    let d := setQp port qp { q with missed := q.missed + 1 } d
    if q.missed + 1 = 17 then
      qpStops port qp (logError e { cls := 0x0501, level := 4, kind := 3, index := port, syn := q.cons } d)
    else d
  | .takes =>
    if wrBad d port qp w then
      let r : Wr := { op := wrOp w, cause := 10, aux := d.logNext }
      let x := (getQp d port qp).cons + w % 2 ^ 32 * 2 ^ 32
      wrTaken port qp w r (logError e { cls := 0x0201, level := 4, kind := 3, index := port, syn := x } d)
    else if wrOp w = op then
      let (r, d) := start e port qp w d
      wrTaken port qp w r d
    else d

/-- FAIL_CAUSE and AUX of a request that ended, and the device with the bytes it brought (R183, R280). -/
def wrOutcome (e : Env) (port : Nat) (f : Wr) (o : WrEnd) (d : Dev) : Nat × Nat × Dev :=
  if f.cause ≠ 0 then (f.cause, f.aux, d)
  else match o with
    | .remoteAccess => (16, 0, d)
    | .retriesExhausted => (17, 0, d)
    | .nvmeStatus x => if x = 0 then (0, 0, d) else (18, x, d)
    | .ok data =>
      if f.op ≠ 1 ∧ f.op ≠ 4 then (0, 0, d)
      else if f.local_ + f.len > hbmCap d then (9, 0, hbmBeyond e (max f.local_ (hbmCap d)) none none d)
      else (0, 0, countBytes e port 0 f.len (hbmAccept e none f.local_ (data.take f.len) d))

/-- Free places of a queue pair's completion ring. -/
def qpRoom (d : Dev) (port qp : Nat) : Nat :=
  2 ^ qget d .ETH_QP_CQ_LOG2 port qp - 1 - ringUsed (getQp d port qp).cqProd (qget d .ETH_QP_CQ_CONS port qp)

/-- A work request ends and its completion record is written (R274, R280), once the ring has room. -/
def requestEnds (e : Env) (port qp seq : Nat) (o : WrEnd) (d : Dev) : Dev :=
  let q := getQp d port qp
  match q.flights.find? (fun f => f.seq = seq) with
  | none => d
  | some f =>
    if qpRoom d port qp = 0 then d
    else
      let (cause, aux, d) := wrOutcome e port f o d
      let r : Done := { seq := seq, outcome := if cause = 0 then 0 else 2, cause := cause, aux := aux, ft := e.clk.ft, rc := d.rc }
      let a := ringAddr (qget d .ETH_QP_CQ port qp) (qget d .ETH_QP_CQ_LOG2 port qp) 32 q.cqProd
      let d := setQp port qp { q with flights := q.flights.erase f, cqProd := (q.cqProd + 1) % 65536, cseq := (q.cseq + 1) % 2 ^ 32 } d
      hostWrite e a (leBytes (cqImage q.cseq r) 32) d

/-- L of a send or completion ring is in range. -/
def log2Ok (l : Nat) : Bool := 6 ≤ l && l ≤ 16

/-- A write of the word of ETH_QP_EN (R281). While the queue pair is enabled, only a write that clears ETH_QP_EN is
taken, and it changes nothing else (notes/assumptions/41.md). -/
def writeQpEn (e : Env) (port v : Nat) (d : Dev) : Dev :=
  let qp := pget d .ETH_QP_SEL port
  let sq := bitsOf v 4 0
  let cq := bitsOf v 12 8
  let en := bitOf v 16
  if !(log2Ok sq && log2Ok cq) then regAccess e (ethOff port 0x24) true d
  else if qget d .ETH_QP_EN port qp = 1 then
    if en then regAccess e (ethOff port 0x24) true d else rset d ⟨.ETH_QP_EN, port, qp, 0⟩ 0
  else
    let d := rset (rset d ⟨.ETH_QP_SQ_LOG2, port, qp, 0⟩ sq) ⟨.ETH_QP_CQ_LOG2, port, qp, 0⟩ cq
    let d := rset (rset d ⟨.ETH_QP_NVME, port, qp, 0⟩ (b2n (bitOf v 17))) ⟨.ETH_QP_EN, port, qp, 0⟩ (b2n en)
    if en then
      setQp port qp { expect := qget d .ETH_QP_SEQ0 port qp } (rset d ⟨.ETH_QP_CQ_CONS, port, qp, 0⟩ 0)
    else d

/-- A port of ETH_MASK that is down or trains is up, with its reference there (R383, R390, R395). -/
def portTrained (port : Nat) (d : Dev) : Dev :=
  if d.ethMask.testBit port ∧ pget d .ETH_PORT_STATE port ≤ 1 ∧ rget d ⟨.CLK_DOM_STATE, 7, 0, 0⟩ ≠ 3 then
    rset d ⟨.ETH_PORT_STATE, port, 0, 0⟩ 2
  else d

/-- A frame that a port may carry (R279, R281). -/
def frameFits (d : Dev) (port : Nat) (frame : List Byte) : Bool := frame.length ≤ pget d .ETH_MAX_FRAME port

/-- A frame passes between a port and the host queue; its payload is what follows the 14 bytes of its header. -/
def passFrame (e : Env) (port : Nat) (toHost : Bool) (frame : List Byte) (d : Dev) : Dev :=
  countBytes e port (if toHost then 0 else 1) (frame.length - 14) { d with outbox := d.outbox ++ [.frame port toHost frame] }

/-- A flow control frame pauses or resumes the priorities it names among those of ETH_PFC_EN (R279): a quantum is 512
bit times, 0.64 ns at 800 Gb/s. -/
def pauseFrame (e : Env) (port prios quanta : Nat) (d : Dev) : Dev :=
  (onesOf (prios &&& pget d .ETH_PFC_EN port) 8).foldl (fun d q =>
    { d with pfc := tblSet (fun k => k) d.pfc (port * 8 + q) (if quanta = 0 then 0 else e.clk.ns + ceilDiv (quanta * 64) 100) 0 }) d

/-- ETH_DOORBELL (R280). -/
def execEthDoorbell (port : Nat) (v : Word) (s : State) : Host.Outcome State Fault Refusal :=
  actT s (port < 4) (fun _ d => ethDoorbell port v.toNat d)

/-- RDMA_READ (R280). -/
def execRdmaRead (port qp : Nat) (wr : List Byte) (s : State) : Host.Outcome State Fault Refusal :=
  act s (port < 4 && qp < 1024) (fun e d => workRequest 1 wrReads e port qp (leNat wr) d)

/-- RDMA_WRITE (R280). -/
def execRdmaWrite (port qp : Nat) (wr : List Byte) (s : State) : Host.Outcome State Fault Refusal :=
  act s (port < 4 && qp < 1024) (fun e d => workRequest 2 wrWrites e port qp (leNat wr) d)

/-- SEND (R280). -/
def execSend (port qp : Nat) (wr data : List Byte) (s : State) : Host.Outcome State Fault Refusal :=
  act s (port < 4 && qp < 1024) (fun e d => workRequest 3 (fun e => wrSend e data) e port qp (leNat wr) d)

/-- NVME_READ (R280). -/
def execNvmeRead (port qp : Nat) (wr : List Byte) (s : State) : Host.Outcome State Fault Refusal :=
  act s (port < 4 && qp < 1024) (fun e d => workRequest 4 wrReads e port qp (leNat wr) d)

/-- NVME_WRITE (R280). -/
def execNvmeWrite (port qp : Nat) (wr : List Byte) (s : State) : Host.Outcome State Fault Refusal :=
  act s (port < 4 && qp < 1024) (fun e d => workRequest 5 wrWrites e port qp (leNat wr) d)

/-- WORK_REQUEST_COMPLETE (R280). -/
def execWorkRequestComplete (port qp seq : Nat) (o : WrEnd) (s : State) : Host.Outcome State Fault Refusal :=
  act s (port < 4 && qp < 1024) (fun e d => requestEnds e port qp seq o d)

/-- ETH_QP_EN (R281). -/
def execEthQpEn (port : Nat) (v : Word) (s : State) : Host.Outcome State Fault Refusal :=
  actT s (port < 4) (fun e d => writeQpEn e port v.toNat d)

/-- ETH_PORT_TRAINED (R390). -/
def execEthPortTrained (port : Nat) (s : State) : Host.Outcome State Fault Refusal :=
  act s (port < 4) (fun _ d => portTrained port d)

/-- HOST_FRAME_RX (R279). -/
def execHostFrameRx (port : Nat) (frame : List Byte) (s : State) : Host.Outcome State Fault Refusal :=
  act s (port < 4) (fun e d => if portUp d port && frameFits d port frame then passFrame e port true frame d else d)

/-- HOST_FRAME_TX (R279). -/
def execHostFrameTx (port : Nat) (frame : List Byte) (s : State) : Host.Outcome State Fault Refusal :=
  act s (port < 4) (fun e d => if portSends d port && frameFits d port frame then passFrame e port false frame d else d)

/-- PRIORITY_FLOW_CONTROL_RX (R279). -/
def execPriorityFlowControlRx (port : Nat) (prios : BitVec 8) (quanta : Nat) (s : State) :
    Host.Outcome State Fault Refusal :=
  act s (port < 4) (fun e d => if portUp d port then pauseFrame e port prios.toNat quanta d else d)

end Sys2Proof.Machine
end

