-- ==== Sys2Proof/Machine/Link.lean ====
section
/-! DEFINITION. Link interfaces: flits, retry, link states, control packets, the time tree and the hoist (R285, R286,
R292 to R294, R296, R298, R300 to R306, R313, R314, R316, R383). -/

namespace Sys2Proof.Machine

/-- A link's register. -/
def lget (d : Dev) (r : Reg) (n : Nat) : Nat := rget d ⟨r, n, 0, 0⟩
def lset (r : Reg) (n v : Nat) (d : Dev) : Dev := rset d ⟨r, n, 0, 0⟩ v

/-- The interrupt of link events (R319). -/
def linkIrq (d : Dev) : Dev := sendIrq (rget d ⟨.LNK_IRQ_VEC, 0, 0, 0⟩) d

/-- A control packet joins those that a link sends. -/
def sendCtl (n : Nat) (p : Pkt) (d : Dev) : Dev := updLink d n (fun l => { l with ctl := l.ctl ++ [p] })

/-- A control packet of this device (R289). -/
def ctlPkt (e : Env) (d : Dev) (type body : Nat) (data : List Byte) : Pkt :=
  sealPkt { src := myAddr d, vc := 3, type := type, birth := birthNow e, body := body, data := data }

/-- Links of a 36-bit mask. -/
def linksOf (mask : Nat) : List Nat := onesOf mask 36

/-- Every link of the device that is not DISABLED is DOWN, and there is one (R302). -/
def allLinksDown (d : Dev) : Bool :=
  (List.range 36).all (fun n => lget d .LNK_STATE n = 0 || lget d .LNK_STATE n = 4) &&
  (List.range 36).any (fun n => lget d .LNK_STATE n = 0)

/-- A device whose own links are all DOWN halts every loaded context and reports (R302). -/
def haltIfAlone (d : Dev) : Dev :=
  if allLinksDown d then
    let d := (List.range 8).foldl (fun d c => haltCtx c d) d
    { d with outbox := d.outbox ++ [.service "every link DOWN" 0] }
  else d

/-- A packet of the replay buffer of a link that is gone (R294). -/
def dropReplayed (e : Env) (n : Nat) (d : Dev) (p : Pkt) : Dev :=
  if p.vc = 3 then d
  else if p.src = myAddr d then undeliver e 36 2 { pkt := p, via := some n } d
  else undeliver e n 2 { pkt := p } d

/-- A link no longer carries anything (R294, R300): what was held for it is discarded and answered. -/
def dropHeld (e : Env) (n : Nat) (d : Dev) : Dev :=
  let pkts := (getLink d n).replay.flatMap (·.pkts)
  let d := updLink d n (fun l => { l with replay := [], resend := none, ctl := [], measures := 0 })
  sweepAll e (pkts.foldl (dropReplayed e n) d)

/-- A link leaves service for a state: 0 DOWN, 4 DISABLED. -/
def linkLeaves (e : Env) (n st : Nat) (d : Dev) : Dev :=
  let d := lset .LNK_NBR_VALID n 0 (lset .LNK_LANES n 0 (lset .LNK_STATE n st d))
  haltIfAlone (dropHeld e n (updLink d n (fun l => { l with again := false })))

/-- A link goes DOWN with its record (R300): code 0 heartbeat, 1 retrain failed, 2 training failed. -/
def linkDown (e : Env) (n code : Nat) (d : Dev) : Dev :=
  linkLeaves e n 0 (logError e (linkErr 0x0401 n (n + code * 64)) d)

/-- Words of a link's buffer that packets of virtual channel v still hold. -/
def wordsHeld (l : Link) (v : Nat) : Nat := ((l.rx.filter (fun q => pktVc q.pkt = v)).map (fun q => pktWords q.pkt)).sum

/-- A link starts with nothing to replay and no credit; each end owes the other the words that are free in its own
buffer (R296; notes/assumptions/42.md). -/
def freshLink (d : Dev) (n : Nat) (l : Link) : Link :=
  { l with rxNext := 0, rxAny := false, nak := false, rejecting := false, txNext := 0, replay := [], resend := none,
           credit := [], owed := ((List.range 8).map (fun v => (v, rget d ⟨.LNK_VCBUF, n, v, 0⟩ * 16 - wordsHeld l v))).filter (fun x => x.2 ≠ 0),
           ctl := [], measures := 16, again := false }

/-- Lanes that can lock: not those left out (R300). -/
def lanesUp (d : Dev) (n lanes : Nat) : Nat := min lanes (8 - popCount (lget d .LNK_LANE_RETIRE n) 8)

/-- A MEASURE request goes out (R303, R304). -/
def askMeasure (e : Env) (n : Nat) (d : Dev) : Dev := sendCtl n (ctlPkt e d 0x25 0 []) d

/-- The word of R306 that describes this device and a link of it. -/
def identityWord (e : Env) (d : Dev) (n : Nat) : Nat :=
  packFields [(16, myAddr d), (1, rget d ⟨.LNK_ADDR_V, 0, 0, 0⟩), (1, b2n e.nv.gradeE), (1, e.nv.stepping),
    (6, rget d ⟨.CFG_SLOT_ID, 0, 0, 0⟩), (6, n), (1, 1)]

/-- IDENTITY goes out (R306). -/
def sendIdentity (e : Env) (n : Nat) (d : Dev) : Dev :=
  sendCtl n (ctlPkt e d 0x21 0 (leBytes (packFields [(64, e.nv.serial), (32, identityWord e d n)]) 32)) d

/-- Training of a link ends (R300). -/
def trainingEnds (e : Env) (n lanes : Nat) (d : Dev) : Dev :=
  if lget d .LNK_STATE n ≠ 1 then d
  else if lanesUp d n lanes ≥ 4 then
    let d := lset .LNK_LANES n (lanesUp d n lanes) (lset .LNK_STATE n 2 d)
    linkIrq (askMeasure e n (setLink d n (freshLink d n (getLink d n))))
  else updLink (linkDown e n 2 d) n (fun l => { l with again := true })

/-- Training restarts after a failure, while LNK_EN is 1 (R300). -/
def trainingAgain (n : Nat) (d : Dev) : Dev :=
  if lget d .LNK_STATE n = 0 ∧ lget d .LNK_EN n = 1 ∧ (getLink d n).again then lset .LNK_STATE n 1 d else d

/-- An UP link retrains, its flits held (R294, R300). -/
def startRetrain (n : Nat) (d : Dev) : Dev := if linkUp d n then lset .LNK_STATE n 3 d else d

/-- A RETRAIN fails (R300). -/
def retrainFails (e : Env) (n : Nat) (d : Dev) : Dev :=
  linkIrq (linkDown e n 1 (rbit d ⟨.LNK_RETRAIN_FAIL, n, 0, 0⟩))

/-- A RETRAIN ends (R300): replay resumes with the count of sendings begun anew. -/
def retrainEnds (e : Env) (n lanes : Nat) (d : Dev) : Dev :=
  if lget d .LNK_STATE n ≠ 3 then d
  else if lanesUp d n lanes ≥ 4 then
    let d := lset .LNK_LANES n (lanesUp d n lanes) (lset .LNK_STATE n 2 d)
    updLink d n (fun l => { l with resend := if l.replay.isEmpty then none else some 0,
                                   replay := l.replay.map (fun f => { f with sends := 0 }) })
  else retrainFails e n d

/-- LNK_EN may be written 1: operational, and the link is in LINK_MASK (R389, R395). -/
def linkAllowed (d : Dev) (n : Nat) : Bool := rget d ⟨.CFG_STATE, 0, 0, 0⟩ = 3 && d.linkMask.testBit n

/-- Window offset of a word of a link's block (R318). -/
def linkOff (n off : Nat) : Nat := 0x400000 + 0x1000 * n + off

/-- LNK_EN written 1 (R300, R389, R395). -/
def linkEnable (e : Env) (n : Nat) (d : Dev) : Dev :=
  if !linkAllowed d n then regAccess e (linkOff n 4) true d
  else
    let d := lset .LNK_EN n 1 d
    if lget d .LNK_STATE n = 4 then lset .LNK_STATE n 1 d else d

/-- LNK_EN written 0 (R300). -/
def linkDisable (e : Env) (n : Nat) (d : Dev) : Dev := linkLeaves e n 4 (lset .LNK_EN n 0 d)

/-- Flits that an ACK covers leave the replay buffer (R293). -/
def ackFlits (ack : Nat) (fs : List Flit) : List Flit :=
  if fs.any (fun f => f.seq = ack) then (fs.dropWhile (fun f => f.seq ≠ ack)).drop 1 else fs

/-- An ACK, and a NAK, are taken from a flit's header (R292, R293). -/
def takeAck (h : Nat) (l : Link) : Link :=
  let l1 := if bitOf h 24 then
      let fs := ackFlits (bitsOf h 23 12) l.replay
      { l with replay := fs, resend := l.resend.bind (fun i =>
          let j := i - (l.replay.length - fs.length)
          if j < fs.length then some j else none) }
    else l
  if bitOf h 25 ∧ !l1.replay.isEmpty then { l1 with resend := some 0 } else l1

/-- One credit return (R286, R296): VC, DLC and words. -/
def takeCredit (x : Nat) (l : Link) : Link :=
  { l with credit := cntAdd l.credit (2 * bitsOf x 1 0 + bitsOf x 2 2) (bitsOf x 11 3) }

/-- The packet types of R289. -/
def typeKnown (t : Nat) : Bool := (1 ≤ t && t ≤ 7) || (0x20 ≤ t && t ≤ 0x25)

/-- The packets of an accepted flit go into their buffers; one of a reserved type is discarded (R289, R292). -/
def bufferPkts (e : Env) (n : Nat) (ps : List Pkt) (d : Dev) : Dev :=
  let d := updLink d n (fun l => { l with rx := l.rx ++ (ps.filter (fun p => typeKnown p.type)).map (fun p => { pkt := p }) })
  (ps.filter (fun p => !typeKnown p.type)).foldl (fun d p => freeWords n p (discardPkt e n 0 { pkt := p } d)) d

/-- A sequenced flit that is not accepted (R292). -/
def rejectFlit (n : Nat) (d : Dev) : Dev :=
  updLink d n (fun l => if l.rejecting then l else { l with rejecting := true, nak := true })

/-- A flit's packets are accepted (R292). -/
def acceptFlit (e : Env) (n h : Nat) (area : List Byte) (d : Dev) : Dev :=
  let d := updLink d n (fun l => { l with rxNext := (l.rxNext + 1) % 4096, rxAny := true, rejecting := false })
  let d := satAdd e ⟨.LNK_FLITS_RX, n, 0, 0⟩ 1 d
  sweepLink e (bufferPkts e n (takePkts (bitsOf h 31 27) area) d) n

/-- A block arrives on an UP link (R285 to R287, R292). -/
def flitArrives (e : Env) (n : Nat) (block : List Byte) (d : Dev) : Dev :=
  if !linkUp d n then d
  else
    let (flit, corr, unc) := flitOf block
    let d := satAdd e ⟨.LNK_FEC_UNCORR, n, 0, 0⟩ unc (satAdd e ⟨.LNK_FEC_CORR, n, 0, 0⟩ corr d)
    if crc32c (flit.take 428) ≠ leNat ((flit.drop 428).take 4) then
      rejectFlit n (satAdd e ⟨.LNK_CRC_BAD, n, 0, 0⟩ 1 d)
    else
      let h := leNat (flit.take 8)
      let d := updLink d n (fun l => takeCredit (bitsOf h 55 44) (takeCredit (bitsOf h 43 32) (takeAck h l)))
      if bitOf h 26 then d
      else if unc = 0 ∧ bitsOf h 11 0 = (getLink d n).rxNext then acceptFlit e n h ((flit.drop 8).take 420) d
      else rejectFlit n d

/-- A packet that may go into the flit being filled: its buffer, itself, and the virtual channel it leaves on. -/
structure OutCand where
  inp : Nat
  q : Queued
  v : Nat
  deriving DecidableEq, Repr

/-- Whether a head packet is older (R298): BIRTH modulo 2¹⁶ within 2¹⁵; ties go to the lower VC, class 1, the lower
input. -/
def older (a b : OutCand) : Bool :=
  let k := (b.q.pkt.birth + 65536 - a.q.pkt.birth) % 65536
  if k ≠ 0 then k < 32768
  else if a.v / 2 ≠ b.v / 2 then a.v / 2 < b.v / 2
  else if a.v % 2 ≠ b.v % 2 then a.v % 2 = 1
  else a.inp < b.inp

/-- The heads of a buffer: the first packet of each virtual channel, and of each cable for packets made here. -/
def headsOf (l : Link) : List Queued :=
  (l.rx.foldl (fun (acc : List Queued) q =>
    if acc.any (fun x => pktVc x.pkt = pktVc q.pkt && x.via = q.via) then acc else acc ++ [q]) []).filter (fun q => q.pkt.vc ≠ 3)

/-- The virtual channel on which a packet of buffer `inp` leaves (R308). -/
def outVc (inp : Nat) (q : Queued) (dlx : Bool) : Nat :=
  if dlx ∧ inp < 36 then 2 * q.pkt.vc + 1 else pktVc q.pkt

/-- Packets that may go out on link n with `room` bytes left, and credit for all their words (R296, R298). -/
def candidates (d : Dev) (n room : Nat) : List OutCand :=
  (List.range 37).flatMap (fun inp => (headsOf (getLink d inp)).filterMap (fun q =>
    match routeOf d inp q with
    | .port m dlx =>
      let v := outVc inp q dlx
      if m = n ∧ 20 + q.pkt.data.length ≤ room ∧ pktWords q.pkt ≤ cntGet (getLink d n).credit v then some ⟨inp, q, v⟩ else none
    | _ => none))

/-- The oldest of some packets. -/
def oldest : List OutCand → Option OutCand
  | [] => none
  | x :: xs => some (xs.foldl (fun a b => if older b a then b else a) x)

/-- LNK_DLX_TWICE is set at the link that a packet leaves on or at the one it came on: R308 does not say which. -/
def dlxTwice (n inp : Nat) (d : Dev) : Dev :=
  let (u, d) := takeFree d
  rbit d ⟨.LNK_DLX_TWICE, if u % 2 = 0 then n else inp, 0, 0⟩

/-- A packet leaves its buffer for link n (R296, R308). -/
def movePkt (n : Nat) (x : OutCand) (d : Dev) : Pkt × Dev :=
  let dlx : Bool := match routeOf d x.inp x.q with
    | .port _ b => b
    | _ => false
  let d := if dlx ∧ x.inp < 36 ∧ x.q.pkt.dlc = 1 then dlxTwice n x.inp d else d
  let d := freeWords x.inp x.q.pkt (updLink d x.inp (fun l => { l with rx := l.rx.erase x.q }))
  let d := updLink d n (fun l => { l with credit := cntSub l.credit x.v (pktWords x.q.pkt) })
  ({ x.q.pkt with dlc := x.v % 2 }, d)

/-- A control packet as it is sent: TIME carries the fabric time of its sending (R289). -/
def stampCtl (e : Env) (p : Pkt) : Pkt := if p.type = 0x22 then sealPkt { p with body := e.clk.ft } else p

/-- Control packets that fit go first (R298). -/
def fillCtl (e : Env) (n : Nat) : Nat → Nat → List Pkt → Dev → List Pkt × Nat × Dev
  | 0, room, acc, d => (acc, room, d)
  | k + 1, room, acc, d =>
    match (getLink d n).ctl with
    | [] => (acc, room, d)
    | p :: ps =>
      if 20 + p.data.length ≤ room ∧ pktWords p ≤ cntGet (getLink d n).credit 6 then
        fillCtl e n k (room - (20 + p.data.length)) (acc ++ [stampCtl e p])
          (updLink d n (fun l => { l with ctl := ps, credit := cntSub l.credit 6 (pktWords p) }))
      else (acc, room, d)

/-- Then the oldest packets that fit (R298). -/
def fillPkts (n : Nat) : Nat → Nat → List Pkt → Dev → List Pkt × Dev
  | 0, _, acc, d => (acc, d)
  | k + 1, room, acc, d =>
    match oldest (candidates d n room) with
    | none => (acc, d)
    | some x =>
      let (p, d) := movePkt n x d
      fillPkts n k (room - (20 + p.data.length)) (acc ++ [p]) d

/-- The virtual channels whose words a flit returns: at most two of those owed any; which of them, and in which order,
is open, so a free value u picks (notes/assumptions/91.md). -/
def creditsPick (u : Nat) (owed : List (Nat × Nat)) : List (Nat × Nat) :=
  match owed[u % owed.length]? with
  | none => []
  | some x => let r := owed.erase x; x :: (r[u / owed.length % r.length]?).toList

/-- Words that a flit returns: at most 511 of each of two virtual channels (R286, R296). -/
def creditsDue (d : Dev) (l : Link) : List (Nat × Nat) × Dev :=
  let (u, d) := if l.owed.length ≤ 1 then (0, d) else takeFree d
  ((creditsPick u l.owed).map (fun x => (x.1, min x.2 511)), d)

/-- A credit return field (R286). -/
def creditField (x : Nat × Nat) : Nat := packFields [(2, x.1 / 2), (1, x.1 % 2), (9, x.2)]

/-- A flit header as link n now stands (R286): ACK is the last flit accepted; a NAK asks from the expected one. -/
def flitHead (l : Link) (null : Bool) (seq pkts : Nat) (due : List (Nat × Nat)) : Nat :=
  packFields [(12, seq), (12, l.rxNext + 4095), (1, b2n (l.rxAny || l.nak)), (1, b2n l.nak), (1, b2n null), (5, pkts),
    (12, (due[0]?.map creditField).getD 0), (12, (due[1]?.map creditField).getD 0), (8, 0)]

/-- A flit goes out on link n as a block, with what the header takes from the link (R285 to R287). -/
def emitFlit (n : Nat) (null : Bool) (seq : Nat) (ps : List Pkt) (d : Dev) : Dev :=
  let l := getLink d n
  let body := ps.flatMap pktBytes
  let (due, d) := creditsDue d l
  let first := leBytes (flitHead l null seq ps.length due) 8 ++ body ++ List.replicate (420 - body.length) 0
  let flit := first ++ leBytes (crc32c first) 4
  let owed := due.foldl (fun o x => cntSub o x.1 x.2) l.owed
  let d := setLink d n { l with nak := false, owed := owed }
  { d with outbox := d.outbox ++ [.block n (blockOf flit)] }

/-- A flit of the replay buffer is sent again (R293). -/
def resendFlit (e : Env) (n i : Nat) (f : Flit) (d : Dev) : Dev :=
  let d := updLink d n (fun l => { l with replay := l.replay.set i { f with sends := f.sends + 1 },
                                          resend := if i + 1 < l.replay.length then some (i + 1) else none })
  emitFlit n false f.seq f.pkts (satAdd e ⟨.LNK_REPLAYS, n, 0, 0⟩ 1 d)

/-- A new sequenced flit, or a NULL flit where nothing may go (R293, R298). -/
def newFlit (e : Env) (n : Nat) (d : Dev) : Dev :=
  if (getLink d n).replay.length ≥ 512 then emitFlit n true 0 [] d
  else
    let (ctl, room, d) := fillCtl e n 21 420 [] d
    let (ps, d) := fillPkts n (21 - ctl.length) room ctl d
    if ps.isEmpty then emitFlit n true 0 [] d
    else
      let seq := (getLink d n).txNext
      let f : Flit := ⟨seq, ps, 1⟩
      emitFlit n false seq ps (updLink d n (fun l => { l with txNext := (l.txNext + 1) % 4096, replay := l.replay ++ [f] }))

/-- A flit slot of an output link is filled (R293, R298). -/
def sendFlit (e : Env) (n : Nat) (d : Dev) : Dev :=
  if !linkUp d n then d
  else match (getLink d n).resend with
    | some i =>
      match (getLink d n).replay[i]? with
      | some f => resendFlit e n i f d
      | none => newFlit e n d
    | none => newFlit e n d

/-- Two microseconds pass without ACK progress (R293). -/
def replayTimesOut (n : Nat) (d : Dev) : Dev :=
  if linkUp d n then updLink d n (fun l => if l.replay.isEmpty then l else { l with resend := some 0 }) else d

/-- A flit was sent for the ninth time without an ACK (R294). -/
def retryExhausted (e : Env) (n : Nat) (d : Dev) : Dev :=
  if linkUp d n ∧ (getLink d n).replay.any (fun f => f.sends ≥ 9) then
    startRetrain n (logError e (linkErr 0x0402 n n) (rbit d ⟨.LNK_RETRY_EXH, n, 0, 0⟩))
  else d

/-- An UP link sends a HEARTBEAT (R301). -/
def sendHeartbeat (e : Env) (n : Nat) (d : Dev) : Dev :=
  if linkUp d n then
    let x := packFields [(64, d.rc), (16, rget d ⟨.LNK_LIVE, 0, 0, 0⟩), (1, b2n (!d.fatals.isEmpty)), (47, 0)]
    sendCtl n (ctlPkt e d 0x20 0 (leBytes x 16)) d
  else d

/-- The control packet of a type at the head of link n's control channel, taken (R297). -/
def takeCtl (d : Dev) (n type : Nat) : Option (Pkt × Dev) :=
  (takeHead d n 6 (fun q => q.pkt.type = type)).map (fun r => (r.1.pkt, r.2))

/-- A HEARTBEAT is received: its content goes to Tabok (R301, R302). -/
def heartbeatArrives (n : Nat) (d : Dev) : Dev :=
  match takeCtl d n 0x20 with
  | none => d
  | some (p, d) =>
    let x := leNat p.data
    { d with outbox := d.outbox ++ [.heartbeat n (bitsOf x 63 0) (bitsOf x 79 64) (bitOf x 80)] }

/-- No HEARTBEAT for 150 µs (R301). -/
def heartbeatMissed (e : Env) (n : Nat) (d : Dev) : Dev :=
  if linkUp d n then linkIrq (linkDown e n 0 (rbit d ⟨.LNK_HB_MISS, n, 0, 0⟩)) else d

/-- MEASURE (R304): a request is answered with this end's turnaround `x`; for a reply `x` is the round trip that this
end has measured. -/
def measureArrives (e : Env) (n x : Nat) (d : Dev) : Dev :=
  match takeCtl d n 0x25 with
  | none => d
  | some (p, d) =>
    if bitOf p.body 16 then
      let d := lset .LNK_DELAY n ((x - bitsOf p.body 15 0) / 2) (lset .LNK_RTT n x d)
      let left := (getLink d n).measures - 1
      let d := updLink d n (fun l => { l with measures := left })
      if left = 0 then sendIdentity e n d else askMeasure e n d
    else sendCtl n (ctlPkt e d 0x25 (x % 65536 + 65536) []) d

/-- IDENTITY is received (R306). -/
def identityArrives (n : Nat) (d : Dev) : Dev :=
  match takeCtl d n 0x21 with
  | none => d
  | some (p, d) =>
    let x := leNat p.data
    let put (d : Dev) (f : Reg × Nat × Nat) : Dev := lset f.1 n (bitsOf x f.2.1 f.2.2) d
    [(.LNK_NBR_SERIAL, 63, 0), (.LNK_NBR_ADDR, 79, 64), (.LNK_NBR_ADDR_V, 80, 80), (.LNK_NBR_GRADE, 81, 81),
     (.LNK_NBR_STEP, 82, 82), (.LNK_NBR_SLOT, 88, 83), (.LNK_NBR_LINK, 94, 89), (.LNK_NBR_VALID, 95, 95)].foldl put d

/-- The clock of a child that takes its parent's time `t` (R46, R305): forward or held at first alignment, by rate
afterwards. -/
def discipline (synced : Bool) (t : Nat) (c : Clock) : Clock :=
  let off := (t : Int) - c.ft
  let step := (off * 1000000).tdiv ((c.ns - c.seen : Nat) : Int)
  if !synced then
    if c.ft ≤ t then { c with ft := t, trim := 0, seen := c.ns } else { c with hold := c.ft - t, trim := 0, seen := c.ns }
  else if c.hold ≠ 0 then { c with hold := c.ft - t, trim := max 0 off, seen := c.ns }
  else { c with trim := off, rate := if c.trim = 0 then max (-200) (min 200 (c.rate + step)) else c.rate, seen := c.ns }

/-- TIME from the parent (R305); one from any other link is only consumed. CLK_FT_SYNCED is set with the first, though a
count that was ahead still holds (the model's choice beside R46; notes/assumptions/5.md). -/
def timeArrives (n : Nat) (s : State) : State :=
  match takeCtl s.dev n 0x22 with
  | none => s
  | some (p, d) =>
    if rget d ⟨.LNK_HOIST_PARENT, 0, 0, 0⟩ = n then
      let t := p.body + lget d .LNK_DELAY n / 16
      { s with dev := rbit d ⟨.CLK_FT_SYNCED, 0, 0, 0⟩, clk := discipline (ftSynced d) t s.clk }
    else { s with dev := d }

/-- A parent sends TIME to a child (R303). -/
def sendTime (e : Env) (n : Nat) (d : Dev) : Dev :=
  if linkUp d n ∧ ftSynced d ∧ (rget d ⟨.LNK_HOIST_CHILD, 0, 0, 0⟩).testBit n then
    sendCtl n (ctlPkt e d 0x22 e.clk.ft []) d
  else d

/-- A field of the hoist. -/
def hget (d : Dev) (r : Reg) : Nat := rget d ⟨r, 0, 0, 0⟩
def hoistState (v : Nat) (d : Dev) : Dev := rset d ⟨.LNK_HOIST_STATE, 0, 0, 0⟩ v

/-- Child links of the hoist tree (R313). -/
def hoistChildren (d : Dev) : List Nat := linksOf (hget d .LNK_HOIST_CHILD)

/-- HOIST_DOWN goes to every child, and the wait for the release begins (R314). -/
def sendHoistDown (e : Env) (d : Dev) : Dev :=
  (hoistChildren d).foldl (fun d n => sendCtl n (ctlPkt e d 0x24 (hget d .LNK_HOIST_ID) []) d) { d with hoistArrived := true }

/-- Entered, with HOIST_UP of the hoist's ID from every child (R314). -/
def hoistAllUp (e : Env) (d : Dev) : Dev :=
  if hget d .LNK_HOIST_STATE = 1 ∧ hget d .LNK_HOIST_WIRED = 0 ∧ (hoistChildren d).all (fun n => n * 256 + hget d .LNK_HOIST_ID ∈ d.hoistUps) ∧
      !d.hoistArrived then
    if hget d .LNK_HOIST_PARENT = 63 then sendHoistDown e d
    else
      let n := hget d .LNK_HOIST_PARENT
      hoistState 2 (sendCtl n (ctlPkt e d 0x23 (hget d .LNK_HOIST_ID) []) d)
  else d

/-- LNK_HOIST_ENTER (R314, R316). -/
def hoistEnter (e : Env) (d : Dev) : Dev :=
  if hget d .LNK_HOIST_STATE ≠ 0 then d
  else hoistAllUp e { hoistState 1 d with pins := { d.pins with hoistOut := false } }

/-- A HOIST_UP arrives (R314, R316): with another ID, or with the wired fallback, it is discarded. -/
def hoistUpArrives (e : Env) (n : Nat) (d : Dev) : Dev :=
  match takeCtl d n 0x23 with
  | none => d
  | some (p, d) =>
    if hget d .LNK_HOIST_WIRED = 1 ∨ bitsOf p.body 7 0 ≠ hget d .LNK_HOIST_ID then d
    else
      let x := n * 256 + bitsOf p.body 7 0
      hoistAllUp e { d with hoistUps := if x ∈ d.hoistUps then d.hoistUps else d.hoistUps ++ [x] }

/-- A HOIST_DOWN arrives (R314, R316). -/
def hoistDownArrives (e : Env) (n : Nat) (d : Dev) : Dev :=
  match takeCtl d n 0x24 with
  | none => d
  | some (p, d) =>
    if hget d .LNK_HOIST_WIRED = 1 ∨ bitsOf p.body 7 0 ≠ hget d .LNK_HOIST_ID ∨ hget d .LNK_HOIST_STATE ≠ 2 ∨
        hget d .LNK_HOIST_PARENT ≠ n then d
    else sendHoistDown e d

/-- The release (R314): state released, and held launches start. -/
def hoistReleases (e : Env) (d : Dev) : Dev :=
  (List.range 8).foldl (fun d c => judgeHead e c d) (hoistState 3 { d with hoistArrived := false, hoistUps := [] })

/-- HOIST_RELEASE, when HOIST_DOWN has come (R314). -/
def hoistRelease (e : Env) (d : Dev) : Dev :=
  if d.hoistArrived ∧ (hget d .LNK_HOIST_STATE = 1 ∨ hget d .LNK_HOIST_STATE = 2) then hoistReleases e d else d

/-- The wired release: MOD_HOIST_IN has read high for 200 ns (R316), which the device does not see while the boundary scan
has its pins (R436). -/
def hoistWired (e : Env) (d : Dev) : Dev :=
  if hget d .LNK_HOIST_WIRED = 1 ∧ hget d .LNK_HOIST_STATE = 1 ∧ !pinsTaken d then hoistReleases e d else d

/-- The hoist fails: abandoned, or not released in time (R314). -/
def hoistFails (e : Env) (d : Dev) : Dev :=
  if hget d .LNK_HOIST_STATE = 1 ∨ hget d .LNK_HOIST_STATE = 2 then
    let d := logError e { cls := 0x0407, level := 4, kind := 2, syn := hget d .LNK_HOIST_ID } d
    linkIrq (hoistState 4 { d with hoistArrived := false, hoistUps := [] })
  else d

/-- Clock domains from REFCLK100_A (R382). -/
def domainsA : List Nat := [5, 6, 7, 8, 16]

/-- A domain's register, numbered from 0 for domain 1 (R387). -/
def domKey (r : Reg) (dom : Nat) : RegKey := ⟨r, dom - 1, 0, 0⟩

/-- FTCLK holds the rate that it has (R383). -/
def holdRate (c : Clock) : Clock := { c with rate := ratePpm c, trim := 0 }

/-- REFCLK100_A is lost (R383): every link and port that is not disabled goes DOWN. -/
def refclkALost (e : Env) (d : Dev) : Dev :=
  let d := domainsA.foldl (fun d x =>
    let st := rget d (domKey .CLK_DOM_STATE x)
    if st = 2 then satAdd e (domKey .CLK_DOM_LOSS x) 1 (rset d (domKey .CLK_DOM_STATE x) 3)
    else if st = 1 then rset d (domKey .CLK_DOM_STATE x) 3 else d) d
  let d := (List.range 4).foldl (fun d p => if pget d .ETH_PORT_STATE p = 3 then d else rset d ⟨.ETH_PORT_STATE, p, 0, 0⟩ 0) d
  (List.range 36).foldl (fun d n => if lget d .LNK_STATE n = 4 ∨ lget d .LNK_STATE n = 0 then d else linkLeaves e n 0 d) d

/-- REFCLK100_A is back: the domains that had lost it lock again (R383, R387). -/
def refclkAReturns (d : Dev) : Dev :=
  domainsA.foldl (fun d x => if rget d (domKey .CLK_DOM_STATE x) = 3 then rset d (domKey .CLK_DOM_STATE x) 1 else d) d

/-- FLIT_RX (R292). -/
def execFlitRx (n : Nat) (block : List Byte) (s : State) : Host.Outcome State Fault Refusal :=
  act s (n < 36) (fun e d => flitArrives e n block d)

/-- FLIT_SEND (R298). -/
def execFlitSend (n : Nat) (s : State) : Host.Outcome State Fault Refusal := act s (n < 36) (fun e d => pumpAll e (sendFlit e n d))

/-- REPLAY_TIMEOUT (R293). -/
def execReplayTimeout (n : Nat) (s : State) : Host.Outcome State Fault Refusal :=
  act s (n < 36) (fun _ d => replayTimesOut n d)

/-- RETRY_EXHAUSTED (R294). -/
def execRetryExhausted (n : Nat) (s : State) : Host.Outcome State Fault Refusal :=
  act s (n < 36) (fun e d => retryExhausted e n d)

/-- HEARTBEAT_SEND (R301). -/
def execHeartbeatSend (n : Nat) (s : State) : Host.Outcome State Fault Refusal :=
  act s (n < 36) (fun e d => sendHeartbeat e n d)

/-- HEARTBEAT (R301). -/
def execHeartbeat (n : Nat) (s : State) : Host.Outcome State Fault Refusal :=
  act s (n < 36) (fun _ d => heartbeatArrives n d)

/-- HEARTBEAT_MISSED (R301). -/
def execHeartbeatMissed (n : Nat) (s : State) : Host.Outcome State Fault Refusal :=
  act s (n < 36) (fun e d => heartbeatMissed e n d)

/-- LINK_TRAINING_END (R300). -/
def execLinkTrainingEnd (n lanes : Nat) (s : State) : Host.Outcome State Fault Refusal :=
  act s (n < 36) (fun e d => trainingEnds e n lanes d)

/-- LINK_TRAINING_RESTART (R300). -/
def execLinkTrainingRestart (n : Nat) (s : State) : Host.Outcome State Fault Refusal :=
  act s (n < 36) (fun _ d => trainingAgain n d)

/-- LINK_RETRAIN_END (R300). -/
def execLinkRetrainEnd (n lanes : Nat) (s : State) : Host.Outcome State Fault Refusal :=
  act s (n < 36) (fun e d => retrainEnds e n lanes d)

/-- LINK_RETRAIN_TIMEOUT (R300). -/
def execLinkRetrainTimeout (n : Nat) (s : State) : Host.Outcome State Fault Refusal :=
  act s (n < 36) (fun e d => if lget d .LNK_STATE n = 3 then retrainFails e n d else d)

/-- LNK_EN_SET (R300). -/
def execLnkEnSet (n : Nat) (s : State) : Host.Outcome State Fault Refusal := actT s (n < 36) (fun e d => linkEnable e n d)

/-- LNK_EN_CLEAR (R300). -/
def execLnkEnClear (n : Nat) (s : State) : Host.Outcome State Fault Refusal :=
  actT s (n < 36) (fun e d => linkDisable e n d)

/-- LNK_RETRAIN_GO (R300). -/
def execLnkRetrainGo (n : Nat) (s : State) : Host.Outcome State Fault Refusal :=
  actT s (n < 36) (fun _ d => startRetrain n d)

/-- LNK_LANE_RETIRE (R300). -/
def execLnkLaneRetire (n : Nat) (v : Word) (s : State) : Host.Outcome State Fault Refusal :=
  actT s (n < 36) (fun _ d => startRetrain n (lset .LNK_LANE_RETIRE n (v.toNat % 256) d))

/-- MEASURE (R304). -/
def execMeasure (n turn : Nat) (s : State) : Host.Outcome State Fault Refusal :=
  act s (n < 36) (fun e d => measureArrives e n turn d)

/-- IDENTITY (R306). -/
def execIdentity (n : Nat) (s : State) : Host.Outcome State Fault Refusal :=
  act s (n < 36) (fun _ d => identityArrives n d)

/-- TIME (R305). -/
def execTime (n : Nat) (s : State) : Host.Outcome State Fault Refusal :=
  if n < 36 then .next (if s.dev.power = .running then timeArrives n s else s) else .refused .noSuchUnit

/-- TIME_SEND (R303). -/
def execTimeSend (n : Nat) (s : State) : Host.Outcome State Fault Refusal := act s (n < 36) (fun e d => sendTime e n d)

/-- HOIST_UP (R314). -/
def execHoistUp (n : Nat) (s : State) : Host.Outcome State Fault Refusal := act s (n < 36) (fun e d => hoistUpArrives e n d)

/-- HOIST_DOWN (R314). -/
def execHoistDown (n : Nat) (s : State) : Host.Outcome State Fault Refusal :=
  act s (n < 36) (fun e d => hoistDownArrives e n d)

/-- LNK_HOIST_ENTER (R314). -/
def execLnkHoistEnter (s : State) : Host.Outcome State Fault Refusal := actT s true (fun e d => hoistEnter e d)

/-- LNK_HOIST_ABANDON (R314). -/
def execLnkHoistAbandon (s : State) : Host.Outcome State Fault Refusal := actT s true (fun e d => hoistFails e d)

/-- HOIST_RELEASE (R314). -/
def execHoistRelease (s : State) : Host.Outcome State Fault Refusal := act s true (fun e d => hoistRelease e d)

/-- HOIST_TIMEOUT (R314). -/
def execHoistTimeout (s : State) : Host.Outcome State Fault Refusal := act s true (fun e d => hoistFails e d)

/-- HOIST_WIRED_RELEASE (R316). -/
def execHoistWiredRelease (s : State) : Host.Outcome State Fault Refusal := act s true (fun e d => hoistWired e d)

/-- REFCLK100_A_LOSS (R383). -/
def execRefclk100ALoss (s : State) : Host.Outcome State Fault Refusal :=
  act { s with clk := if s.dev.power = .running then holdRate s.clk else s.clk } true (fun e d => refclkALost e d)

/-- REFCLK100_A_RETURN (R383). -/
def execRefclk100AReturn (s : State) : Host.Outcome State Fault Refusal := act s true (fun _ d => refclkAReturns d)

end Sys2Proof.Machine
end

