-- ==== Sys2Proof/Machine/Log.lean ====
section
/-! DEFINITION. The trouble log's drain ring, and messages under a holdoff (R278, R422, R423, R427). -/

namespace Sys2Proof.Machine

/-- A field of the LOG block. -/
def gget (d : Dev) (r : Reg) : Nat := rget d ⟨r, 0, 0, 0⟩
def gset (r : Reg) (v : Nat) (d : Dev) : Dev := rset d ⟨r, 0, 0, 0⟩ v

/-- The record to copy next: the oldest one held that has not been copied (R422, R423). -/
def logOldest (d : Dev) : Option LogEnt := d.log.find? (fun x => !x.copied)

/-- LOG_COPY (R426). -/
def logCopyIndex (d : Dev) : Nat := ((logOldest d).map (·.index)).getD (d.logNext % 2 ^ 32)

/-- Free places of the drain ring: at most 2^L − 1 entries (R268). -/
def drainFree (d : Dev) : Nat := 2 ^ gget d .LOG_RING_LOG2 - 1 - ringUsed (gget d .LOG_RING_PROD) (gget d .LOG_RING_CONS)

/-- A copy was made: its message goes or is owed (R278, R422). -/
def irqDrain (e : Env) (d : Dev) : Dev :=
  if gget d .LOG_IRQ_EN = 0 then d
  else if irqDue e (gget d .LOG_IRQ_HOLDOFF) d.irqLogAt then
    sendIrq (gget d .LOG_IRQ_VEC) { d with irqLogAt := some e.clk.ns, irqLog := false }
  else { d with irqLog := true }

/-- A drain entry (R422). -/
def drainEntry (e : Env) (lost : Nat) (x : LogEnt) : List Byte :=
  let env := packFields [(32, x.index), (8, x.tag), (1, b2n (lost ≠ 0)), (7, 0), (16, min lost 0xFFFF), (64, e.clk.ft)]
  leBytes env 64 ++ leBytes x.img 64

/-- The next record is copied, when copying is on and the ring has room (R422, R423, R450). -/
def drainCopy (e : Env) (d : Dev) : Dev :=
  match logOldest d with
  | none => d
  | some x =>
    if gget d .LOG_DRAIN_EN = 0 ∨ drainFree d = 0 then d
    else
      let prod := gget d .LOG_RING_PROD
      let a := ringAddr (gget d .LOG_RING_BASE) (gget d .LOG_RING_LOG2) 128 prod
      let lost := d.logLost
      let d := { d with log := d.log.map (fun y => if y.index = x.index then { y with copied := true } else y), logLost := 0 }
      irqDrain e (gset .LOG_RING_PROD (prod + 1) (hostWrite e a (drainEntry e lost x) d))

/-- Window offsets of the LOG block's words. -/
def logOff (r : Reg) : Nat := regOffset ⟨r, 0, 0, 0⟩

/-- A write of the word of LOG_DRAIN_EN (R427). L changes only while copying is off. -/
def writeDrain (e : Env) (v : Nat) (d : Dev) : Dev :=
  let l := bitsOf v 4 0
  if l < 6 ∨ 16 < l then regAccess e (logOff .LOG_DRAIN_EN) true d
  else
    let on := gget d .LOG_DRAIN_EN
    let d := if on = 0 then gset .LOG_RING_LOG2 l d
      else if l = gget d .LOG_RING_LOG2 then d else regAccess e (logOff .LOG_DRAIN_EN) true d
    let d := if on = 0 ∧ bitOf v 8 then gset .LOG_RING_PROD 0 (gset .LOG_RING_CONS 0 d) else d
    gset .LOG_DRAIN_EN (b2n (bitOf v 8)) (gset .LOG_IRQ_EN (b2n (bitOf v 9)) d)

/-- A write of LOG_RING_CONS (R427). -/
def writeDrainCons (e : Env) (v : Nat) (d : Dev) : Dev :=
  let new := bitsOf v 31 16
  if consOk (gget d .LOG_RING_PROD) (gget d .LOG_RING_CONS) new then gset .LOG_RING_CONS new d
  else regAccess e (logOff .LOG_RING_CONS) true d

/-- A holdoff ends: the message that is owed goes (R278, R422). -/
def holdoffEnds (e : Env) (r : IrqSource) (d : Dev) : Dev :=
  match r with
  | .completion c =>
    if (getCtx d c).irqCq then
      sendIrq (cget d .RING_IRQ_VEC_CQ c) (updCtx d c (fun x => { x with irqCqAt := some e.clk.ns, irqCq := false }))
    else d
  | .event c =>
    if (getCtx d c).irqEq then
      sendIrq (cget d .RING_IRQ_VEC_EQ c) (updCtx d c (fun x => { x with irqEqAt := some e.clk.ns, irqEq := false }))
    else d
  | .drain =>
    if d.irqLog then sendIrq (gget d .LOG_IRQ_VEC) { d with irqLogAt := some e.clk.ns, irqLog := false } else d

/-- A ring source that exists. -/
def irqSourceOk : IrqSource → Bool
  | .completion c => c < 8
  | .event c => c < 8
  | .drain => true

/-- IRQ_HOLDOFF_EXPIRE (R278). -/
def execIrqHoldoffExpire (r : IrqSource) (s : State) : Host.Outcome State Fault Refusal :=
  act s (irqSourceOk r) (fun e d => holdoffEnds e r d)

/-- LOG_DRAIN_COPY (R422). -/
def execLogDrainCopy (s : State) : Host.Outcome State Fault Refusal := act s true (fun e d => drainCopy e d)

/-- LOG_DRAIN_EN (R427). -/
def execLogDrainEn (v : Word) (s : State) : Host.Outcome State Fault Refusal := actT s true (fun e d => writeDrain e v.toNat d)

/-- LOG_RING_CONS (R427). -/
def execLogRingCons (v : Word) (s : State) : Host.Outcome State Fault Refusal := actT s true (fun e d => writeDrainCons e v.toNat d)

end Sys2Proof.Machine
end

