-- ==== Sys2Proof/Machine/Matrix.lean ====
section
/-! DEFINITION. The matrix engine: MM and TB_LOAD (R108 to R119), and the accumulator view (R258). -/

namespace Sys2Proof.Machine

/-- State of the chain of R111 for one element: acc, overflow, the first NaN met (cause and operands), and the
entries of the accumulator view. -/
structure Chain where
  acc : Val
  ov : Bool := false
  first : Option (Nat × Nat × Nat) := none
  view : List (Nat × Nat) := []
  deriving DecidableEq, Repr

/-- A product of a group: codes and values of A and B. -/
structure Prod where
  a : Nat
  b : Nat
  va : Val
  vb : Val
  deriving DecidableEq, Repr

/-- The exact sum of a group, none when a product has a NaN (R111). -/
def groupSum (ps : List Prod) : Val :=
  ps.foldl (fun s x => match s, x.va, x.vb with
    | some s, some u, some v => some (s + u * v)
    | _, _, _ => none) (some 0)

/-- The first product with a NaN. -/
def groupNan (ps : List Prod) : Option (Nat × Nat × Nat) :=
  (ps.find? (fun x => x.va.isNone || x.vb.isNone)).map (fun x => (4, x.a, x.b))

/-- One group of R111; `scale` is the block scale of a Vi4 B operand. -/
def groupStep (scale : Option Nat) (ps : List Prod) (ch : Chain) : Chain :=
  let sv : Val := match scale with
    | none => some 1
    | some s => fpValue ⟨5, 2, 15⟩ s
  let sum : Val := match groupSum ps, sv with
    | some s, some k => some (s * k)
    | _, _ => none
  let first := match ch.first, groupNan ps, sv with
    | some f, _, _ => some f
    | none, some f, _ => some f
    | none, none, none => some (6, scale.getD 0, 0)
    | none, none, some _ => none
  let t := match sum with
    | some s => rne32 s
    | none => (nan32, false)
  match ch.acc, fpValue vf32 t.1 with
  | some a, some v =>
    let r := rne32 (a + v)
    ⟨fpValue vf32 r.1, ch.ov || t.2 || r.2, first, ch.view ++ [(t.1, r.1)]⟩
  | _, _ => ⟨none, ch.ov, first, ch.view ++ [(t.1, nan32)]⟩

/-- Groups of G products with their scales; `fuel` bounds their number. -/
def chainGroups (g : Nat) : Nat → List (Option Nat) → List Prod → Chain → Chain
  | 0, _, _, ch => ch
  | fuel + 1, scs, ps, ch =>
    if ps.isEmpty then ch
    else chainGroups g fuel scs.tail (ps.drop g) (groupStep (scs.headD none) (ps.take g) ch)

/-- mm_element of R111 over the products in ascending k. -/
def mmElement (g : Nat) (scs : List (Option Nat)) (acc0 : Nat) (ps : List Prod) : Chain :=
  let acc := fpValue vf32 acc0
  chainGroups g ps.length scs ps { acc := acc, first := if acc.isNone then some (4, acc0, 0) else none }

/-- The matrices of a record as read (R108). -/
structure MmIn where
  a : Source
  b : Source
  accs : List (List Nat)
  aT : Bool
  bT : Bool
  k : Nat
  g : Nat
  deriving DecidableEq, Repr

/-- The products of element (i, n). -/
def mmProds (m : MmIn) (i n : Nat) : List Prod :=
  (List.range m.k).map (fun k =>
    let ca := if m.aT then srcCode m.a k i else srcCode m.a i k
    let cb := if m.bT then srcCode m.b n k else srcCode m.b k n
    let vb : Val := if m.b.fmt = 4 then some (vi4Int cb : Rat) else fmtValue m.b.fmt cb
    ⟨ca, cb, fmtValue m.a.fmt ca, vb⟩)

/-- The block scales of output column n, group by group (R114). -/
def mmScales (m : MmIn) (n : Nat) : List (Option Nat) :=
  if m.b.fmt = 4 then (m.b.scales.getD n []).map some else []

/-- The chain of element (i, n). -/
def mmChain (m : MmIn) (i n : Nat) : Chain :=
  mmElement m.g (mmScales m n) ((m.accs.getD i []).getD n 0) (mmProds m i n)

/-- An element of D (R111, R113). -/
def mmElem (m : MmIn) (s : Sink) (i n : Nat) : Elem :=
  let ch := mmChain m i n
  let f := ch.first.getD (0, 0, 0)
  narrowElem s i n ⟨code32 ch.acc, ch.ov, f.1⟩ f.2.1 f.2.2 0

/-- C of an MM with FUSE (R115, R116), over the values as written to D. -/
def mmFused (fn lw : Nat) (fcmp : Bool) (dd : Nat) (rows : List (List Elem)) : List (List Elem) :=
  rows.map (fun r =>
    let l := r.map (fun x => (x.code, fmtValue (fmtOf dd) x.code))
    statElems l (fusedRow fn lw fcmp (l.map (·.2))))

/-- The matrices that a record names. -/
def mmRead (d : Dev) (p h c : Nat) (w : WinEnt) : Except StoreRes MmIn := do
  let a ← readSource d p h c w.a 0
  let b ← readSource d p h c w.b 0
  let accs ← if accumOf w.raw then readCodes d p h c w.d else .ok []
  .ok ⟨unscalar a, unscalar b, accs, spaceOf w.a = 2, bitOf (immOf w.raw) 7,
    if spaceOf w.a = 2 then rowsOf w.a else colsOf w.a, if heritageCtx d c then 16 else 32⟩

/-- The record that the accumulator view waits for (R258). -/
def viewArmed (d : Dev) (p h c : Nat) (w : WinEnt) : Bool :=
  rget d ⟨.DBG_MODE, c, 0, 0⟩ = 1 && rget d ⟨.DBG_ACC_ARM, c, 0, 0⟩ = 1 && rget d ⟨.DBG_ACC_OP, c, 0, 0⟩ = w.idx &&
  rget d ⟨.DBG_ACC_TILE, c, 0, 0⟩ = ctxTile d p h c && rget d ⟨.DBG_ACC_ROW, c, 0, 0⟩ < rowsOf w.d &&
  rget d ⟨.DBG_ACC_COL, c, 0, 0⟩ < colsOf w.d

/-- The entries of the view (R258). -/
def viewBytes (m : MmIn) (i n : Nat) : List Byte :=
  let ch := mmChain m i n
  leBytes (packFields [(32, (m.accs.getD i []).getD n 0), (32, ch.view.length)]) 8 ++
    ch.view.flatMap (fun v => leBytes (packFields [(32, v.1), (32, v.2)]) 8)

/-- The capture of the accumulator view: HBM is written, the arm cleared, DONE and the issue count set. -/
def viewCapture (e : Env) (c : Nat) (w : WinEnt) (bs : List Byte) (d : Dev) : Dev :=
  let d := hbmAccept e (some c) (rbase d ⟨.DBG_ACC_ADDR, c, 0, 0⟩) bs d
  let d := rset d ⟨.DBG_ACC_ARM, c, 0, 0⟩ 0
  let d := rset d ⟨.DBG_ACC_DONE, c, 0, 0⟩ 1
  rset d ⟨.DBG_ACC_ISSUE, c, 0, 0⟩ w.issueNo

/-- The results of an MM: D, and C with FUSE. -/
def mmParts (c : Nat) (w : WinEnt) (m : MmIn) (s : Sink) (d : Dev) : List Part2 :=
  let rows := elemRows w.d (mmElem m s)
  let fn := bitsOf (immOf w.raw) 2 0
  { opd := w.d, rows := rows, scales := s.scales } ::
    if fn = 0 then [] else [{ opd := w.c, rows := mmFused fn (lwCtx d c) (fcmpCtx d c) w.d rows }]

/-- The matrices and the sink of an MM. -/
def mmSources (p h c : Nat) (w : WinEnt) (d : Dev) : Except StoreRes (MmIn × Sink) := do
  let m ← mmRead d p h c w
  let s ← sinkOf d p h c w.d
  .ok (m, s)

/-- MM with its matrices read. The accumulator view's address is used without its low bits (notes/assumptions/78.md). -/
def mmWith (e : Env) (p h c : Nat) (w : WinEnt) (m : MmIn) (s : Sink) (d : Dev) : Ran :=
  let r := putResults e p h c 0 w false (mmParts c w m s d) d
  if viewArmed d p h c w && !r.failed then
    let bs := viewBytes m (rget d ⟨.DBG_ACC_ROW, c, 0, 0⟩) (rget d ⟨.DBG_ACC_COL, c, 0, 0⟩)
    if rbase d ⟨.DBG_ACC_ADDR, c, 0, 0⟩ + bs.length > hbmCap d then
      { r with dev := readFail e p c (some (w.idx, w.issueNo)) (.beyond (rbase d ⟨.DBG_ACC_ADDR, c, 0, 0⟩)) r.dev, failed := true }
    else { r with dev := viewCapture e c w bs r.dev }
  else r

/-- D ← (ACCUM ? D : +0) + A · B (R111). -/
def runMm : Run := fun e p h c w d =>
  match mmSources p h c w d with
  | .ok (m, s) => mmWith e p h c w m s d
  | .error _ => runParts 0 (fun p h c w d => (mmSources p h c w d).map (fun x => mmParts c w x.1 x.2 d)) e p h c w d

/-- The bits of A, and its scale plane, into the transposing buffer (R119). -/
def runTbLoad : Run := runParts 0 (fun p h c w d => do
  let (codes, sc) ← readTensor d p h c w.a
  .ok [{ opd := w.d, rows := codes.map (fun r => r.map (fun x => { code := x })), scales := sc, putScales := true }])

/-- MM (R111): issue of the matrix engine's next record. -/
def execMm (p : Nat) (s : State) : Host.Outcome State Fault Refusal :=
  act s (p < 1440) (issueEngine 0 0x10 runMm p)

/-- TB_LOAD (R119). -/
def execTbLoad (p : Nat) (s : State) : Host.Outcome State Fault Refusal :=
  act s (p < 1440) (issueEngine 0 0x11 runTbLoad p)

end Sys2Proof.Machine
end

