-- ==== Sys2Proof/Machine/Ports.lean ====
section
/-! DEFINITION. The mailbox, the management port and the boundary scan (R433 to R436). -/

namespace Sys2Proof.Machine

/-- The ports respond: MOD_PWRGD is asserted, whatever the state of MOD_RST_N (R433, R388). -/
def powered (d : Dev) : Bool := d.power = .inReset || d.power = .running

/-- A command of the management port; nothing reaches it while the boundary scan has its pins (R436;
notes/assumptions/116.md). -/
def actP (s : State) (f : Env → Dev → Dev) : Host.Outcome State Fault Refusal :=
  .next { s with dev := if powered s.dev ∧ !pinsTaken s.dev then inCycle s.dev (f ⟨s.clk, s.nv⟩ s.dev) else s.dev }

/-- The pins are the device's again, and what it makes of their levels follows (R376, R432, R436). -/
def pinsBack (s : State) : State := resetSeen { s with dev := inCycle s.dev (throttleSeen ⟨s.clk, s.nv⟩ s.dev) }

/-- TCK runs, at a rate that is free up to 50 MHz (R382, R436; notes/assumptions/117.md). -/
def tckRuns (d : Dev) : Dev :=
  let r := takeFree d
  { r.2 with jtag := { r.2.jtag with tck := some (r.1 % 51) } }

/-- A command of the test access port (R436). Where it ends EXTEST, CLAMP or HIGHZ, the device has its pins again. -/
def actTap (s : State) (f : Env → Dev → NonVol × Dev) : Host.Outcome State Fault Refusal :=
  if powered s.dev then
    let r := f ⟨s.clk, s.nv⟩ (tckRuns s.dev)
    let t := { s with nv := r.1, dev := inCycle s.dev r.2 }
    .next (if pinsTaken s.dev ∧ !pinsTaken t.dev then pinsBack t else t)
  else .next s

/-- A command of the test access port that reaches no fuse and no flash. -/
def actJ (s : State) (f : Env → Dev → Dev) : Host.Outcome State Fault Refusal := actTap s (fun e d => (e.nv, f e d))

/-- Something goes out. -/
def emit (o : Out) (d : Dev) : Dev := { d with outbox := d.outbox ++ [o] }

/-- MOD_SLOT_ID: the strap, latched once MOD_RST_N is de-asserted (R432, R433). -/
def slotId (d : Dev) : Nat := if d.power = .running then sget d .CFG_SLOT_ID else d.inputs.slot

/-- Provisioned ID (R433). -/
def provisionedId (nv : NonVol) (d : Dev) : Nat := packFields [(26, nv.serial), (6, slotId d), (1, 1), (15, 0x1A57)]

/-- A command that reaches the port at its dynamic address. -/
def addressed (f : Env → Dev → Dev) (e : Env) (d : Dev) : Dev := if d.i3c.addr.isSome then f e d else d

/-- A dynamic address is assigned to a port without one (R433): the provisioned ID, BCR and DCR go out. -/
def takeAddress (addr : Nat) (e : Env) (d : Dev) : Dev :=
  if d.i3c.addr.isSome then d
  else emit (.word (provisionedId e.nv d * 2 ^ 16)) { d with i3c := { d.i3c with addr := some addr } }

/-- The one Hot-Join request (R433). -/
def joinRequest (d : Dev) : Dev :=
  if d.i3c.addr.isSome ∨ d.i3c.hotJoinOn = false ∨ d.i3c.hotJoinMade then d
  else emit .hotJoin { d with i3c := { d.i3c with hotJoinMade := true } }

/-- A value that the manual does not give goes out, of 16 bits. -/
def answerFree (d : Dev) : Dev := let r := takeFree d; emit (.word (r.1 % 2 ^ 16)) r.2

/-- A message enters the mailbox (R434, R435). -/
def mailIn (len : Nat) (bytes : List Byte) (d : Dev) : Dev :=
  if sget d .CFG_MBOX_IN_FULL = 1 ∨ len = 0 ∨ 256 < len then emit .nack d
  else if bytes.length < len then d
  else
    let bs := bytes.take len
    let word (w : Nat) : Nat := memNat ((List.range 4).map (fun i => (4 * w + i, bs.getD (4 * w + i) 0))) (4 * w) 4
    let d := (List.range ((len + 3) / 4)).foldl (fun d w => rset d ⟨.CFG_MBOX_IN, w, 0, 0⟩ (word w)) d
    let d := sset .CFG_MBOX_IN_FULL 1 (sset .CFG_MBOX_IN_LEN len d)
    if sget d .CFG_MBOX_IRQ_EN = 1 then sendIrq (sget d .CFG_MBOX_IRQ_VEC) d else d

/-- The first bytes of the posted reply are read, its length before it; the mailbox is free again once all of it has been
read (R434). -/
def mailOut (count : Nat) (d : Dev) : Dev :=
  if sget d .CFG_MBOX_OUT_FULL = 0 then emit (.i3c ([0, 0].take count)) d
  else
    let n := sget d .CFG_MBOX_OUT_LEN
    let bs := ((List.range 64).flatMap (fun w => leBytes (rget d ⟨.CFG_MBOX_OUT, w, 0, 0⟩) 4)).take n
    let d := emit (.i3c ((leBytes n 2 ++ bs).take count)) d
    if n + 2 ≤ count then sset .CFG_MBOX_OUT_FULL 0 d else d

/-- CFG_MBOX_OUT_POST is written (R435). -/
def mailPost (e : Env) (d : Dev) : Dev :=
  if sget d .CFG_MBOX_OUT_FULL = 1 then sRefused e .CFG_MBOX_OUT_POST d else sset .CFG_MBOX_OUT_FULL 1 d

/-- A word of cells of the boundary scan, each given by its number and its level. -/
def cells (l : List (Nat × Bool)) : Nat := (l.map (fun x => b2n x.2 * 2 ^ x.1)).sum

/-- The cells whose pins the device can drive, in the order of BoundaryScan; MOD_PRSNT_N is tied to ground (R429). -/
def drivenCells : List Nat := [3, 4, 5, 7, 18, 21]

/-- The level that the device gives each pin it can drive; I3C_SDA is released (R429, R430). -/
def ownPins (d : Dev) : Nat :=
  cells [(3, d.pins.pwrgd), (4, !d.pins.fault), (5, !d.pins.alert), (7, d.pins.ready), (18, !d.pins.hoistOut), (21, true)]

/-- The same pins at high impedance: the board's resistors hold them (R430; notes/assumptions/116.md). -/
def releasedPins : Nat := cells [(3, true), (4, true), (5, true), (18, true), (21, true)]

/-- The levels at the pins that the device can drive: its own, the boundary-scan register's, or none (R436). -/
def drivenPins (d : Dev) : Nat :=
  match d.jtag.instr with
  | .extest | .clamp => cells (drivenCells.map (fun n => (n, d.jtag.bsr.testBit n)))
  | .highz => releasedPins
  | _ => ownPins d

/-- The levels that the board gives the input pins (R429); those of MOD_HOIST_IN and I3C_SCL by a free value. -/
def boardPins (d : Dev) (x : Nat) : Nat :=
  let i := d.inputs
  cells [(1, !d.mated), (2, i.rst), (6, i.throttle), (19, x.testBit 0), (20, x.testBit 1)] + i.slot % 64 * 2 ^ 8 + i.cr8 % 16 * 2 ^ 14

/-- What the cells capture (R436), by a free value: the controller may hold I3C_SDA low where the module releases it. -/
def captured (d : Dev) (x : Nat) : Nat :=
  let v := drivenPins d
  boardPins d x + (if v.testBit 21 && !x.testBit 2 then v - 2 ^ 21 else v)

/-- The instruction register takes an instruction (R436). -/
def takeInstr (i : JtagInstr) (d : Dev) : Dev := { d with jtag := { d.jtag with instr := i } }

/-- A scan of the boundary register: the captured levels go out, the new ones come in (R436). -/
def scan (shift : Nat) (d : Dev) : Dev :=
  let r := takeFree d
  emit (.word (captured d r.1)) { r.2 with jtag := { r.2.jtag with bsr := shift } }

/-- The instruction that an opcode selects: every opcode of no other instruction acts as BYPASS (R436). -/
def opcodeInstr (n : Nat) : JtagInstr :=
  match n with
  | 0x00 => .extest
  | 0x01 => .idcode
  | 0x02 => .samplePreload
  | 0x04 => .clamp
  | 0x05 => .highz
  | 0x20 => .dbgAccess
  | _ => .bypass

/-- IDCODE (R436). -/
def idcodeOf (nv : NonVol) : Nat := if nv.stepping = 0 then 0x05B2A7AB else 0x15B2A7AB

/-- CFG_MBOX_IN_ACK (R435). -/
def execCfgMboxInAck (s : State) : Host.Outcome State Fault Refusal := actT s true (fun _ d => sset .CFG_MBOX_IN_FULL 0 d)

/-- CFG_MBOX_OUT_POST (R435). -/
def execCfgMboxOutPost (s : State) : Host.Outcome State Fault Refusal := actT s true (fun e d => mailPost e d)

/-- MBOX_WRITE (R434). -/
def execMboxWrite (len : Nat) (bytes : List Byte) (s : State) : Host.Outcome State Fault Refusal :=
  actP s (addressed (fun _ d => mailIn len bytes d))

/-- MBOX_READ (R434). -/
def execMboxRead (s : State) (count : Nat := 258) : Host.Outcome State Fault Refusal :=
  actP s (addressed (fun _ d => mailOut count d))

/-- ENTDAA (R433). -/
def execEntdaa (addr : BitVec 7) (s : State) : Host.Outcome State Fault Refusal := actP s (takeAddress addr.toNat)

/-- RSTDAA (R433). -/
def execRstdaa (s : State) : Host.Outcome State Fault Refusal := actP s (fun _ d => { d with i3c := { d.i3c with addr := none } })

/-- ENEC (R433). -/
def execEnec (s : State) : Host.Outcome State Fault Refusal := actP s (fun _ d => { d with i3c := { d.i3c with hotJoinOn := true } })

/-- DISEC (R433). -/
def execDisec (s : State) : Host.Outcome State Fault Refusal := actP s (fun _ d => { d with i3c := { d.i3c with hotJoinOn := false } })

/-- GETPID (R433). -/
def execGetpid (s : State) : Host.Outcome State Fault Refusal :=
  actP s (addressed (fun e d => emit (.word (provisionedId e.nv d)) d))

/-- GETBCR (R433). -/
def execGetbcr (s : State) : Host.Outcome State Fault Refusal := actP s (addressed (fun _ d => emit (.word 0) d))

/-- GETDCR (R433). -/
def execGetdcr (s : State) : Host.Outcome State Fault Refusal := actP s (addressed (fun _ d => emit (.word 0) d))

/-- GETSTATUS (R433). -/
def execGetstatus (s : State) : Host.Outcome State Fault Refusal := actP s (addressed (fun _ d => answerFree d))

/-- GETMWL (R433). -/
def execGetmwl (s : State) : Host.Outcome State Fault Refusal := actP s (addressed (fun _ d => answerFree d))

/-- GETMRL (R433). -/
def execGetmrl (s : State) : Host.Outcome State Fault Refusal := actP s (addressed (fun _ d => answerFree d))

/-- HOT_JOIN (R433). -/
def execHotJoin (s : State) : Host.Outcome State Fault Refusal := actP s (fun _ d => joinRequest d)

/-- EXTEST (R436). -/
def execExtest (shift : BoundaryScan) (s : State) : Host.Outcome State Fault Refusal :=
  actJ s (fun _ d => scan shift.toNat (takeInstr .extest d))

/-- IDCODE (R436). -/
def execIdcode (s : State) : Host.Outcome State Fault Refusal :=
  actJ s (fun e d => emit (.word (idcodeOf e.nv)) (takeInstr .idcode d))

/-- SAMPLE_PRELOAD (R436). -/
def execSamplePreload (shift : BoundaryScan) (s : State) : Host.Outcome State Fault Refusal :=
  actJ s (fun _ d => scan shift.toNat (takeInstr .samplePreload d))

/-- CLAMP (R436). -/
def execClamp (s : State) : Host.Outcome State Fault Refusal := actJ s (fun _ d => takeInstr .clamp d)

/-- HIGHZ (R436). -/
def execHighz (s : State) : Host.Outcome State Fault Refusal := actJ s (fun _ d => takeInstr .highz d)

/-- BYPASS (R436), by an opcode that selects it; the opcodes of the other instructions are theirs. -/
def execBypass (s : State) (opcode : BitVec 8 := 0xFF) : Host.Outcome State Fault Refusal :=
  if opcodeInstr opcode.toNat = .bypass then actJ s (fun _ d => takeInstr .bypass d) else .next s

/-- JTAG_TRST_N (R436): reset selects IDCODE, and TCK stands. -/
def execJtagTrstN (s : State) : Host.Outcome State Fault Refusal :=
  actJ s (fun _ d => { d with jtag := { d.jtag with instr := .idcode, tck := none } })

end Sys2Proof.Machine
end

