-- ==== Sys2Proof/Machine/Security.lean ====
section
/-! DEFINITION. Fuses, the verifier, microcode, calibration and attestation (R366, R367, R396 to R407, R410). -/

namespace Sys2Proof.Machine

/-- A fuse operation starts, or is refused (R399, R401, R410). -/
def fuseStart (e : Env) (r : Reg) (ok : Bool) (op : FuseOp) (d : Dev) : Dev :=
  if ok ∧ d.fuseOp = none then sset .SEC_FUSE_RESULT 1 { d with fuseOp := some op }
  else sRefused e r (sset .SEC_FUSE_RESULT 2 d)

/-- SEC_ARB_ADVANCE is written (R401). -/
def arbAdvance (e : Env) (d : Dev) : Dev :=
  let t := sget d .SEC_ARB_TARGET
  let ok := e.nv.arbCount < t && t ≤ 64 && t ≤ (fwSlot e.nv (sget d .SEC_FW_ACTIVE)).svn && sget d .SEC_FW_PENDING = 0
  fuseStart e .SEC_ARB_ADVANCE ok (.advance t) d

/-- Eight words of a hash register as bytes (R409). -/
def hashBytes (d : Dev) (r : Reg) : List Byte := (List.range 8).flatMap (fun w => leBytes (rget d ⟨r, w, 0, 0⟩) 4)

/-- SEC_OWNER_BURN is written (R399). -/
def ownerBurn (e : Env) (d : Dev) : Dev :=
  let k := sget d .SEC_OWNER_SLOT
  let h := hashBytes d .SEC_OWNER_HASH
  let ok := cfgState d = 2 && !e.nv.ownerBurned.testBit k && h.any (fun b => b ≠ 0)
  fuseStart e .SEC_OWNER_BURN ok (.burn k h) d

/-- SEC_OWNER_REVOKE is written (R399). -/
def ownerRevoke (e : Env) (d : Dev) : Dev :=
  let k := sget d .SEC_OWNER_SLOT
  let ok := cfgState d = 2 && (List.range 4).any (fun j => k < j && e.nv.ownerBurned.testBit j && !e.nv.ownerRevoked.testBit j)
  fuseStart e .SEC_OWNER_REVOKE ok (.revoke k) d

/-- A fuse operation ends (R399, R401). -/
def fuseEnds (e : Env) (ok : Bool) (d : Dev) : NonVol × Dev :=
  match d.fuseOp with
  | none => (e.nv, d)
  | some op =>
    if ok then (fuseDone op e.nv, sset .SEC_FUSE_RESULT 0 { d with fuseOp := none })
    else (fuseCut op (takeFree d).1 e.nv, sset .SEC_FUSE_RESULT 3 { (takeFree d).2 with fuseOp := none })

/-- What verification reads from a well-formed image: security version, version reported, and the bytes signed. -/
structure Image where
  svn : Nat := 0
  version : Nat := 0
  signed : List Byte := []
  deriving DecidableEq, Repr

/-- Largest LENGTH of a kind (R402). -/
def imageMax : Nat → Nat
  | 1 => 2 ^ 26
  | 2 => 2 ^ 18
  | _ => 2 ^ 16

/-- A signed image of kind 1, 2 or 4 (R402). -/
def signedImage (kind : Nat) (bs : List Byte) : Option Image :=
  if 64 + 392 ≤ bs.length ∧ fieldAt bs 0 4 = 0x474D4956 ∧ fieldAt bs 4 2 = 1 ∧ fieldAt bs 6 1 = kind ∧ fieldAt bs 7 1 < 128 ∧
      zeroBytes bs 0xC 0x10 ∧ fieldAt bs 0x10 8 = bs.length ∧ zeroBytes bs 0x18 0x40 ∧ bs.length ≤ imageMax kind then
    some { svn := fieldAt bs 7 1, version := fieldAt bs 8 4, signed := bs.take (bs.length - 392) }
  else none

/-- A pattern entry (R366). -/
def patternOk (bs : List Byte) (i : Nat) : Bool :=
  let p := 64 + 32 * i
  let room (off len : Nat) : Bool := off + len ≤ bs.length - 392
  fieldAt bs (p + 4) 4 % 16 = 0 && fieldAt bs (p + 4) 4 ≤ 65536 && room (fieldAt bs p 4) (fieldAt bs (p + 4) 4) &&
  fieldAt bs (p + 12) 4 ≤ 1984 * 1024 && room (fieldAt bs (p + 8) 4) (fieldAt bs (p + 12) 4) &&
  1 ≤ fieldAt bs (p + 16) 2 && fieldAt bs (p + 18) 6 = 0

/-- Entry i of a pack with what it names (R366). -/
def patternAt (bs : List Byte) (i : Nat) : Pattern :=
  let p := 64 + 32 * i
  let part (off len : Nat) : List Byte := (bs.drop (fieldAt bs off 4)).take (fieldAt bs len 4)
  { stream := part p (p + 4), data := part (p + 8) (p + 12), repeats := fieldAt bs (p + 16) 2, expect := fieldAt bs (p + 24) 8 }

/-- A pattern pack (R366). -/
def packImage (bs : List Byte) : Option (Image × Pack) :=
  let n := fieldAt bs 0xC 2
  if 64 + 32 * n + 392 ≤ bs.length ∧ fieldAt bs 0 4 = 0x4B50564C ∧ fieldAt bs 4 2 = 1 ∧ fieldAt bs 6 2 = 0 ∧ 1 ≤ n ∧
      fieldAt bs 0xE 2 ≤ 900 ∧ fieldAt bs 0x10 8 = bs.length ∧ zeroBytes bs 0x18 0x40 ∧ (List.range n).all (patternOk bs) then
    let pack : Pack := { id := fieldAt bs 8 2, ver := fieldAt bs 0xA 2,
                         pats := (List.range n).map (patternAt bs) }
    some ({ version := pack.ver + pack.id * 65536, signed := bs.take (bs.length - 392) }, pack)
  else none

/-- A section table entry (R243). -/
def sectionOk (bs : List Byte) (p : Nat) : Bool :=
  let type := fieldAt bs p 2
  ((1 ≤ type && type ≤ 0xD) || type = 0xFF) && fieldAt bs (p + 2) 2 / 8 % 2 = 0 && fieldAt bs (p + 4) 4 = 0 &&
  fieldAt bs (p + 8) 8 % 64 = 0 && fieldAt bs (p + 8) 8 + fieldAt bs (p + 16) 8 ≤ bs.length && fieldAt bs (p + 24) 8 = 0

/-- A program binary (R242, R243); its last section is the signature. -/
def programImage (bs : List Byte) : Option Image :=
  let n := fieldAt bs 0x10 4
  let t := fieldAt bs 0x14 4
  let last := t + 32 * (n - 1)
  if 64 ≤ bs.length ∧ fieldAt bs 0 4 = 0x324B5644 ∧ fieldAt bs 4 2 = 1 ∧ fieldAt bs 6 2 = 0 ∧ fieldAt bs 8 8 = bs.length ∧
      2 ≤ n ∧ n ≤ 4096 ∧ t % 64 = 0 ∧ t + 32 * n ≤ bs.length ∧ 1 ≤ fieldAt bs 0x18 2 ∧ fieldAt bs 0x18 2 ≤ 64 ∧
      1 ≤ fieldAt bs 0x1A 2 ∧ fieldAt bs 0x1A 2 ≤ 64 ∧ 1 ≤ fieldAt bs 0x1E 1 % 16 ∧ fieldAt bs 0x1E 1 % 16 ≤ 8 ∧
      fieldAt bs 0x1F 1 = 0 ∧ zeroBytes bs 0x24 0x40 ∧ (List.range n).all (fun i => sectionOk bs (t + 32 * i)) ∧
      fieldAt bs last 2 = 0xFF ∧ fieldAt bs (last + 16) 8 = 392 ∧ fieldAt bs (last + 8) 8 + 392 = bs.length then
    some { version := fieldAt bs 0x20 4, signed := bs.take (bs.length - 392) }
  else none

/-- PURPOSE of the signing key of a kind of image (R398). -/
def purposeOf : Nat → Nat
  | 1 => 1
  | 2 => 2
  | 3 => 3
  | 4 => 4
  | _ => 7

/-- An image of a kind (R403). -/
def imageOf (kind : Nat) (bs : List Byte) : Option Image :=
  match kind with
  | 1 | 2 | 4 => signedImage kind bs
  | 3 => (packImage bs).map (·.1)
  | 6 => programImage bs
  | _ => none

/-- The key at the root of a kind's chain: the vendor root key, or the owner's (R398). -/
def chainRoot (nv : NonVol) (kind : Nat) : Option Nat :=
  if kind = 6 then (ownerRecord nv nv.ownerRec).map (·.modulus) else (rootKey nv).map (·.modulus)

/-- KEY_MAX_ARB of the record at the root of a kind's chain is met (R398). -/
def chainMeets (nv : NonVol) (kind : Nat) : Bool :=
  if kind = 6 then (ownerKey nv nv.ownerRec).isSome else rootMeets nv

/-- PACK_VER is lower than that of the pack in force with the same PACK_ID (R367). -/
def packLower (d : Dev) (bs : List Byte) : Bool :=
  match packImage bs, d.pack with
  | some (_, p), some q => p.id = q.id && p.ver < q.ver
  | _, _ => false

/-- The verifier's answer (R403, R409): the lowest code that applies. -/
def verifyCode (nv : NonVol) (d : Dev) (kind : Nat) (bs cert : List Byte) : Nat :=
  match imageOf kind bs, certOf cert with
  | some im, some c =>
    let tail := bs.drop (bs.length - 392)
    if fieldAt tail 0 8 ≠ c.keyId ∨ rsaOk c.modulus im.signed (tail.drop 8) = false then 3
    else if (chainRoot nv kind).any (certSignedBy c) = false then 4
    else if c.purpose ≠ purposeOf kind then 5
    else if (kind ≠ 3 ∧ kind ≠ 6 ∧ im.svn < nv.arbCount) ∨ (kind = 3 ∧ packLower d bs) then 6
    else if c.maxArb < nv.arbCount ∨ chainMeets nv kind = false then 7
    else 0
  | _, _ => 2

/-- A pattern pack is refused with a code (R367, R343). -/
def packRefused (e : Env) (code : Nat) (d : Dev) : Dev :=
  logError e { cls := 0x0704, level := 4, kind := 7, syn := code } (sset .TEST_PACK_RESULT code d)

/-- TEST_PACK_RESULT for the verifier's answer (R368). -/
def packCode : Nat → Nat
  | 0 => 0
  | 2 => 1
  | 6 => 3
  | _ => 2

/-- A pattern pack comes into force (R367). -/
def packTaken (e : Env) (bs : List Byte) (key : Nat) (d : Dev) : Dev :=
  match packImage bs with
  | none => d
  | some (im, p) =>
    let m : Meas := { kind := 3, version := im.version, keyId := key, ft := e.clk.ft, digest := sha256 im.signed }
    sset .TEST_PACK_RESULT 0 (sset .TEST_PACK_ID p.id (sset .TEST_PACK_VER p.ver (measure m { d with pack := some p })))

/-- A pack load ends on either path (R367). -/
def packDone (e : Env) (bs : List Byte) (code : Nat) (d : Dev) : Dev :=
  if code = 0 then packTaken e bs (fieldAt (bs.drop (bs.length - 392)) 0 8) d else packRefused e (packCode code) d

/-- Firmware goes into the inactive slot (R403). -/
def fwTaken (e : Env) (m : Meas) (im : Image) (c : Cert) (d : Dev) : NonVol × Dev :=
  let n := 1 - sget d .SEC_FW_ACTIVE
  let f : FwSlot := { svn := im.svn, version := im.version, keyId := c.keyId, maxArb := c.maxArb, digest := m.digest }
  (if n = 0 then { e.nv with slotA := f } else { e.nv with slotB := f },
   sset .SEC_FW_PENDING 1 (measure (fwMeas e n true f) { d with meas := d.meas.filter (fun x => !x.pending) }))

/-- An accepted image is taken in (R403). -/
def imageTaken (e : Env) (r : VerifyReq) (bs : List Byte) (im : Image) (c : Cert) (d : Dev) : NonVol × Dev :=
  let m : Meas := { kind := r.kind, version := im.svn, keyId := c.keyId, ft := e.clk.ft, digest := sha256 im.signed }
  match r.kind with
  | 1 => fwTaken e m im c d
  | 2 => (e.nv, sset .SEC_UC_SVN im.svn { d with ucHeld := some m })
  | 3 => (e.nv, packDone e bs 0 d)
  | 4 => (e.nv, { d with calHeld := some (m, im.version, im.signed.drop 64) })
  | _ => (e.nv, measure { m with slot := r.ctx, version := im.version } d)

/-- Verification of what was read ends (R403). -/
def verified (e : Env) (r : VerifyReq) (bs cert : List Byte) (d : Dev) : NonVol × Dev :=
  let code := verifyCode e.nv d r.kind bs cert
  let d := sset .SEC_VERIFY_RESULT code d
  match imageOf r.kind bs, certOf cert with
  | some im, some c => if code = 0 then imageTaken e r bs im c d else (e.nv, if r.kind = 3 then packDone e bs code d else d)
  | _, _ => (e.nv, if r.kind = 3 then packDone e bs code d else d)

/-- SEC_VERIFY_GO is written (R403, R367, R410). -/
def verifyGo (e : Env) (d : Dev) : Dev :=
  if sget d .SEC_VERIFY_BUSY = 1 then sRefused e .SEC_VERIFY_GO d
  else
    let d := sset .SEC_VERIFY_RESULT 1 d
    let r : VerifyReq := ⟨sget d .SEC_IMG_ADDR, sget d .SEC_CERT_ADDR, sget d .SEC_IMG_KIND, sget d .SEC_IMG_CTX⟩
    if r.kind = 3 ∧ d.packLoad.isSome then packRefused e 4 d else sset .SEC_VERIFY_BUSY 1 { d with verify := some r }

/-- Verification ends (R403, R450). -/
def verifyEnds (e : Env) (bs cert : List Byte) (d : Dev) : NonVol × Dev :=
  match d.verify with
  | none => (e.nv, d)
  | some r =>
    let d := sset .SEC_VERIFY_BUSY 0 { d with verify := none }
    if !inTabok r.img bs.length then verified e r [] cert (hostAccess e r.img false d)
    else if !inTabok r.cert 1024 then verified e r bs [] (hostAccess e r.cert false d)
    else verified e r bs cert d

/-- SEC_UC_GO is written (R404, R410). -/
def ucGo (e : Env) (d : Dev) : Dev :=
  let p := sget d .SEC_UC_TILE
  let st := tileState d p
  match d.ucHeld with
  | some m =>
    if p < 1440 ∧ (st = 1 ∨ st = 3) then
      sset .SEC_UC_STATE 1 (rset { d with ucLoad := d.ucLoad ++ [(p, st, m)] } ⟨.TILE_STATE, p, 0, 0⟩ 5)
    else sRefused e .SEC_UC_GO (sset .SEC_UC_STATE 3 d)
  | none => sRefused e .SEC_UC_GO (sset .SEC_UC_STATE 3 d)

/-- The oldest microcode load ends (R404). -/
def ucDone (d : Dev) : Dev :=
  match d.ucLoad with
  | [] => d
  | (p, st, m) :: rest =>
    let d := rset { d with ucLoad := rest, ucTiles := tblSet (fun k => k) d.ucTiles p m {} } ⟨.TILE_STATE, p, 0, 0⟩ st
    if rest = [] then sset .SEC_UC_STATE 2 d else d

/-- SEC_CAL_APPLY is written (R404): the tables go into boot flash, and the arbiter takes its values at its next
recomputation. The layout of the tables is not given: what they hold for the arbiter is free (notes/assumptions/115.md). -/
def calApply (e : Env) (d : Dev) : NonVol × Dev :=
  match d.calHeld with
  | none => (e.nv, d)
  | some (m, version, tables) =>
    let r := takeFree d
    let t := takeFree r.2
    let cal : Cal := { res := r.1 % 2 ^ Reg.PWR_RESERVE_W.bits, cost := t.1 % 2 ^ Reg.PWR_TOKEN_COST.bits, version := version, svn := m.version,
                       tables := tables }
    ({ e.nv with cal := cal }, { sset .SEC_CAL_VER version (measure m t.2) with calNext := some (cal.res, cal.cost) })

/-- Releases of microcode in use, each with its count of tiles (R404, R406). -/
def ucReleases (d : Dev) : List (Meas × Nat) :=
  let ms := (d.ucTiles.map (·.2)).foldl (fun (l : List Meas) m =>
    if l.any (fun x => x.version = m.version && x.digest = m.digest && x.keyId = m.keyId) then l else l ++ [m]) []
  ms.map (fun m => (m, (d.ucTiles.filter (fun x => x.2.version = m.version && x.2.digest = m.digest && x.2.keyId = m.keyId)).length))

/-- Order of the entries (R406). -/
def measBefore (a b : Meas × Nat) : Bool :=
  let key (x : Meas × Nat) : Nat := (x.1.kind * 2 ^ 8 + x.1.slot) * 2 ^ 32 + x.1.version
  key a ≤ key b

/-- The measurements in force, each with its count of tiles (R406). -/
def measList (d : Dev) : List (Meas × Nat) := sortBy measBefore (d.meas.map (fun m => (m, 0)) ++ ucReleases d)

/-- An entry of a report (R406). -/
def measEntry (x : Meas × Nat) : List Byte :=
  leBytes (packFields [(8, x.1.kind), (8, x.1.slot), (16, b2n x.1.pending), (32, x.1.version), (64, x.1.keyId), (64, x.1.ft), (64, x.2)]) 32 ++
  x.1.digest

/-- Header and entries of a report (R406). -/
def reportBody (e : Env) (d : Dev) : List Byte :=
  let ms := (measList d).take 32
  let head := packFields [(32, 0x54544156), (16, 1), (16, ms.length), (32, 128 + 64 * ms.length + 392), (8, e.nv.arbCount),
    (1, b2n e.nv.gradeE), (7, e.nv.stepping), (16, cfgState d), (64, e.nv.serial), (64, e.clk.ft), (64, d.rc),
    (64, sget d .CFG_VERSION), (64, keyId e.nv.idModulus)]
  leBytes head 64 ++ hashBytes d .SEC_ATT_NONCE ++ List.replicate 32 0 ++ ms.flatMap measEntry

/-- SEC_ATT_GO is written (R407, R410). -/
def attGo (e : Env) (d : Dev) : Dev :=
  if sget d .SEC_ATT_STATE = 1 ∨ d.report.isSome then sRefused e .SEC_ATT_GO (sset .SEC_ATT_STATE 3 d)
  else if sget d .SEC_ID_PRESENT = 0 then sset .SEC_ATT_STATE 3 d
  else sset .SEC_ATT_STATE 1 { d with report := some { addr := rbase d ⟨.SEC_ATT_ADDR, 0, 0, 0⟩, body := reportBody e d } }

/-- A signature of the identity key over bytes, with a salt (R396). A modulus that has no root of the encoded message is no
RSA modulus: what it would give is a free value y. -/
def identitySigns (modulus : Nat) (bs salt : List Byte) (y : Nat) : List Byte :=
  beBytes ((rsaRoot modulus (beNat (pssEncode (sha256 bs) salt))).getD (y % modulus)) 384

/-- The report is signed and written (R396, R406, R407, R450). The salt is a free value of 32 bytes. -/
def attDone (e : Env) (d : Dev) : Dev :=
  match d.report with
  | none => d
  | some r =>
    let x := takeFree { d with report := none }
    let y := takeFree x.2
    let bs := r.body ++ leBytes (keyId e.nv.idModulus) 8 ++ identitySigns e.nv.idModulus r.body (leBytes x.1 32) y.1
    let ok := inTabok r.addr bs.length
    sset .SEC_ATT_LEN bs.length (sset .SEC_ATT_STATE (if ok then 2 else 3) (hostWrite e r.addr bs y.2))

/-- SEC_ARB_ADVANCE (R401). -/
def execSecArbAdvance (s : State) : Host.Outcome State Fault Refusal := actT s true (fun e d => arbAdvance e d)

/-- SEC_OWNER_BURN (R399). -/
def execSecOwnerBurn (s : State) : Host.Outcome State Fault Refusal := actT s true (fun e d => ownerBurn e d)

/-- SEC_OWNER_REVOKE (R399). -/
def execSecOwnerRevoke (s : State) : Host.Outcome State Fault Refusal := actT s true (fun e d => ownerRevoke e d)

/-- FUSE_OP_DONE (R399, R401). -/
def execFuseOpDone (ok : Bool) (s : State) : Host.Outcome State Fault Refusal := actNv s (fun e d => fuseEnds e ok d)

/-- SEC_VERIFY_GO (R403). -/
def execSecVerifyGo (s : State) : Host.Outcome State Fault Refusal := actT s true (fun e d => verifyGo e d)

/-- VERIFY_DONE (R403). -/
def execVerifyDone (image cert : List Byte) (s : State) : Host.Outcome State Fault Refusal :=
  actNv s (fun e d => verifyEnds e image cert d)

/-- SEC_UC_GO (R404). -/
def execSecUcGo (s : State) : Host.Outcome State Fault Refusal := actT s true (fun e d => ucGo e d)

/-- MICROCODE_LOAD_DONE (R404). -/
def execMicrocodeLoadDone (s : State) : Host.Outcome State Fault Refusal := act s true (fun _ d => ucDone d)

/-- SEC_CAL_APPLY (R404). -/
def execSecCalApply (s : State) : Host.Outcome State Fault Refusal := actTNv s (fun e d => calApply e d)

/-- SEC_ATT_GO (R407). -/
def execSecAttGo (s : State) : Host.Outcome State Fault Refusal := actT s true (fun e d => attGo e d)

/-- ATT_REPORT_DONE (R407). -/
def execAttReportDone (s : State) : Host.Outcome State Fault Refusal := act s true (fun e d => attDone e d)

end Sys2Proof.Machine
end

