-- ==== Sys2Proof/Machine/Test.lean ====
section
/-! DEFINITION. Marks, the drain, pattern packs from HBM and lovage runs (R342, R361, R363, R365, R367 to R369). -/

namespace Sys2Proof.Machine

/-- SYNDROME of a marked record (R368). -/
def markSyn (d : Dev) : Nat := packFields ((List.range 4).map (fun w => (32, rget d ⟨.TEST_MARK_SYN, w, 0, 0⟩)))

/-- A record of TEST_MARK_CLASS with a severity (R342). -/
def markRecord (e : Env) (sev : Nat) (d : Dev) : Dev :=
  let cls := sget d .TEST_MARK_CLASS
  let tile := cls = 0x0703 ∨ cls = 0x0705
  logError e { cls := cls, level := if tile then 3 else 4, kind := if tile then 0 else 7,
               index := if tile then markSyn d % 2048 else 0, syn := markSyn d, sev := some sev } d

/-- Classes that TEST_MARK_CLASS takes (R368). -/
def markClasses : List Nat := [0x0601, 0x0602, 0x0603, 0x0604, 0x0703, 0x0705]

/-- TEST_MARK_SUSPECT is written (R368). -/
def markSuspectGo (e : Env) (d : Dev) : Dev :=
  if sget d .TEST_MARK_CLASS ∈ markClasses then markRecord e 2 d else sRefused e .TEST_MARK_SUSPECT d

/-- TEST_MARK_NOTE is written (R368, R369). -/
def markNoteGo (e : Env) (d : Dev) : Dev :=
  if sget d .TEST_MARK_CLASS = 0x0703 ∨ sget d .TEST_MARK_CLASS = 0x0705 then markRecord e 0 d else sRefused e .TEST_MARK_NOTE d

/-- TEST_DRAIN is written (R361, R369). -/
def drain (e : Env) (d : Dev) : Dev :=
  if (List.range 8).any (fun c => ctxState d c ≠ 0) then sRefused e .TEST_DRAIN d
  else
    let d := sset .TEST_DRAINED 1 ((lovageRuns d).foldl (lovageAbort e 3) d)
    let d := (List.range 4).foldl (fun d p => rset d ⟨.ETH_PORT_STATE, p, 0, 0⟩ 3) (sset .LNK_ROUTE_EN 0 d)
    sweepAll e { d with pins := { d.pins with fault := true } }

/-- TEST_PACK_LOAD is written (R367). -/
def packLoadGo (e : Env) (d : Dev) : Dev :=
  if d.packLoad.isSome ∨ d.verify.any (fun r => r.kind = 3) then packRefused e 4 d
  else { d with packLoad := some (rbase d ⟨.TEST_PACK_ADDR, 0, 0, 0⟩, rbase d ⟨.TEST_PACK_CERT, 0, 0, 0⟩) }

/-- Bytes of HBM that the security controller reads; none where they cannot be read, with the record of R180 or R192. -/
def hbmTake (e : Env) (a n : Nat) (d : Dev) : List Byte × Dev :=
  match hbmRead d a n with
  | .ok bs => (bs, hbmDone e a n d)
  | .beyond => ([], hbmBeyond e (max a (hbmCap d)) none none d)
  | r => ([], hbmFailed e a n r d)

/-- A pack that was read from HBM is checked (R367). -/
def packEnds (e : Env) (d : Dev) : Dev :=
  match d.packLoad with
  | none => d
  | some (a, cert) =>
    let h := hbmTake e a 64 { d with packLoad := none }
    let b := hbmTake e a (fieldAt h.1 0x10 8) h.2
    let c := hbmTake e cert 1024 b.2
    packDone e b.1 (verifyCode e.nv c.2 3 b.1 c.1) c.2

/-- A field of lovage slot k. -/
def lovGet (d : Dev) (r : Reg) (k : Nat) : Nat := rget d ⟨r, k, 0, 0⟩
def lovSet (r : Reg) (k v : Nat) (d : Dev) : Dev := rset d ⟨r, k, 0, 0⟩ v

/-- TEST_L_GO of slot k is accepted (R361, R369). -/
def lovageMay (d : Dev) (k : Nat) : Bool :=
  let p := lovageTile d k
  !lovageOn d k && p < 1440 && (tileState d p = 1 || tileState d p = 3) &&
  (List.range 16).all (fun j => j = k || lovageTile d j ≠ p) &&
  (lovageRuns d).length < sget d .TEST_RUN_MAX && sget d .TEST_DRAINED = 0

/-- What the patterns leave in a tile's stores and buffer is a free value. -/
def storesFree (p : Nat) (d : Dev) : Dev :=
  let x := takeFree d
  let y := takeFree x.2
  let z := takeFree y.2
  { z.2 with ts := memWrite z.2.ts (p * 2 ^ 21) (leBytes x.1 (2 ^ 21)), gs := memWrite z.2.gs (p * 2 ^ 22) (leBytes y.1 (2 ^ 22)),
             tb := memWrite z.2.tb (p * 2 ^ 16) (leBytes z.1 (2 ^ 16)) }

/-- TEST_L_GO is written (R363, R369). -/
def lovageGo (e : Env) (k : Nat) (d : Dev) : Dev :=
  if lovageMay d k then
    let pats := (d.pack.map (·.pats)).getD []
    let d := { d with lovPack := tblSet (fun k => k) d.lovPack k pats [], lovGo := (k, e.clk.ns) :: d.lovGo.filter (fun x => x.1 ≠ k) }
    let d := storesFree (lovageTile d k) d
    lovSet .TEST_L_STATE k 1 (lovSet .TEST_L_REASON k 0 (lovSet .TEST_L_ELAPSED_MS k 0 d))
  else regAccess e (regOffset ⟨.TEST_L_GO, k, 0, 0⟩) true d

/-- TEST_L_TILE is written: the slot names a tile and goes back to idle (R369). -/
def lovageTileSet (e : Env) (k v : Nat) (d : Dev) : Dev :=
  if lovageOn d k then regAccess e (regOffset ⟨.TEST_L_TILE, k, 0, 0⟩) true d
  else lovSet .TEST_L_STATE k 0 (lovSet .TEST_L_TILE k v d)

/-- The last reading of the tile's sensor lies within 2 °C of the slot's junction target or above it (R363, R378;
notes/assumptions/118.md). -/
def junctionHot (d : Dev) (k : Nat) : Bool := (lovGet d .TEST_L_TJ k : Int) - 16 ≤ sensorAt d (lovageTile d k)

/-- The junction target is reached (R363). -/
def lovageHot (k : Nat) (d : Dev) : Dev :=
  if lovGet d .TEST_L_STATE k = 1 ∧ junctionHot d k then lovSet .TEST_L_STATE k 2 d else d

/-- The junction target is not reached within 120 s (R365). -/
def lovageCold (e : Env) (k : Nat) (d : Dev) : Dev := if lovGet d .TEST_L_STATE k = 1 then lovageAbort e 5 d k else d

/-- Index of the first pattern whose digest differs from the expected one (R365). -/
def firstDiff : Nat → List Nat → List Nat → Option Nat
  | _, [], _ => none
  | i, x :: xs, ys => if ys.headD (2 ^ 64) = x then firstDiff (i + 1) xs ys.tail else some i

/-- The patterns end (R365). -/
def lovageEnds (e : Env) (k : Nat) (digests : List Nat) (d : Dev) : Dev :=
  let p := lovageTile d k
  if lovGet d .TEST_L_STATE k ≠ 2 then d
  else match firstDiff 0 ((tblGet d.lovPack k []).map (·.expect)) digests with
    | none => rset (lovSet .TEST_L_STATE k 3 d) ⟨.TILE_STATE, p, 0, 0⟩ 1
    | some i =>
      logError e { cls := 0x0701, level := 3, index := p, syn := i % 2 ^ 32 + digests.getD i 0 * 2 ^ 64 }
        (lovSet .TEST_L_STATE k 4 (lovSet .TEST_L_FAIL_PAT k i d))

/-- TEST_MARK_SUSPECT (R368). -/
def execTestMarkSuspect (s : State) : Host.Outcome State Fault Refusal := actT s true (fun e d => markSuspectGo e d)

/-- TEST_MARK_NOTE (R368). -/
def execTestMarkNote (s : State) : Host.Outcome State Fault Refusal := actT s true (fun e d => markNoteGo e d)

/-- TEST_DRAIN (R361). -/
def execTestDrain (s : State) : Host.Outcome State Fault Refusal := actT s true (fun e d => drain e d)

/-- TEST_PACK_LOAD (R367). -/
def execTestPackLoad (s : State) : Host.Outcome State Fault Refusal := actT s true (fun e d => packLoadGo e d)

/-- PACK_LOAD_DONE (R367). -/
def execPackLoadDone (s : State) : Host.Outcome State Fault Refusal := act s true (fun e d => packEnds e d)

/-- TEST_L_GO (R363). -/
def execTestLGo (k : Nat) (s : State) : Host.Outcome State Fault Refusal := actT s (k < 16) (fun e d => lovageGo e k d)

/-- TEST_L_ABORT (R365). -/
def execTestLAbort (k reason : Nat) (s : State) : Host.Outcome State Fault Refusal :=
  actT s (k < 16) (fun e d => lovageAbort e reason d k)

/-- TEST_L_TILE (R369). -/
def execTestLTile (k : Nat) (v : Word) (s : State) : Host.Outcome State Fault Refusal :=
  actT s (k < 16) (fun e d => lovageTileSet e k (v.toNat % 2048) d)

/-- LOVAGE_TARGET_REACHED (R363). -/
def execLovageTargetReached (k : Nat) (s : State) : Host.Outcome State Fault Refusal :=
  act s (k < 16) (fun _ d => lovageHot k d)

/-- LOVAGE_HEAT_TIMEOUT (R365). -/
def execLovageHeatTimeout (k : Nat) (s : State) : Host.Outcome State Fault Refusal :=
  act s (k < 16) (fun e d => lovageCold e k d)

/-- LOVAGE_RUN_END (R365). -/
def execLovageRunEnd (k : Nat) (digests : List (BitVec 64)) (s : State) : Host.Outcome State Fault Refusal :=
  act s (k < 16) (fun e d => lovageEnds e k (digests.map (·.toNat)) d)

end Sys2Proof.Machine
end

