-- ==== Sys2Proof/Machine/Tile.lean ====
section
/-! DEFINITION. A tile's control registers: halts, pennants set by hand, and the enabling of contexts (R95, R105, R107,
R239, R249). -/

namespace Sys2Proof.Machine

/-- Offset of a word in a tile's block (R106). -/
def tileOff (p off : Nat) : Nat := 0x1000000 + 0x4000 * p + off

/-- Context c has a record in flight on a tile. -/
def inFlight (d : Dev) (p c : Nat) : Bool :=
  (getStrm d p 0 c).win.any (·.issued) || (getStrm d p 1 c).win.any (·.issued)

/-- TILE_HALTED bit c (R105). -/
def haltedOn (d : Dev) (p c : Nat) : Bool := (getTile d p).halt.testBit c && !inFlight d p c

/-- Registers of context c may change on a tile (R107). -/
def ctxOpen (d : Dev) (p c : Nat) : Bool := !enabledOn d p c || haltedOn d p c

/-- Issue of context c goes on, its trap armed again (R73, R105). -/
def resumeOn (d : Dev) (p c : Nat) : Dev :=
  let d := setTile d p { getTile d p with halt := clearBits 8 (getTile d p).halt (2 ^ c) }
  updCtx d c (fun x => { x with trapArmed := true })

/-- The word of TILE_HALT and TILE_RESUME is written (R105). -/
def writeHalt (e : Env) (p v : Nat) (d : Dev) : Dev :=
  if (List.range 8).any (fun c => v.testBit c && v.testBit (8 + c)) then regAccess e (tileOff p 0x14) true d
  else (List.range 8).foldl (fun d c =>
    if v.testBit c then haltOn c d p else if v.testBit (8 + c) then resumeOn d p c else d) d

/-- The context that owns physical pennant n of a tile (R106, R164). -/
def pennantOwner (d : Dev) (p n : Nat) : Option Nat :=
  (List.range 8).find? (fun c => [0, 1].any (fun h =>
    (getStrm d p h c).on && 32 * h ≤ n && (rget d ⟨.TILE_PEN_MASK, p, c, h⟩).testBit (n - 32 * h)))

/-- TILE_PEN_WRITE is written (R95). -/
def penWrite (e : Env) (p : Nat) (d : Dev) : Dev :=
  let n := rget d ⟨.TILE_PEN_SEL, p, 0, 0⟩
  match pennantOwner d p n with
  | some c =>
    if (getTile d p).halt.testBit c then
      waitsMoved p (rset d ⟨.TILE_PEN_COUNT, p, n, 0⟩ (rget d ⟨.TILE_PEN_VAL, p, 0, 0⟩))
    else regAccess e (tileOff p 0x504) true d
  | none => regAccess e (tileOff p 0x504) true d

/-- Logical tiles of a tile that a context is enabled on: those in its rectangle; logical tile A where neither is. -/
def halvesFor (d : Dev) (p c : Nat) : List Nat :=
  let a := inRectangle d c (rget d ⟨.TILE_LOG_A, p, 0, 0⟩)
  let b := isFolded d p && inRectangle d c (rget d ⟨.TILE_LOG_B, p, 0, 0⟩)
  (if a || !b then [0] else []) ++ (if b then [1] else [])

/-- What the loader declares for a context that is not loaded yet (R76, R242, R244, R326). -/
def loadCtx (c : Nat) (i : LoadImage) (d : Dev) : Dev :=
  let d := updCtx d c (fun x => { x with arith := i.arith, cols := i.cols, rows := i.rows, pacing := i.pacing, ceilings := i.ceilings, epochInit := i.epochInit })
  { d with gridX := i.gridX }

/-- A context's run-time state as it is loaded; its labels have no ratio yet (R419). -/
def freshCtx (c : Nat) (d : Dev) : Dev :=
  let d := { d with regs := d.regs.filter (fun x => !(x.1.reg = .MON_UR_LAST && x.1.i = c)) }
  updCtx d c (fun x => { x with trapArmed := true, queue := [], cur := none, ending := .running, decided := false, pos := d.rc, walkStep := d.rc / 2 ^ 24, walkNext := 0, judged := 0 })

/-- Bytes of a tile's stores that the loader has laid down. -/
def loadStore (p : Nat) (d : Dev) (x : StoreName × Nat × List Byte) : Dev :=
  match x.1 with
  | .tileStore => tsPut (p * 2 ^ 21 + x.2.1) x.2.2 d
  | .gradientStore => gsPut (p * 2 ^ 22 + x.2.1) x.2.2 d
  | .transposingBuffer => tbPut (p * 2 ^ 16 + x.2.1) x.2.2 d

/-- A logical tile takes a context: stream, counts, digest slots and status from zero (R81, R94, R97, R103, R64), and the detector
has seen no wait of it (R256). -/
def enableHalf (c p : Nat) (d : Dev) (h : Nat) : Dev :=
  let d := zeroCounters c (setStrm d p h c { on := true }) (p, h)
  let d := (onesOf (rget d ⟨.TILE_DIG_MASK, p, c, h⟩) 32).foldl (fun d n => rset d ⟨.TILE_DIG, p, slotNo h n, 0⟩ 0) d
  let own := (onesOf (rget d ⟨.TILE_LAND_MASK, p, c, h⟩) 32).map (fun n => p * 32 + landNo h n)
  rset { d with shadowBases := d.shadowBases.filter (fun x => !own.contains x.1) } ⟨.TILE_CTX_OVF, p, c, h⟩ 0

/-- Bit c of TILE_CTX_EN is set (R107, R239). -/
def enableCtx (p : Nat) (imgs : List LoadImage) (d : Dev) (c : Nat) : Dev :=
  let img := imgs.find? (fun i => i.ctx = c)
  let d := if ctxLoaded d c then d else freshCtx c ((img.map (fun i => loadCtx c i d)).getD d)
  let d := ((img.map (·.stores)).getD []).foldl (loadStore p) d
  let d := (halvesFor d p c).foldl (enableHalf c p) d
  let d := setTile d p { getTile d p with halt := clearBits 8 (getTile d p).halt (2 ^ c) }
  let d := { d with lineTags := d.lineTags.filter (fun t => !(t.p = p && t.c = c)) }
  let d := freeChans c d p
  if rget d ⟨.TILE_STATE, p, 0, 0⟩ = 3 then rset d ⟨.TILE_STATE, p, 0, 0⟩ 1 else d

/-- A context that is enabled nowhere is unloaded: its pending failure and its program's measurement go (R403, R448). -/
def unloadCtx (c : Nat) (d : Dev) : Dev :=
  if ctxLoaded d c then d
  else
    let d := [Reg.CLK_CTX_FAIL_PEND, .CLK_CTX_PEND_CAUSE, .LNK_COL_FAIL_PEND].foldl (fun d r => rset d ⟨r, c, 0, 0⟩ 0) d
    let d := updCtx d c (fun x => { x with queue := [], cur := none, ending := .running, decided := false, pacing := false })
    { d with meas := d.meas.filter (fun m => !(m.kind = 6 && m.slot = c)) }

/-- Bit c of TILE_CTX_EN is cleared. -/
def disableCtx (p : Nat) (d : Dev) (c : Nat) : Dev :=
  unloadCtx c (setStrm (setStrm d p 0 c {}) p 1 c {})

/-- TILE_CTX_EN as it reads. -/
def ctxEnBits (d : Dev) (p : Nat) : Nat := ((List.range 8).map (fun c => b2n (enabledOn d p c) * 2 ^ c)).sum

/-- TILE_CTX_EN is written (R107): a write that may not change one of its bits is ignored whole. -/
def writeCtxEn (e : Env) (p v : Nat) (imgs : List LoadImage) (d : Dev) : Dev :=
  let changed := (List.range 8).filter (fun c => v.testBit c ≠ enabledOn d p c)
  if changed.all (fun c => ctxOpen d p c) then
    let d := (changed.filter (fun c => !v.testBit c)).foldl (disableCtx p) d
    (changed.filter (fun c => v.testBit c)).foldl (enableCtx p imgs) d
  else regAccess e (tileOff p 0xC) true d

/-- TILE_HALT (R105). -/
def execTileHalt (p : Nat) (v : Word) (s : State) : Host.Outcome State Fault Refusal :=
  actT s (p < 1440) (fun e d => writeHalt e p v.toNat d)

/-- TILE_RESUME (R105). -/
def execTileResume (p : Nat) (v : Word) (s : State) : Host.Outcome State Fault Refusal :=
  actT s (p < 1440) (fun e d => writeHalt e p v.toNat d)

/-- TILE_PEN_WRITE (R95). -/
def execTilePenWrite (p : Nat) (s : State) : Host.Outcome State Fault Refusal := actT s (p < 1440) (fun e d => penWrite e p d)

/-- TILE_CTX_EN (R107). -/
def execTileCtxEn (p : Nat) (v : Word) (imgs : List LoadImage) (s : State) : Host.Outcome State Fault Refusal :=
  actT s (p < 1440) (fun e d => writeCtxEn e p v.toNat imgs d)

end Sys2Proof.Machine
end

