-- ==== Sys2Proof/Machine/View.lean ====
section
/-! DEFINITION. What a register reads as (R13, R14): stored, or taken from the state that it shows. -/

namespace Sys2Proof.Machine

/-- The set that a DMA channel register shows. -/
def shownXfer (d : Dev) (k : RegKey) (shadow : Bool) : Xfer :=
  ((if shadow then (getChan d k.i k.j).shd else (getChan d k.i k.j).act)).getD {}

/-- Word w of a hash (R409). -/
def hashWord (bs : List Byte) (w : Nat) : Nat := fieldAt bs (4 * w) 4

/-- TILE_OP_HEAD (R106). -/
def opHead (s : Strm) : Nat := ((s.win.find? (fun w => !w.issued)).map (·.idx)).getD s.next

/-- Collective packets held in the device's buffers (R340). -/
def colPacketsHeld (d : Dev) : Bool :=
  let col (p : Pkt) : Bool := 4 ≤ p.type && p.type ≤ 7
  d.links.any (fun l => l.2.rx.any (fun q => col q.pkt) || l.2.replay.any (fun f => f.pkts.any col))

/-- Routed packets held in the device's buffers, those kept for a replay among them (R319). -/
def routedHeld (d : Dev) : Nat :=
  let routed (p : Pkt) : Bool := p.vc ≠ 3
  (d.links.map (fun l => (l.2.rx.filter (fun q => routed q.pkt)).length + ((l.2.replay.flatMap (·.pkts)).filter routed).length)).sum

/-- The active owner slot as SEC shows it: none before the ROM has read the fuses (R388, R399, R409). -/
def ownerSeen (nv : NonVol) (d : Dev) : Option Nat := if cfgState d = 0 then none else ownerActive nv

/-- State and rate of the stress-test clock and of TCK, domains 17 and 18 (R382, R387; notes/assumptions/117.md); the other
domains hold theirs. -/
def clockShown (d : Dev) (k : RegKey) : Option Nat :=
  let rate (n : Nat) : Option (Option Nat) :=
    match n with
    | 16 => some ((lovageRuns d).head?.map (fun x => rget d ⟨.TEST_L_XCLK_MHZ, x, 0, 0⟩))
    | 17 => some d.jtag.tck
    | _ => none
  (rate k.i).map (fun r => if k.reg = .CLK_DOM_STATE then 2 * b2n r.isSome else r.getD 0)

/-- The register window's block state and module registers. -/
def viewModule (e : Env) (d : Dev) (k : RegKey) : Option Nat :=
  match k.reg with
  | .CFG_GRADE => some (b2n e.nv.gradeE)
  | .CFG_STEPPING => some e.nv.stepping
  | .CFG_SERIAL => some e.nv.serial
  | .CFG_RDY_UCIE => some (b2n (sget d .CFG_UCIE_UP ||| sget d .CFG_UCIE_OFF = 255))
  | .CFG_RDY_HBM => some (b2n ((List.range 20).all (stackServes d)))
  | .CFG_RDY_TILES => some (b2n (allTiles.all (fun p => tileState d p ≠ 0)))
  | .CFG_TILES_READY => some (allTiles.filter (fun p => tileState d p = 1 || tileState d p = 2)).length
  | .CFG_STAGE_WORDS => some (popCount d.stageMask 256)
  | .SEC_ROOT_HASH => some (hashWord (fuseBytes e.nv.rootHash) k.i)
  | .SEC_ARB_COUNT => some e.nv.arbCount
  | .SEC_OWNER_BURNED => some e.nv.ownerBurned
  | .SEC_OWNER_REVOKED => some e.nv.ownerRevoked
  | .SEC_OWNER_ACTIVE => some ((ownerSeen e.nv d).getD 0)
  | .SEC_OWNER_NONE => some (b2n (ownerSeen e.nv d).isNone)
  | .SEC_OWNER_FUSE => some (hashWord (ownerFuse e.nv k.i) k.j)
  | .SEC_FW_SVN_A => some (if cfgState d = 0 then 0 else e.nv.slotA.svn)
  | .SEC_FW_SVN_B => some (if cfgState d = 0 then 0 else e.nv.slotB.svn)
  | .SEC_MEAS_COUNT => some (measList d).length
  | .LOG_HEAD => some (d.logNext % 2 ^ 32)
  | .LOG_COPY => some (logCopyIndex d)
  | .PWR_BUDGET_EFF => some (budget d)
  | .PWR_CAPACITY => some (capacity d)
  | .PWR_GRANTED => some (tokensHeld d)
  | .PWR_OVER => some (b2n (d.kOver ≠ 0))
  | .PWR_THERMAL => some (b2n (d.kTherm ≠ 0))
  | .PWR_TCLK_K => some (stepInForce d)
  | .PWR_CTX_TOKENS => some (tokensOf d k.i)
  | .CLK_DOM_STATE => clockShown d k
  | .CLK_DOM_MHZ => clockShown d k
  | _ => none

/-- Run coordinate, contexts, rings, HBM, links and ports. -/
def viewFabric (e : Env) (d : Dev) (k : RegKey) : Option Nat :=
  match k.reg with
  | .CLK_RC => some d.rc
  | .CLK_FT => some e.clk.ft
  | .CLK_RC_BOUND => some (b2n (rget d ⟨.LNK_RANK_COUNT, 0, 0, 0⟩ ≠ 0 && (pacingCtx d).isSome))
  | .CLK_FT_SYNCED => some (b2n (ftSynced d))
  | .CLK_FT_MASTER => some (b2n (ftMaster d))
  | .CLK_ARM_FREE => some (256 - d.armed.length)
  | .CLK_CTX_STATE => some (ctxState d k.i)
  | .CLK_CTX_PACING => some (b2n (pacingCtx d = some k.i))
  | .CLK_CTX_DL => some (((getCtx d k.i).cur.map (·.deadline)).getD (2 ^ 64 - 1))
  | .RING_CQ_FULL => some (b2n (cqFull d k.i))
  | .RING_EV_HELD => some (min 32 (evHeld d k.i))
  | .HBM_MIGRATE_LEFT =>
    match tblGet d.migs k.i none with
    | some (_, q) => some ((movesLeft d k.i q (migTop d k.i - q) + 1) / 2)
    | none => some 0
  | .HBM_CAP => some (hbmCap d)
  | .HBM_RET_MAX => some (retMax d)
  | .HBM_READY_MASK => some ((List.range 20).map (fun s => b2n (stackServes d s) * 2 ^ s)).sum
  | .LNK_INFLIGHT => some (routedHeld d + d.tags.length)
  | .LNK_COL_STAGED => some (stagedOn d k.i)
  | .LNK_COL_QUIET => some (b2n (d.cols.isEmpty && d.early.isEmpty && !colPacketsHeld d))
  | .LNK_COL_WALK => some (getCtx d k.i).walkNext
  | .LNK_COL_OPEN => some (d.cols.filter (fun x => x.c = k.i)).length
  | .LNK_COL_POS => some (colPos d k.i)
  | .ETH_PORT_STATE => some (if cfgState d = 3 then rget d k else 3)
  | .ETH_QP_SQ_CONS => some (getQp d k.i k.j).cons
  | _ => none

/-- Tiles. -/
def viewTile (d : Dev) (k : RegKey) : Option Nat :=
  match k.reg with
  | .TILE_PHYS_X => some (k.i % 40)
  | .TILE_PHYS_Y => some (k.i / 40)
  | .TILE_STATE => some (tileState d k.i)
  | .TILE_FOLDED => some (b2n (isFolded d k.i))
  | .TILE_CTX_EN => some (ctxEnBits d k.i)
  | .TILE_HALTED => some ((List.range 8).map (fun c => b2n (haltedOn d k.i c) * 2 ^ c)).sum
  | .TILE_OP_HEAD => some (opHead (getStrm d k.i k.k k.j))
  | .TILE_OP_WINDOW => some (getStrm d k.i k.k k.j).win.length
  | .TILE_DMA_ACT => some ((shownXfer d k false).desc / 2 ^ (32 * k.k))
  | .TILE_DMA_SHD => some ((shownXfer d k true).desc / 2 ^ (32 * k.k))
  | .TILE_DMA_IDX0 => some (shownXfer d k false).i0
  | .TILE_DMA_IDX1 => some (shownXfer d k false).i1
  | .TILE_DMA_IDX2 => some (shownXfer d k false).i2
  | .TILE_DMA_RUN_OFF => some (shownXfer d k false).off
  | .TILE_DMA_ACT_VALID => some (b2n (getChan d k.i k.j).act.isSome)
  | .TILE_DMA_SHD_VALID => some (b2n (getChan d k.i k.j).shd.isSome)
  | .TILE_DMA_ACT_CTX => some (shownXfer d k false).c
  | .TILE_DMA_SHD_CTX => some (shownXfer d k true).c
  | .TILE_DMA_PENDING => some (heldCount (getChan d k.i k.j))
  | _ => none

/-- TILE_FOLD_VIEW of the tile whose block holds an offset (R168); an unfolded tile ignores it (R169). -/
def halfShown (d : Dev) (off : Nat) : Nat :=
  let p := (off - 0x1000000) / 0x4000
  if isFolded d p then rget d ⟨.TILE_FOLD_VIEW, p, 0, 0⟩ else 0

/-- Registers of the queue pair that ETH_QP_SEL names. -/
def perQp : Reg → Bool
  | .ETH_QP_SQ | .ETH_QP_CQ | .ETH_QP_SQ_LOG2 | .ETH_QP_CQ_LOG2 | .ETH_QP_EN | .ETH_QP_NVME | .ETH_QP_SEQ0 | .ETH_QP_CQ_CONS
  | .ETH_QP_SQ_CONS | .ETH_QP_REMOTE_QPN => true
  | _ => false

/-- The fields of the word at an offset. -/
def wordFields (d : Dev) (off : Nat) : List (WinRow × RegKey) :=
  (fieldsAt off (halfShown d off)).map (fun x =>
    (x.1, if perQp x.2.reg then { x.2 with j := rget d ⟨.ETH_QP_SEL, x.2.i, 0, 0⟩ } else x.2))

/-- The sticky overflow bit that MON_SAT_QUERY_BIT shows (R413). -/
def satQuery (d : Dev) : Nat :=
  ((wordFields d (rget d ⟨.MON_SAT_QUERY_OFF, 0, 0, 0⟩)).map (fun x => if x.1.type = .sat then rget d x.2 / 2 ^ 32 else 0)).sum

/-- A register's value as it reads: a SAT count without its sticky bit. -/
def regView (e : Env) (d : Dev) (k : RegKey) : Nat :=
  if k.reg = .MON_SAT_QUERY_BIT then satQuery d
  else ((viewModule e d k <|> viewFabric e d k) <|> viewTile d k).getD (if k.reg.isSat then satCount (rget d k) else rget d k)

/-- A field in its place in the word (R14). -/
def fieldBits (e : Env) (d : Dev) (x : WinRow × RegKey) : Nat :=
  if x.1.type = .wo then 0 else regView e d x.2 / 2 ^ x.1.part % 2 ^ (x.1.hi - x.1.lo + 1) * 2 ^ x.1.lo

/-- The word at an offset, as a read finds it. -/
def wordView (e : Env) (d : Dev) (off : Nat) : Nat := ((wordFields d off).map (fieldBits e d)).sum

/-- A register of two words (R13). R13 speaks of 64-bit quantities; the fields of 36 and 40 bits that occupy two words
(LNK_HOIST_CHILD, TILE_SRL_SALT, TILE_SRL_STEP, TEST_RCP_STEP) are taken as such quantities too (the model's choice,
notes/assumptions/79.md). -/
def isPair (r : Reg) : Bool := winRows.any (fun w => w.reg = r && w.part = 32)

/-- Offset of the other word of a pair, from the word that holds bits `part` upwards. -/
def partner (x : WinRow × RegKey) (off : Nat) : Nat :=
  match winRows.find? (fun w => w.reg = x.1.reg && w.part = 32 - x.1.part) with
  | some w => off + w.base - x.1.base
  | none => off

/-- An access is aligned and inside a block (R13, R266). -/
def offsetOk (off : Nat) : Bool := off % 4 = 0 && inBlock off

/-- A read of a word: its value, and the latched high words after it (R13). -/
def readPaired (e : Env) (d : Dev) (latch : List (Nat × Nat)) (off : Nat) : Nat × List (Nat × Nat) :=
  match wordFields d off with
  | x :: _ =>
    if isPair x.1.reg then
      if x.1.part = 0 then (wordView e d off, tblSet (fun k => k) latch (partner x off) (wordView e d (partner x off) + 1) 0)
      else if tblGet latch off 0 = 0 then (wordView e d off, latch)
      else (tblGet latch off 0 - 1, tblSet (fun k => k) latch off 0 0)
    else (wordView e d off, latch)
  | [] => (0, latch)

/-- A read over UCIe or JTAG of a number of bytes (R13, R266): an access of another width or alignment returns 0 and is
recorded. -/
def readWord (e : Env) (off width : Nat) (d : Dev) : Nat × Dev :=
  if offsetOk off ∧ width = 4 then
    let r := readPaired e d d.pairHigh off
    (r.1, { d with pairHigh := r.2 })
  else (0, regAccess e off false d)

end Sys2Proof.Machine
end

