-- ==== Sys2Proof/Machine/Regs.lean ====
section
/-! DEFINITION. Writes of the register window: what each word takes, and when (R13, R14, and the acceptance rules of
each block); reads and writes by number over UCIe, I3C and JTAG. -/

namespace Sys2Proof.Machine

/-- The bits of a field that hold something: bit 7 of a routing entry is reserved (R12, R308). -/
def bitsHeld (r : Reg) (f : Nat) : Nat := if r = .LNK_ROUTE_WORD then f &&& 0x7F7F7F7F else f

/-- A field written with the bits of a word (R14). -/
def putField (v : Nat) (d : Dev) (x : WinRow × RegKey) : Dev :=
  let f := bitsOf v x.1.hi x.1.lo
  match x.1.type with
  | .rw => rset d x.2 (bitsHeld x.2.reg f)
  | .w1c => rset d x.2 (clearBits x.2.reg.bits (rget d x.2) f)
  | .sat => if v = 0 then rset d x.2 0 else d
  | _ => d

/-- A word of a pair is written: the low one waits for the high one (R13). -/
def putPair (off v : Nat) (x : WinRow × RegKey) (d : Dev) : Dev :=
  if x.1.part = 0 then { d with pairLow := tblSet (fun k => k) d.pairLow off (v + 1) 0 }
  else
    let lo := partner x off
    let held := tblGet d.pairLow lo 0
    let low := if held = 0 then rget d x.2 % 2 ^ 32 else held - 1
    let n := low + bitsOf v x.1.hi x.1.lo * 2 ^ 32
    rset { d with pairLow := tblSet (fun k => k) d.pairLow lo 0 0 } x.2 n

/-- Every field of a word takes its bits. -/
def putWord (off v : Nat) (d : Dev) : Dev :=
  match wordFields d off with
  | [] => d
  | x :: xs => if isPair x.1.reg ∧ x.1.type = .rw then putPair off v x d else (x :: xs).foldl (putField v) d

/-- Every loaded context is idle or halted (R320). -/
def contextsRest (d : Dev) : Bool := (List.range 8).all (fun c => ctxState d c = 0 || ctxState d c = 1 || ctxState d c = 3)

/-- Ranks may be written (R320, R340). -/
def ranksOpen (d : Dev) : Bool := rget d ⟨.LNK_ROUTE_EN, 0, 0, 0⟩ = 0 || contextsRest d

/-- The shares of a link still total at most 4,096 units with share v written (R320), which is at least 1 KiB, 16 units
(R296, R311). -/
def vcbufFits (d : Dev) (k : RegKey) (v : Nat) : Bool :=
  16 ≤ v % 8192 &&
  ((List.range 8).map (fun n => if n = k.j then v % 8192 else rget d ⟨.LNK_VCBUF, k.i, n, 0⟩)).sum ≤ 4096

/-- Tile registers that name or place logical tiles may be written (R107, R169). -/
def tileOpen (d : Dev) (p : Nat) : Bool := tileState d p = 1 || tileState d p = 3

/-- TILE_DMA_ALLOW may be written (R214). -/
def allowOpen (d : Dev) (k : RegKey) (v : Nat) : Bool :=
  let ch := getChan d k.i k.j
  ch.act.isNone && ch.shd.isNone && heldCount ch = 0 &&
  (List.range 8).all (fun c => v.testBit c = (rget d k).testBit c || ctxOpen d k.i c)

/-- A number of entries 2^L that a ring may have. -/
def ringLog2Ok (l : Nat) : Bool := 6 ≤ l && l ≤ 16

/-- Whether the device takes a write of a word of this register (R95, R107, R169, R214, R241, R260, R281, R283, R320,
R340, R369, R386, R427, R435). -/
def mayWrite (d : Dev) (k : RegKey) (v : Nat) : Bool :=
  match k.reg with
  | .CFG_MBOX_OUT | .CFG_MBOX_OUT_LEN => sget d .CFG_MBOX_OUT_FULL = 0
  | .RING_GEN | .RING_CMD_BASE | .RING_CMD_SEQ0 | .RING_CQ_BASE | .RING_EQ_BASE | .RING_ENTRY => rget d ⟨.RING_EN, k.i, 0, 0⟩ = 0
  | .RING_CMD_LOG2 =>
    rget d ⟨.RING_EN, k.i, 0, 0⟩ = 0 && ringLog2Ok (bitsOf v 4 0) && ringLog2Ok (bitsOf v 12 8) && ringLog2Ok (bitsOf v 20 16)
  | .PWR_TJ_THROTTLE => 0x280 ≤ v % 65536 && v % 65536 ≤ 0x370
  | .PWR_CTX_FIG | .CLK_EP_NUM | .CLK_EP_STATE | .CLK_EP_PUB | .CLK_EP_NEXT | .CLK_EP_FILL_SEQ | .CLK_EP_FILL_CTX | .LNK_COL_TBL | .LNK_COL_TBL_N | .DBG_WAIT_LIMIT =>
    ctxState d k.i = 0
  | .LNK_VCBUF => (rget d ⟨.LNK_STATE, k.i, 0, 0⟩ = 0 || rget d ⟨.LNK_STATE, k.i, 0, 0⟩ = 4) && vcbufFits d k v
  | .LNK_MY_ADDR => rget d ⟨.LNK_ROUTE_EN, 0, 0, 0⟩ = 0
  | .LNK_MY_RANK | .LNK_RANK_COUNT | .LNK_RANK_WORD | .LNK_COL_RANK => ranksOpen d
  | .LNK_ROUTE_EN => sget d .TEST_DRAINED = 0 || v % 2 = 0
  | .LNK_HOIST_ID | .LNK_HOIST_PARENT | .LNK_HOIST_CHILD | .LNK_HOIST_DEPTH | .LNK_HOIST_DMAX | .LNK_HOIST_TIMEOUT =>
    hget d .LNK_HOIST_STATE = 0 || 3 ≤ hget d .LNK_HOIST_STATE
  | .ETH_QP_SQ | .ETH_QP_CQ | .ETH_QP_SEQ0 | .ETH_QP_REMOTE_QPN => qget d .ETH_QP_EN k.i k.j = 0
  | .MON_SNAP_ADDR | .MON_SNAP_FRAMES => d.snap.isNone
  | .LOG_RING_BASE => gget d .LOG_DRAIN_EN = 0
  | .TEST_MARK_CLASS => v % 65536 ∈ markClasses
  | .TEST_L_XCLK_MHZ | .TEST_L_VDROP | .TEST_L_TJ => !lovageOn d k.i
  | .TILE_LOG_A | .TILE_FOLD_BACK | .TILE_FOLD_TS_ON | .TILE_FOLD_TS_AT => tileOpen d k.i
  | .TILE_TS_BASE | .TILE_GS_BASE | .TILE_OPD_BASE | .TILE_PEN_MASK | .TILE_LAND_MASK | .TILE_STREAM_BASE | .TILE_DIG_MASK
  | .TILE_SRL_KEY | .TILE_SRL_SALT | .TILE_SRL_STEP =>
    ctxOpen d k.i k.j
  | .TILE_DMA_ALLOW => allowOpen d k v
  | _ => true

/-- What a write that was taken also does (R300, R310, R314, R316, R320, R418). -/
def afterWrite (e : Env) (k : RegKey) (d : Dev) : Dev :=
  match k.reg with
  | .LNK_ROUTE_EN | .LNK_ROUTE_WORD => sweepAll e d
  | .LNK_HOIST_ID =>
    hoistState 0 { d with pins := { d.pins with hoistOut := hget d .LNK_HOIST_WIRED = 1 } }
  | .LNK_HOIST_PARENT | .LNK_HOIST_CHILD | .LNK_HOIST_DEPTH | .LNK_HOIST_DMAX | .LNK_HOIST_TIMEOUT => hoistState 0 d
  | .LNK_LANE_RETIRE => startRetrain k.i d
  | .MON_SRC | .MON_FA => monClear k.i d
  | _ => d

/-- A word without triggers is written. -/
def plainWrite (e : Env) (off v : Nat) (k : RegKey) (d : Dev) : Dev :=
  if mayWrite d k v then afterWrite e k (putWord off v d) else regAccess e off true d

/-- A trigger bit. -/
def onBit (v n : Nat) (f : Dev → Dev) (d : Dev) : Dev := if bitOf v n then f d else d

/-- The first word of a context's DBG block is written (R260, R427): DBG_HZ_HALT at any time, the mode bits only where they
may change (notes/assumptions/77.md). -/
def writeDebug (e : Env) (off v : Nat) (k : RegKey) (d : Dev) : Dev :=
  let en : RegKey := { k with reg := .DBG_HZ_EN }
  let may := ctxState d k.i = 0 && !(bitOf v 0 && sget d .CFG_DEBUG_ALLOW = 0)
  let same := v % 4 = rget d k + 2 * rget d en
  let d := rset d { k with reg := .DBG_HZ_HALT } (b2n (bitOf v 2))
  if may then rset (rset d k (b2n (bitOf v 0))) en (b2n (bitOf v 1)) else if same then d else regAccess e off true d

/-- Words of CFG, RING, PWR and CLK that are more than fields. Where one write sets several triggers of a word, the model
takes them in ascending order of their bits, so that of 0x012C does GO, CANCEL and SET (the model's choice: no rule gives
an order; notes/assumptions/108.md). -/
def writeCore (e : Env) (off v : Nat) (k : RegKey) (d : Dev) : Option Dev :=
  match k.reg with
  | .CFG_STAGE => some (stageWord e k.i v d)
  | .CFG_STAGE_CLEAR => some (onBit v 1 (commitStart e) (onBit v 0 (stageClear e) d))
  | .CFG_VER_FLOOR =>
    some (if k ∈ d.onceWritten then regAccess e off true d else rset { d with onceWritten := d.onceWritten ++ [k] } k v)
  | .CFG_MBOX_IN_ACK => some (onBit v 1 (mailPost e) (onBit v 0 (sset .CFG_MBOX_IN_FULL 0) d))
  | .RING_DOORBELL => some (doorbell e v d)
  | .RING_EN => some (writeRingEn e k.i v d)
  | .RING_CQ_PROD => some (writeCons e .RING_CQ_PROD .RING_CQ_CONS k.i 0x28 v d)
  | .RING_EQ_PROD => some (writeCons e .RING_EQ_PROD .RING_EQ_CONS k.i 0x38 v d)
  | .PWR_BUDGET_W => some (writeBudget e v d)
  | .DBG_MODE => some (writeDebug e off v k d)
  | .CLK_ARM_GO => some (onBit v 2 (setGo e) (onBit v 1 armCancel (onBit v 0 armGo d)))
  | _ => none

/-- Words of HBM, LNK, ETH, MON and LOG that are more than fields. -/
def writeUnits (e : Env) (v : Nat) (k : RegKey) (d : Dev) : Option Dev :=
  match k.reg with
  | .HBM_RETIRE_GO => some (onBit v 0 (retireGo e k.i) d)
  | .LNK_EN => some (if bitOf v 0 then linkEnable e k.i d else linkDisable e k.i d)
  | .LNK_RETRAIN_GO => some (onBit v 0 (startRetrain k.i) d)
  | .LNK_HOIST_ENTER => some (onBit v 1 (hoistFails e) (onBit v 0 (hoistEnter e) d))
  | .ETH_DB_PROD => some (ethDoorbell k.i v d)
  | .ETH_QP_SQ_LOG2 => some (writeQpEn e k.i v d)
  | .MON_CLEAR => some (onBit v 0 (monClear k.i) d)
  | .MON_SNAP_GO => some (onBit v 0 (takeSnapshot e 0) d)
  | .LOG_RING_LOG2 => some (writeDrain e v d)
  | .LOG_RING_PROD => some (writeDrainCons e v d)
  | _ => none

/-- Words of TEST and of the tiles that are more than fields. -/
def writeTest (e : Env) (v : Nat) (imgs : List LoadImage) (k : RegKey) (d : Dev) : Option Dev :=
  match k.reg with
  | .TEST_MARK_SUSPECT => some (onBit v 2 (markNoteGo e) (onBit v 1 (drain e) (onBit v 0 (markSuspectGo e) d)))
  | .TEST_PACK_LOAD => some (onBit v 0 (packLoadGo e) d)
  | .TEST_RCP_GO => some (onBit v 1 (recoveryAbort e) (onBit v 0 (recoveryGo e) d))
  | .TEST_L_TILE => some (lovageTileSet e k.i (v % 2048) d)
  | .TEST_L_GO => some (onBit v 1 (fun d => lovageAbort e 1 d k.i) (onBit v 0 (lovageGo e k.i) d))
  | .TILE_CTX_EN => some (writeCtxEn e k.i v imgs d)
  | .TILE_HALT => some (writeHalt e k.i v d)
  | .TILE_PEN_WRITE => some (onBit v 0 (penWrite e k.i) d)
  | .TILE_DMA_PAUSE => some (if bitOf v 0 then pauseChan k.i k.j d else resumeChan k.i k.j d)
  | _ => none

/-- Triggers of SEC; two of them also write the boot flash. -/
def writeSec (e : Env) (v : Nat) (k : RegKey) (d : Dev) : Option (NonVol × Dev) :=
  match k.reg with
  | .SEC_ARB_ADVANCE => some (e.nv, onBit v 0 (arbAdvance e) d)
  | .SEC_OWNER_BURN => some (e.nv, onBit v 1 (ownerRevoke e) (onBit v 0 (ownerBurn e) d))
  | .SEC_VERIFY_GO => some (e.nv, onBit v 0 (verifyGo e) d)
  | .SEC_FW_HANDOVER =>
    let d := onBit v 0 (fwHandover e) d
    some (if bitOf v 1 then fwAlive e d else (e.nv, d))
  | .SEC_UC_GO => some (e.nv, onBit v 0 (ucGo e) d)
  | .SEC_CAL_APPLY => some (if bitOf v 0 then calApply e d else (e.nv, d))
  | .SEC_ATT_GO => some (e.nv, onBit v 0 (attGo e) d)
  | _ => none

/-- A write of a word that is taken (R13, R14); an unlisted register has no effect (R266). -/
def writeListed (e : Env) (off v : Nat) (imgs : List LoadImage) (d : Dev) : NonVol × Dev :=
  match wordFields d off with
  | [] => (e.nv, d)
  | x :: _ =>
    match writeSec e v x.2 d with
    | some r => r
    | none => (e.nv, ((writeCore e off v x.2 d <|> writeUnits e v x.2 d) <|> writeTest e v imgs x.2 d).getD (plainWrite e off v x.2 d))

/-- A write over UCIe or JTAG of a number of bytes (R13, R266). -/
def writeWord (e : Env) (off width v : Nat) (d : Dev) : NonVol × Dev :=
  if offsetOk off ∧ width = 4 then writeListed e off v [] d else (e.nv, regAccess e off true d)

/-- Blocks that REG_READ reaches: CFG, PWR, CLK, HBM, LNK, MON, LOG, TEST and SEC (R434). -/
def i3cReaches (off : Nat) : Bool :=
  let b := blockBase off
  inBlock off && b ≠ 0x100000 && b ≠ 0x500000 && b < 0x800000

/-- REG_READ: no side effect but its own latch (R434). -/
def readI3c (off : Nat) (e : Env) (d : Dev) : Dev :=
  if i3cReaches off ∧ off % 4 = 0 then
    let r := readPaired e d d.pairHighI3c off
    emit (.i3c (leBytes r.1 4)) { d with pairHighI3c := r.2 }
  else emit (.i3c (leBytes 0 4)) d

/-- A private write with a command byte (R434): 0x01 begins a REG_READ, 0x02 and 0x03 are MBOX_WRITE and MBOX_READ, which have
commands of their own, and any other is NACKed. -/
def i3cCommand (cmd off : Nat) (e : Env) (d : Dev) : Dev :=
  match cmd with
  | 1 => readI3c off e d
  | 2 => d
  | 3 => d
  | _ => emit .nack d

/-- A register is read by Tabok software. -/
def readUcie (off width : Nat) (e : Env) (d : Dev) : Dev := emit (.word (readWord e off width d).1) (readWord e off width d).2

/-- The access that DBG_ACCESS makes (R436). -/
def debugAccess (dr : Nat) (e : Env) (d : Dev) : NonVol × Dev :=
  let j := d.jtag
  let d := emit (.word (j.data + b2n j.refused * 2 ^ 59)) { d with jtag := { j with instr := .dbgAccess } }
  if sget d .CFG_JTAG_ALLOW = 0 then (e.nv, { d with jtag := { d.jtag with refused := true, data := 0 } })
  else
    let off := bitsOf dr 57 32
    if bitOf dr 58 then
      let r := writeWord e off 4 (bitsOf dr 31 0) d
      (r.1, { r.2 with jtag := { r.2.jtag with refused := false } })
    else
      let r := readWord e off 4 d
      (e.nv, { r.2 with jtag := { r.2.jtag with refused := false, data := r.1 } })

/-- REGISTER_WRITE (R14). -/
def execRegisterWrite (off width : Nat) (v : Word) (s : State) : Host.Outcome State Fault Refusal :=
  actTNv s (fun e d => writeWord e off width v.toNat d)

/-- PAIR_LOW_READ (R13). -/
def execPairLowRead (off : Nat) (s : State) (width : Nat := 4) : Host.Outcome State Fault Refusal :=
  actT s true (readUcie off width)

/-- MON_CONFIG_WRITE (R418). -/
def execMonConfigWrite (m off : Nat) (v : Word) (s : State) : Host.Outcome State Fault Refusal :=
  if m < 64 then actTNv s (fun e d => writeWord e (0x600000 + 0x100 * m + off) 4 v.toNat d) else .refused .noSuchUnit

/-- REG_READ (R434). -/
def execRegRead (off : Nat) (s : State) (cmd : BitVec 8 := 0x01) : Host.Outcome State Fault Refusal :=
  actP s (addressed (i3cCommand cmd.toNat off))

/-- DBG_ACCESS (R436). -/
def execDbgAccess (dr : BitVec 64) (s : State) : Host.Outcome State Fault Refusal :=
  actTap s (debugAccess dr.toNat)

end Sys2Proof.Machine
end

