-- ==== Sys2Proof/Machine/Sampler.lean ====
section
/-! DEFINITION. The sampler: stream states, STATE_INIT and SAMPLE (R102, R144 to R150). A stream state is handled as
its sixteen words (R144). -/

namespace Sys2Proof.Machine

def stWord (st : List Nat) (k : Nat) : Nat := st.getD k 0
def stSlot (st : List Nat) : Nat := bitsOf (stWord st 0) 13 0
def stActive (st : List Nat) : Bool := bitOf (stWord st 0) 16
def stEnded (st : List Nat) : Bool := bitOf (stWord st 0) 17
def stNanSeen (st : List Nat) : Bool := bitOf (stWord st 0) 18
def stEpoch (st : List Nat) : Nat := bitsOf (stWord st 0) 20 19
def stTemp (st : List Nat) : Nat := bitsOf (stWord st 1) 15 0
def stTopK (st : List Nat) : Nat := bitsOf (stWord st 1) 26 16
def stTopP (st : List Nat) : Nat := stWord st 2
def stVocab (st : List Nat) : Nat := stWord st 3
def stSerial (st : List Nat) : Nat := stWord st 4 + bitsOf (stWord st 5) 7 0 * 2 ^ 32
def stOpenRc (st : List Nat) : Nat := stWord st 6 + stWord st 7 * 2 ^ 32
def stPos (st : List Nat) : Nat := stWord st 8
def stLimit (st : List Nat) : Nat := stWord st 9
def stEos (st : List Nat) : Nat := stWord st 10

/-- The stream is open: ACTIVE and not ENDED. -/
def stOpen (st : List Nat) : Bool := stActive st && !stEnded st

/-- Reserved fields of R144 are 0. -/
def stReservedOk (st : List Nat) : Bool :=
  bitsOf (stWord st 0) 15 14 = 0 && bitsOf (stWord st 0) 31 21 = 0 && bitsOf (stWord st 1) 31 27 = 0 &&
  bitsOf (stWord st 5) 31 8 = 0 && stWord st 13 = 0 && stWord st 14 = 0 && stWord st 15 = 0

/-- A value lies above 0 and at most at `hi`. -/
def inUnit (v : Val) (hi : Option Rat) : Bool :=
  match v, hi with
  | some x, some h => 0 < x && x ≤ h
  | some x, none => 0 < x
  | none, _ => false

/-- The ranges of R144. -/
def stRangesOk (st : List Nat) : Bool :=
  inUnit (fmtValue 1 (stTemp st)) none && 1 ≤ stTopK st && stTopK st ≤ 1024 && inUnit (fpValue vf32 (stTopP st)) (some 1) &&
  1 ≤ stVocab st && stVocab st ≤ 2 ^ 31

/-- The position of a stream state in an operand: its logical row (R144). -/
def stPlace (o i : Nat) : Nat := lindex o i 0 / tcolsOf o

/-- Words with one of them replaced. -/
def stPut (st : List Nat) (k v : Nat) : List Nat := st.set k v

/-- A template that STATE_INIT takes (R145 item 1). -/
def templateOk (dd i : Nat) (st : List Nat) : Bool :=
  !stActive st && !stEnded st && !stNanSeen st && stReservedOk st && stRangesOk st && bitsOf (stOpenRc st) 23 20 ≤ 8 &&
  stPos st < stLimit st && stSlot st = stPlace dd i

/-- A data check of the sampler fails (R102): nothing is written, and the record ends FAILED. -/
def dataMalformed (e : Env) (p h c : Nat) (w : WinEnt) (d : Dev) : Ran :=
  let off := rget d ⟨.TILE_STREAM_BASE, p, c, h⟩ * 16 + 16 * w.idx
  let d := rbit d ⟨.TILE_MALFORMED, p, 0, 0⟩
  ⟨failWith e c 1 { cls := 0x0201, level := 3, index := p, op := some (w.idx, w.issueNo), syn := off % 2 ^ 24 + 0x3FF * 2 ^ 24 } d,
   true, []⟩

/-- The rows of STATE_INIT that can be opened: the state written, the slot pinned, and the slot whose pin is
released (R145); none when a check fails. -/
def openRows (d : Dev) (c : Nat) (force : Bool) (dd : Nat) (tmpl cur : List (List Nat)) : Option (List (List Nat × Nat × Option Nat)) :=
  ((tmpl.zip cur).zipIdx).foldr (fun x acc =>
    let t := x.1.1
    let old := x.1.2
    match acc, epFor d c (stOpenRc t) with
    | some l, some k =>
      if templateOk dd x.2 t && (!stOpen old || force) then
        some ((stPut t 0 (setBits (setBits (stWord t 0) 16 16 1) 20 19 k), k, if stOpen old then some (stEpoch old) else none) :: l)
      else none
    | _, _ => none) (some [])

/-- Pins taken and released, and the slots that are then without pins freed (R226, R231). -/
def movePins (c : Nat) (ups downs : List Nat) (d : Dev) : Dev :=
  let d := ups.foldl (fun d k => epPin c k d) d
  let d := downs.foldl (fun d k => epUnpin c k d) d
  downs.foldl (fun d k => epFree c k d) d

/-- Codes as elements without flag or event. -/
def plainRows (rows : List (List Nat)) : List (List Elem) := rows.map (fun r => r.map (fun x => ({ code := x } : Elem)))

/-- STATE_INIT (R145). -/
def runStateInit : Run := fun e p h c w d =>
  orStop e p c w d (do
    let tmpl ← readCodes d p h c w.a
    let cur ← readCodes d p h c w.d
    match openRows d c (bitOf (immOf w.raw) 0) w.d tmpl cur with
    | none => .ok (dataMalformed e p h c w d)
    | some rows =>
      let r := putResults e p h c 2 w false [{ opd := w.d, rows := plainRows (rows.map (·.1)) }] d
      .ok (if r.failed then r
        else { r with dev := movePins c (rows.map (fun r => r.2.1)) (rows.filterMap (fun r => r.2.2)) r.dev }))

/-- A candidate (R147): z as a Vf32 code, token, input position. -/
structure Cand where
  z : Nat
  t : Nat
  pos : Nat
  deriving DecidableEq, Repr

/-- The value of z, which is not NaN. -/
def candZ (x : Cand) : Rat := (fpValue vf32 x.z).getD 0

/-- z descending, then t ascending, then input position ascending (R147). -/
def candBefore (x y : Cand) : Bool :=
  candZ y < candZ x || (candZ x = candZ y && (x.t < y.t || (x.t = y.t && x.pos < y.pos)))

/-- Candidates in the order of R147. -/
def insCand (x : Cand) : List Cand → List Cand
  | [] => [x]
  | y :: ys => if candBefore x y then x :: y :: ys else y :: insCand x ys
def sortCands (l : List Cand) : List Cand := l.foldr insCand []

/-- The terms of the running sum: c[0 .. kk − 1] as codes, and whether a rounding saturated (R147). -/
def runningSums (m : Val) : List Cand → Nat → Bool → List Nat × Bool
  | [], _, ov => ([], ov)
  | x :: xs, run, ov =>
    let df := subOp (fpValue vf32 x.z) m
    let pr := mulOp (val32 df) (fpValue vf32 0x3FB8AA3B)
    let ex := exp2Op (val32 pr)
    let sm := addOp (fpValue vf32 run) (val32 ex)
    let r := runningSums m xs sm.code (ov || df.ov || pr.ov || ex.ov || sm.ov)
    (sm.code :: r.1, r.2)

/-- sample() of R147 over sorted candidates: the token, u, and whether a rounding saturated. -/
def samplePick (key : Nat) (st : List Nat) (cands : List Cand) : Nat × Nat × Bool :=
  let top := cands.take (stTopK st)
  let rs := runningSums (fpValue vf32 (top.headD ⟨0, 0, 0⟩).z) top 0 false
  let cs := rs.1.map (fun x => (fpValue vf32 x).getD 0)
  let th := mulOp (fpValue vf32 (stTopP st)) (fpValue vf32 (rs.1.getLastD 0))
  let thv := (val32 th).getD 0
  let n := 1 + cs.findIdx (fun x => thv ≤ x)
  let u : Nat := sorrel key (0xFFFFFF * 2 ^ 40 + stSerial st) (stPos st) % 2 ^ 32
  let r : Rat := (u : Rat) / (2 ^ 32 : Nat) * cs.getD (n - 1) 0
  let k := cs.findIdx (fun x => r < x)
  ((top.getD k ⟨0, 0, 0⟩).t, u, rs.2 || th.ov)

/-- What a row offers: candidates, whether the temperature product saturated, and the first NaN with its column. -/
structure RowIn where
  cands : List Cand
  ov : Bool := false
  nan : Option (Nat × Nat) := none
  deriving DecidableEq, Repr

/-- The candidates of a row of logits (modes 0 and 1): `first` is the token of column 0 (R146, R147). -/
def logitCands (fmt first : Nat) (st row : List Nat) : RowIn :=
  ((row.zipIdx).filter (fun x => first + x.2 < stVocab st)).foldl (fun acc x =>
    match fmtValue fmt x.1, fmtValue 1 (stTemp st) with
    | some v, some k =>
      let z := rne32 (v * k)
      { acc with cands := acc.cands ++ [⟨z.1, first + x.2, x.2⟩], ov := acc.ov || z.2 }
    | _, _ => { acc with nan := acc.nan.orElse (fun _ => some x) }) ⟨[], false, none⟩

/-- The pairs of a row of codes. -/
def pairsOf : List Nat → List (Nat × Nat)
  | z :: t :: l => (z, t) :: pairsOf l
  | _ => []

/-- The candidates of a row of pairs (mode 2): padding is ignored, a NaN z is met first to last (R146, R148). -/
def pairCands (row : List Nat) : RowIn :=
  (((pairsOf row).zipIdx).filter (fun x => x.1.2 ≠ 0xFFFFFFFF)).foldl (fun acc x =>
    if x.1.1 = nan32 then { acc with nan := acc.nan.orElse (fun _ => some (x.1.1, 2 * x.2)) }
    else { acc with cands := acc.cands ++ [⟨x.1.1, x.1.2, x.2⟩] }) ⟨[], false, none⟩

/-- The outcome of a row of SAMPLE: elements of D, the state written, the slot whose pin is released (R148, R149). -/
structure RowOut where
  row : List Elem
  state : List Nat
  unpin : Option Nat := none
  deriving DecidableEq, Repr

/-- Padding pairs for n columns (R146). -/
def padPairs : Nat → List Elem
  | n + 2 => ⟨0, false, 0, 0, 0, 0⟩ :: ⟨0xFFFFFFFF, false, 0, 0, 0, 0⟩ :: padPairs n
  | _ => []

/-- A row of pairs padded to n columns. -/
def padRow (n : Nat) (r : List Elem) : List Elem := r ++ padPairs (n - r.length)

/-- The state after a token is drawn (R149), and whether the stream ends. -/
def advanceStream (st : List Nat) (t u : Nat) : List Nat × Bool :=
  let pos := (stPos st + 1) % 2 ^ 32
  let ends := t = stEos st || pos = stLimit st
  let st := stPut (stPut (stPut st 11 t) 12 u) 8 pos
  (if ends then stPut st 0 (stWord st 0 + 2 ^ 17) else st, ends)

/-- NAN_SEEN set. -/
def markNan (st : List Nat) : List Nat := if stNanSeen st then st else stPut st 0 (stWord st 0 + 2 ^ 18)

/-- What SAMPLE does with a row (R146 to R149); none where a data check fails. `key` is the context's key. Of an open
state R146 lists ranges and reserved bits, and R12 would have any coordinate of a reserved phase malformed: a state whose
OPEN_RC holds one is sampled (the model's choice, notes/assumptions/106.md). -/
def sampleRow (mode key aOpd dOpd i : Nat) (row st : List Nat) : Option RowOut :=
  let n := colsOf dOpd
  if !stOpen st then
    some ⟨if mode = 1 then padPairs n else [{ code := 0xFFFFFFFF }], st, none⟩
  else if !(stRangesOk st && stReservedOk st) || (mode = 0 && colsOf aOpd < stVocab st) || (mode = 1 && n < 2 * stTopK st) then none
  else
    let r := if mode = 2 then pairCands row else logitCands (fmtOf aOpd) (originOf aOpd % tcolsOf aOpd) st row
    let temp := if mode = 2 then 0 else stTemp st
    match r.nan with
    | some (bits, col) =>
      let ev (code : Nat) : Elem := ⟨code, r.ov, 4, bits, lindex aOpd i col % 2 ^ 64, temp⟩
      if mode = 1 then some ⟨padRow n [ev nan32, { code := 0xFFFFFFFE }], st, none⟩
      else some ⟨[ev 0xFFFFFFFE], markNan st, none⟩
    | none =>
      if r.cands.isEmpty then (if mode = 2 then none else some ⟨padPairs n, st, none⟩)
      else
        let cs := sortCands r.cands
        if mode = 1 then
          some ⟨padRow n ((cs.take (stTopK st)).flatMap (fun x => [⟨x.z, r.ov, 0, 0, 0, 0⟩, { code := x.t }])), st, none⟩
        else
          let pk := samplePick key st cs
          let nx := advanceStream st pk.1 pk.2.1
          some ⟨[⟨pk.1, r.ov || pk.2.2, 0, 0, 0, 0⟩], nx.1, if nx.2 then some (stEpoch st) else none⟩

/-- The ids of the rows agree with their positions and differ (R102). -/
def idsOk (o : Nat) (states : List (List Nat)) : Bool :=
  (states.zipIdx).all (fun x => stSlot x.1 = stPlace o x.2) && (states.map stSlot).Nodup

/-- Every row of SAMPLE, none when a data check fails on one of them. -/
def sampleRows (mode key aOpd dOpd : Nat) (rows states : List (List Nat)) : Option (List RowOut) :=
  ((rows.zip states).zipIdx).foldr (fun x acc =>
    match acc, sampleRow mode key aOpd dOpd x.2 x.1.1 x.1.2 with
    | some l, some r => some (r :: l)
    | _, _ => none) (some [])

/-- SAMPLE (R146 to R149). -/
def runSample : Run := fun e p h c w d =>
  orStop e p c w d (do
    let rows ← readCodes d p h c w.a
    let states ← readCodes d p h c w.b
    let mode := immOf w.raw
    match (if idsOk w.b states then sampleRows mode (rget d ⟨.TILE_SRL_KEY, p, c, h⟩) w.a w.d rows states else none) with
    | none => .ok (dataMalformed e p h c w d)
    | some outs =>
      let states : List Part2 := if mode = 1 then [] else [{ opd := w.b, rows := plainRows (outs.map (·.state)), fold := false }]
      let r := putResults e p h c 2 w false ({ opd := w.d, rows := outs.map (·.row) } :: states) d
      .ok (if r.failed then r else { r with dev := movePins c [] (outs.filterMap (·.unpin)) r.dev }))

/-- SAMPLE (R147): issue of the sampler's next record. -/
def execSample (p : Nat) (s : State) : Host.Outcome State Fault Refusal :=
  act s (p < 1440) (issueEngine 2 0x40 runSample p)

/-- STATE_INIT (R145). -/
def execStateInit (p : Nat) (s : State) : Host.Outcome State Fault Refusal :=
  act s (p < 1440) (issueEngine 2 0x41 runStateInit p)

end Sys2Proof.Machine
end

