-- ==== Sys2Proof/Machine/Vector.lean ====
section
/-! DEFINITION. The vector engine: element operations, CMP, CVT, REDUCE, UPD48, SELECT, DRAW and the integer
operations (R69 to R71, R84, R117, R124, R128, R137, R445, R446, R452). -/

namespace Sys2Proof.Machine

/-- Sources of one, two and three operands and the sink of D; parameter entries are read as Vf32 (R446). -/
def src1 (d : Dev) (p h c : Nat) (w : WinEnt) : Except StoreRes (Source × Sink) := do
  let a ← readSource d p h c w.a 0
  let s ← sinkOf d p h c w.d
  .ok (a, s)

def src2 (d : Dev) (p h c : Nat) (w : WinEnt) : Except StoreRes (Source × Source × Sink) := do
  let a ← readSource d p h c w.a 0
  let b ← readSource d p h c w.b 0
  let s ← sinkOf d p h c w.d
  .ok (a, b, s)

def src3 (d : Dev) (p h c : Nat) (w : WinEnt) : Except StoreRes (Source × Source × Source × Sink) := do
  let a ← readSource d p h c w.a 0
  let b ← readSource d p h c w.b 0
  let x ← readSource d p h c w.c 0
  let s ← sinkOf d p h c w.d
  .ok (a, b, x, s)

/-- An element operation of one source (R69, R70). -/
def runUnary (op : Val → Conv) : Run := runParts 1 (fun p h c w d => do
  let (a, s) ← src1 d p h c w
  .ok [{ opd := w.d, scales := s.scales, rows := elemRows w.d (fun i j =>
    narrowElem s i j (op (srcVal a i j)) (srcCode a i j) 0 0) }])

/-- An element operation of two sources; `fcmp` is the forerunner-compare bit in force (R69, R71). -/
def runBinary (op : Bool → Val → Val → Conv) : Run := runParts 1 (fun p h c w d => do
  let (a, b, s) ← src2 d p h c w
  .ok [{ opd := w.d, scales := s.scales, rows := elemRows w.d (fun i j =>
    narrowElem s i j (op (fcmpCtx d c) (srcVal a i j) (srcVal b i j)) (srcCode a i j) (srcCode b i j) 0) }])

/-- FMA (R69). -/
def runFma : Run := runParts 1 (fun p h c w d => do
  let (a, b, x, s) ← src3 d p h c w
  .ok [{ opd := w.d, scales := s.scales, rows := elemRows w.d (fun i j =>
    narrowElem s i j (fmaOp (srcVal a i j) (srcVal b i j) (srcVal x i j)) (srcCode a i j) (srcCode b i j) (srcCode x i j)) }])

/-- The format in which a parameter entry of CMP is read beside the other source (R446, R452). -/
def cmpParamFmt (other : Nat) : Nat := if isParam other then 0 else if fmtIsInt (fmtOf other) then (if fmtOf other = 8 then 8 else 9) else 0

/-- CMP: predicates, no flag and no event (R452). -/
def runCmp : Run := runParts 1 (fun p h c w d => do
  let a ← readSource d p h c w.a (cmpParamFmt w.b)
  let b ← readSource d p h c w.b (cmpParamFmt w.a)
  .ok [{ opd := w.d, rows := elemRows w.d (fun i j =>
    { code := b2n (cmpOp (immOf w.raw) (srcVal a i j) (srcVal b i j)) }) }])

/-- CVT (R67, R68). -/
def runCvt : Run := runParts 1 (fun p h c w d => do
  let (a, s) ← src1 d p h c w
  .ok [{ opd := w.d, scales := s.scales, rows := elemRows w.d (fun i j =>
    convertElem s i j (fmtIsInt a.fmt) (srcVal a i j) (srcCode a i j)) }])

/-- The statistics of a list of values by the running combine (R117). -/
def fusedCol (fn : Nat) (fcmp : Bool) (xs : List Val) : List Nat × Bool :=
  (quantitiesOf fn).foldl (fun acc q =>
    let r := finishPart q (fusedRun q fcmp xs)
    (acc.1 ++ r.1, acc.2 || r.2)) ([], false)

/-- The codes and values of a source row by row, of the shape of an operand. -/
def srcRows (o : Nat) (a : Source) : List (List (Nat × Val)) :=
  (List.range (rowsOf o)).map (fun i => (List.range (colsOf o)).map (fun j => (srcCode a i j, srcVal a i j)))

/-- The column j of rows of codes and values. -/
def colOf (rows : List (List (Nat × Val))) (j : Nat) : List (Nat × Val) := rows.map (fun r => r.getD j (0, none))

/-- Rows with their indices exchanged, `n` columns wide. -/
def flipRows (n : Nat) (rows : List (List Elem)) : List (List Elem) :=
  (List.range n).map (fun i => rows.map (fun r => r.getD i { code := 0 }))

/-- The result of REDUCE: rows of D (R117). -/
def reduceRows (imm lw : Nat) (fcmp : Bool) (o : Nat) (rows : List (List (Nat × Val))) : List (List Elem) :=
  if bitOf imm 3 then
    flipRows (if imm % 8 = 2 then 1 else 2)
      ((List.range (colsOf o)).map (fun j => statElems (colOf rows j) (fusedCol (imm % 8) fcmp ((colOf rows j).map (·.2)))))
  else rows.map (fun r => statElems r (fusedRow (imm % 8) lw fcmp (r.map (·.2))))

/-- REDUCE (R117). -/
def runReduce : Run := runParts 1 (fun p h c w d => do
  let a ← readSource d p h c w.a 0
  let a : Source := unscalar a
  .ok [{ opd := w.d, rows := reduceRows (immOf w.raw) (lwCtx d c) (fcmpCtx d c) w.a (srcRows w.a a) }])

/-- The pair of an UPD48 element: old and new weight, and its logical index (R128). -/
structure RatioTerm where
  e : Nat
  old : Val
  new : Val
  deriving DecidableEq, Repr

/-- Terms in ascending logical index. -/
def insTerm (t : RatioTerm) : List RatioTerm → List RatioTerm
  | [] => [t]
  | x :: xs => if t.e < x.e then t :: x :: xs else x :: insTerm t xs

/-- dw = rne32(w_new − w_old) from the exact difference (R128). -/
def ratioDelta (t : RatioTerm) : Val × Bool :=
  match t.old, t.new with
  | some a, some b => let r := rne32 (b - a); (fpValue vf32 r.1, r.2)
  | _, _ => (none, false)

/-- The sums of a record run on from the context's (R128): SDW and SW as codes, and whether a rounding saturated. -/
def ratioSums (lw : Nat) (sdw sw : Nat) (ts : List RatioTerm) : Nat × Nat × Bool :=
  let ts := ts.foldr insTerm []
  let dws := ts.map ratioDelta
  let run (start : Nat) (xs : List Val) : List Nat × Bool :=
    finishPart .sumSquares (fusedTree .sumSquares false lw (some ⟨1, fpValue vf32 start, some 0, false⟩) xs)
  let a := run sdw (dws.map (·.1))
  let b := run sw (ts.map (·.old))
  (a.1.headD 0, b.1.headD 0, a.2 || b.2 || dws.any (·.2))

/-- The elements of an UPD48 record, with the sources that the update-ratio sums take (R124, R128). -/
def updParts (p h c : Nat) (w : WinEnt) (d : Dev) : Except StoreRes (Source × Part2) := do
  let (a, b, x, s) ← src3 d p h c w
  let a : Source := unscalar a
  .ok (a, { opd := w.d, scales := s.scales, rows := elemRows w.d (fun i j =>
    let r := upd48Op (srcVal a i j) (srcVal b i j) (srcVal x i j)
    ⟨r.code, r.ov, r.cause, srcCode a i j, srcCode b i j, srcCode x i j⟩) })

/-- The terms of a record's update-ratio sums (R128). -/
def ratioTerms (a : Source) (x : Part2) : List RatioTerm :=
  (x.rows.zipIdx).flatMap (fun r => (r.1.zipIdx).map (fun y =>
    ⟨lindex x.opd r.2 y.2, srcVal a r.2 y.2, fpValue vf48m y.1.code⟩))

/-- D ← A × B + C in Vf48m (R124), and the update-ratio sums with RATIO (R128): a record that ends FAILED leaves the sums
as they were (notes/assumptions/15.md). -/
def runUpd48 : Run := fun e p h c w d =>
  match updParts p h c w d with
  | .ok (a, x) =>
    if isRatio w then
      let u := ratioSums (lwCtx d c) (getStrm d p h c).sdw (getStrm d p h c).sw (ratioTerms a x)
      let r := putResults e p h c 1 w u.2.2 [x] d
      if r.failed then r else { r with dev := setStrm r.dev p h c { getStrm r.dev p h c with sdw := u.1, sw := u.2.1 } }
    else putResults e p h c 1 w false [x] d
  | .error _ => runParts 1 (fun p h c w d => (updParts p h c w d).map (fun x => [x.2])) e p h c w d

/-- SELECT: bits carried unchanged (R452). -/
def runSelect : Run := runParts 1 (fun p h c w d => do
  let a ← readSource d p h c w.a (fmtOf w.d)
  let b ← readSource d p h c w.b (fmtOf w.d)
  let x ← readSource d p h c w.c 9
  .ok [{ opd := w.d, rows := elemRows w.d (fun i j =>
    { code := if srcCode x i j ≠ 0 then srcCode a i j else srcCode b i j }) }])

/-- DRAW (R137): Sorrel output for D's logical positions. -/
def runDraw : Run := fun e p h c w d =>
  let key := rget d ⟨.TILE_SRL_KEY, p, c, h⟩
  let salt := saltOf d p h c (tensorOf w.d)
  putResults e p h c 1 w false [{ opd := w.d, rows := elemRows w.d (fun i j =>
    { code := drawElement key salt (lindex w.d i j % 2 ^ 64) (immOf w.raw) (fmtOf w.d) }) }] d

/-- An integer source as an exact integer. -/
def srcInt (s : Source) (i j : Nat) : Int :=
  if s.fmt = 8 then toSigned 32 (srcCode s i j) else srcCode s i j

/-- The format in which a parameter entry of IADD is read beside the other source (R446). -/
def intParamFmt (other : Nat) : Nat := if !isParam other ∧ fmtOf other = 8 then 8 else 9

/-- IADD, IAND (R452). -/
def runInt (op : Nat → Int → Int → Nat) (pf : Nat → Nat) : Run := runParts 1 (fun p h c w d => do
  let a ← readSource d p h c w.a (pf w.b)
  let b ← readSource d p h c w.b (pf w.a)
  .ok [{ opd := w.d, rows := elemRows w.d (fun i j =>
    { code := op (fmtBits (fmtOf w.d)) (srcInt a i j) (srcInt b i j) }) }])

/-- ISHIFT (R452): the amount is read as an unsigned value. -/
def runShift : Run := runParts 1 (fun p h c w d => do
  let a ← readSource d p h c w.a 9
  let b ← readSource d p h c w.b 9
  .ok [{ opd := w.d, rows := elemRows w.d (fun i j =>
    { code := ishiftOp (fmtBits (fmtOf w.d)) (immOf w.raw) (srcCode a i j) (srcCode b i j) }) }])

/-- ADD (R69). -/
def execAdd (p : Nat) (s : State) : Host.Outcome State Fault Refusal :=
  act s (p < 1440) (issueEngine 1 0x20 (runBinary (fun _ => addOp)) p)

/-- SUB (R69). -/
def execSub (p : Nat) (s : State) : Host.Outcome State Fault Refusal :=
  act s (p < 1440) (issueEngine 1 0x21 (runBinary (fun _ => subOp)) p)

/-- MUL (R69). -/
def execMul (p : Nat) (s : State) : Host.Outcome State Fault Refusal :=
  act s (p < 1440) (issueEngine 1 0x22 (runBinary (fun _ => mulOp)) p)

/-- FMA (R69). -/
def execFma (p : Nat) (s : State) : Host.Outcome State Fault Refusal :=
  act s (p < 1440) (issueEngine 1 0x23 runFma p)

/-- MAX (R71). -/
def execMax (p : Nat) (s : State) : Host.Outcome State Fault Refusal :=
  act s (p < 1440) (issueEngine 1 0x24 (runBinary (pickOp true)) p)

/-- MIN (R71). -/
def execMin (p : Nat) (s : State) : Host.Outcome State Fault Refusal :=
  act s (p < 1440) (issueEngine 1 0x25 (runBinary (pickOp false)) p)

/-- CMP (R452). -/
def execCmp (p : Nat) (s : State) : Host.Outcome State Fault Refusal :=
  act s (p < 1440) (issueEngine 1 0x26 runCmp p)

/-- CVT (R67). -/
def execCvt (p : Nat) (s : State) : Host.Outcome State Fault Refusal :=
  act s (p < 1440) (issueEngine 1 0x27 runCvt p)

/-- DIV (R70). -/
def execDiv (p : Nat) (s : State) : Host.Outcome State Fault Refusal :=
  act s (p < 1440) (issueEngine 1 0x28 (runBinary (fun _ => divOp)) p)

/-- RCP (R70). -/
def execRcp (p : Nat) (s : State) : Host.Outcome State Fault Refusal :=
  act s (p < 1440) (issueEngine 1 0x29 (runUnary rcpOp) p)

/-- SQRT (R70). -/
def execSqrt (p : Nat) (s : State) : Host.Outcome State Fault Refusal :=
  act s (p < 1440) (issueEngine 1 0x2A (runUnary sqrtOp) p)

/-- RSQRT (R70). -/
def execRsqrt (p : Nat) (s : State) : Host.Outcome State Fault Refusal :=
  act s (p < 1440) (issueEngine 1 0x2B (runUnary rsqrtOp) p)

/-- EXP2 (R70). -/
def execExp2 (p : Nat) (s : State) : Host.Outcome State Fault Refusal :=
  act s (p < 1440) (issueEngine 1 0x2C (runUnary exp2Op) p)

/-- LOG2 (R70). -/
def execLog2 (p : Nat) (s : State) : Host.Outcome State Fault Refusal :=
  act s (p < 1440) (issueEngine 1 0x2D (runUnary log2Op) p)

/-- REDUCE (R117). -/
def execReduce (p : Nat) (s : State) : Host.Outcome State Fault Refusal :=
  act s (p < 1440) (issueEngine 1 0x2E runReduce p)

/-- UPD48 (R124). -/
def execUpd48 (p : Nat) (s : State) : Host.Outcome State Fault Refusal :=
  act s (p < 1440) (issueEngine 1 0x2F runUpd48 p)

/-- SELECT (R452). -/
def execSelect (p : Nat) (s : State) : Host.Outcome State Fault Refusal :=
  act s (p < 1440) (issueEngine 1 0x30 runSelect p)

/-- DRAW (R137). -/
def execDraw (p : Nat) (s : State) : Host.Outcome State Fault Refusal :=
  act s (p < 1440) (issueEngine 1 0x31 runDraw p)

/-- IADD (R452). -/
def execIadd (p : Nat) (s : State) : Host.Outcome State Fault Refusal :=
  act s (p < 1440) (issueEngine 1 0x32 (runInt iaddOp intParamFmt) p)

/-- IAND (R452). -/
def execIand (p : Nat) (s : State) : Host.Outcome State Fault Refusal :=
  act s (p < 1440) (issueEngine 1 0x33 (runInt iandOp (fun _ => 9)) p)

/-- ISHIFT (R452). -/
def execIshift (p : Nat) (s : State) : Host.Outcome State Fault Refusal :=
  act s (p < 1440) (issueEngine 1 0x34 runShift p)

end Sys2Proof.Machine
end

