-- ==== Sys2Proof/Machine/Dispatch.lean ====
section
/-! DEFINITION. One arm for each command: its meaning. -/

namespace Sys2Proof.Machine

/-- The effect of a command on everything but the queue. -/
def exec (i : Instr) (s : State) : Host.Outcome State Fault Refusal :=
  match i with
  | .mm p => Sys2Proof.Machine.execMm p s
  | .tbLoad p => Sys2Proof.Machine.execTbLoad p s
  | .add p => Sys2Proof.Machine.execAdd p s
  | .sub p => Sys2Proof.Machine.execSub p s
  | .mul p => Sys2Proof.Machine.execMul p s
  | .fma p => Sys2Proof.Machine.execFma p s
  | .max p => Sys2Proof.Machine.execMax p s
  | .min p => Sys2Proof.Machine.execMin p s
  | .cmp p => Sys2Proof.Machine.execCmp p s
  | .cvt p => Sys2Proof.Machine.execCvt p s
  | .div p => Sys2Proof.Machine.execDiv p s
  | .rcp p => Sys2Proof.Machine.execRcp p s
  | .sqrt p => Sys2Proof.Machine.execSqrt p s
  | .rsqrt p => Sys2Proof.Machine.execRsqrt p s
  | .exp2 p => Sys2Proof.Machine.execExp2 p s
  | .log2 p => Sys2Proof.Machine.execLog2 p s
  | .reduce p => Sys2Proof.Machine.execReduce p s
  | .upd48 p => Sys2Proof.Machine.execUpd48 p s
  | .select p => Sys2Proof.Machine.execSelect p s
  | .draw p => Sys2Proof.Machine.execDraw p s
  | .iadd p => Sys2Proof.Machine.execIadd p s
  | .iand p => Sys2Proof.Machine.execIand p s
  | .ishift p => Sys2Proof.Machine.execIshift p s
  | .sample p => Sys2Proof.Machine.execSample p s
  | .stateInit p => Sys2Proof.Machine.execStateInit p s
  | .digest p => Sys2Proof.Machine.execDigest p s
  | .digestRead p => Sys2Proof.Machine.execDigestRead p s
  | .dmaGo p => Sys2Proof.Machine.execDmaGo p s
  | .nop p h c => Sys2Proof.Machine.execNop p h c s
  | .loopStart p h c => Sys2Proof.Machine.execLoopStart p h c s
  | .loopEnd p h c => Sys2Proof.Machine.execLoopEnd p h c s
  | .advance p h c => Sys2Proof.Machine.execAdvance p h c s
  | .endStream p h c => Sys2Proof.Machine.execEndStream p h c s
  | .recordDecode p h c => Sys2Proof.Machine.execRecordDecode p h c s
  | .recordComplete p h c n => Sys2Proof.Machine.execRecordComplete p h c n s
  | .recordAged p h c n began => Sys2Proof.Machine.execRecordAged p h c n began s
  | .tbOwnerExchange p => Sys2Proof.Machine.execTbOwnerExchange p s
  | .hazardWaitLimit p h c n => Sys2Proof.Machine.execHazardWaitLimit p h c n s
  | .advanceGroupJudge => Sys2Proof.Machine.execAdvanceGroupJudge s
  | .collectivePositionGroup c => Sys2Proof.Machine.execCollectivePositionGroup c s
  | .placementChange moves retired => Sys2Proof.Machine.execPlacementChange moves retired s
  | .snapshotFrameWrite => Sys2Proof.Machine.execSnapshotFrameWrite s
  | .launch c => Sys2Proof.Machine.execLaunch c s
  | .abort c => Sys2Proof.Machine.execAbort c s
  | .launchStart c => Sys2Proof.Machine.execLaunchStart c s
  | .launchComplete c => Sys2Proof.Machine.execLaunchComplete c s
  | .completionRecordWrite c => Sys2Proof.Machine.execCompletionRecordWrite c s
  | .abortQuiesced c => Sys2Proof.Machine.execAbortQuiesced c s
  | .failQuiesced c => Sys2Proof.Machine.execFailQuiesced c s
  | .deadlinePass c seq => Sys2Proof.Machine.execDeadlinePass c seq s
  | .eventEntryWrite c => Sys2Proof.Machine.execEventEntryWrite c s
  | .irqHoldoffExpire r => Sys2Proof.Machine.execIrqHoldoffExpire r s
  | .ringDoorbell v => Sys2Proof.Machine.execRingDoorbell v s
  | .descFetch c => Sys2Proof.Machine.execDescFetch c s
  | .descReadReturn c idx data => Sys2Proof.Machine.execDescReadReturn c idx data s
  | .descReread c idx => Sys2Proof.Machine.execDescReread c idx s
  | .ringCmdRetry c => Sys2Proof.Machine.execRingCmdRetry c s
  | .ringEn c v => Sys2Proof.Machine.execRingEn c v s
  | .ringCqCons c v => Sys2Proof.Machine.execRingCqCons c v s
  | .ringEqCons c v => Sys2Proof.Machine.execRingEqCons c v s
  | .ethDoorbell port v => Sys2Proof.Machine.execEthDoorbell port v s
  | .rdmaRead port qp wr => Sys2Proof.Machine.execRdmaRead port qp wr s
  | .rdmaWrite port qp wr => Sys2Proof.Machine.execRdmaWrite port qp wr s
  | .send port qp wr data => Sys2Proof.Machine.execSend port qp wr data s
  | .nvmeRead port qp wr => Sys2Proof.Machine.execNvmeRead port qp wr s
  | .nvmeWrite port qp wr => Sys2Proof.Machine.execNvmeWrite port qp wr s
  | .workRequestComplete port qp seq o => Sys2Proof.Machine.execWorkRequestComplete port qp seq o s
  | .ethQpEn port v => Sys2Proof.Machine.execEthQpEn port v s
  | .ethPortTrained port => Sys2Proof.Machine.execEthPortTrained port s
  | .hostFrameRx port frame => Sys2Proof.Machine.execHostFrameRx port frame s
  | .hostFrameTx port frame => Sys2Proof.Machine.execHostFrameTx port frame s
  | .shadowToActive p n => Sys2Proof.Machine.execShadowToActive p n s
  | .dmaReadReturn p n => Sys2Proof.Machine.execDmaReadReturn p n s
  | .dmaWriteResponse p n => Sys2Proof.Machine.execDmaWriteResponse p n s
  | .dmaTransferComplete p n => Sys2Proof.Machine.execDmaTransferComplete p n s
  | .tileDmaPause p n => Sys2Proof.Machine.execTileDmaPause p n s
  | .tileDmaResume p n => Sys2Proof.Machine.execTileDmaResume p n s
  | .dmaPauseDrained p n => Sys2Proof.Machine.execDmaPauseDrained p n s
  | .arrivingWriteCommit k => Sys2Proof.Machine.execArrivingWriteCommit k s
  | .tileHalt p v => Sys2Proof.Machine.execTileHalt p v s
  | .tileResume p v => Sys2Proof.Machine.execTileResume p v s
  | .tilePenWrite p => Sys2Proof.Machine.execTilePenWrite p s
  | .tileCtxEn p v imgs => Sys2Proof.Machine.execTileCtxEn p v imgs s
  | .hbmRead who addr len entry => Sys2Proof.Machine.execHbmRead who addr len entry s
  | .hbmWrite w entry => Sys2Proof.Machine.execHbmWrite w entry s
  | .wcbEvict st line entry => Sys2Proof.Machine.execWcbEvict st line entry s
  | .patrolScrub line f last => Sys2Proof.Machine.execPatrolScrub line f last s
  | .tileScrub p st word f => Sys2Proof.Machine.execTileScrub p st word f s
  | .hbmRetireGo st => Sys2Proof.Machine.execHbmRetireGo st s
  | .hbmChunkMove st => Sys2Proof.Machine.execHbmChunkMove st s
  | .hbmStackTrained st ok => Sys2Proof.Machine.execHbmStackTrained st ok s
  | .clkArmGo => Sys2Proof.Machine.execClkArmGo s
  | .clkArmCancel => Sys2Proof.Machine.execClkArmCancel s
  | .clkRcSetGo => Sys2Proof.Machine.execClkRcSetGo s
  | .flitRx n block => Sys2Proof.Machine.execFlitRx n block s
  | .flitSend n => Sys2Proof.Machine.execFlitSend n s
  | .replayTimeout n => Sys2Proof.Machine.execReplayTimeout n s
  | .retryExhausted n => Sys2Proof.Machine.execRetryExhausted n s
  | .heartbeatSend n => Sys2Proof.Machine.execHeartbeatSend n s
  | .heartbeat n => Sys2Proof.Machine.execHeartbeat n s
  | .heartbeatMissed n => Sys2Proof.Machine.execHeartbeatMissed n s
  | .linkTrainingEnd n lanes => Sys2Proof.Machine.execLinkTrainingEnd n lanes s
  | .linkTrainingRestart n => Sys2Proof.Machine.execLinkTrainingRestart n s
  | .linkRetrainEnd n lanes => Sys2Proof.Machine.execLinkRetrainEnd n lanes s
  | .linkRetrainTimeout n => Sys2Proof.Machine.execLinkRetrainTimeout n s
  | .lnkEnSet n => Sys2Proof.Machine.execLnkEnSet n s
  | .lnkEnClear n => Sys2Proof.Machine.execLnkEnClear n s
  | .lnkRetrainGo n => Sys2Proof.Machine.execLnkRetrainGo n s
  | .lnkLaneRetire n v => Sys2Proof.Machine.execLnkLaneRetire n v s
  | .measure n turn => Sys2Proof.Machine.execMeasure n turn s
  | .identity n => Sys2Proof.Machine.execIdentity n s
  | .time n => Sys2Proof.Machine.execTime n s
  | .timeSend n => Sys2Proof.Machine.execTimeSend n s
  | .hoistUp n => Sys2Proof.Machine.execHoistUp n s
  | .hoistDown n => Sys2Proof.Machine.execHoistDown n s
  | .lnkHoistEnter => Sys2Proof.Machine.execLnkHoistEnter s
  | .lnkHoistAbandon => Sys2Proof.Machine.execLnkHoistAbandon s
  | .hoistRelease => Sys2Proof.Machine.execHoistRelease s
  | .hoistTimeout => Sys2Proof.Machine.execHoistTimeout s
  | .hoistWiredRelease => Sys2Proof.Machine.execHoistWiredRelease s
  | .write n cls => Sys2Proof.Machine.execWrite n cls s
  | .writeAck n cls => Sys2Proof.Machine.execWriteAck n cls s
  | .undeliv n cls => Sys2Proof.Machine.execUndeliv n cls s
  | .holdLimit n vc pos => Sys2Proof.Machine.execHoldLimit n vc pos s
  | .tagTimeout tag => Sys2Proof.Machine.execTagTimeout tag s
  | .refclk100ALoss => Sys2Proof.Machine.execRefclk100ALoss s
  | .collectiveEntryStart c => Sys2Proof.Machine.execCollectiveEntryStart c s
  | .colData n cls => Sys2Proof.Machine.execColData n cls s
  | .colCredit n cls => Sys2Proof.Machine.execColCredit n cls s
  | .permData n cls => Sys2Proof.Machine.execPermData n cls s
  | .colAbort n cls => Sys2Proof.Machine.execColAbort n cls s
  | .collectiveDone k => Sys2Proof.Machine.execCollectiveDone k s
  | .collectiveStall k => Sys2Proof.Machine.execCollectiveStall k s
  | .testRcpGo => Sys2Proof.Machine.execTestRcpGo s
  | .testRcpAbort => Sys2Proof.Machine.execTestRcpAbort s
  | .powerSample watts mv rails => Sys2Proof.Machine.execPowerSample watts s mv rails
  | .overBudgetStepUp => Sys2Proof.Machine.execOverBudgetStepUp s
  | .overBudgetStepDown => Sys2Proof.Machine.execOverBudgetStepDown s
  | .tokenStepRecompute => Sys2Proof.Machine.execTokenStepRecompute s
  | .tokenGrant p h c n => Sys2Proof.Machine.execTokenGrant p h c n s
  | .clockStepApply => Sys2Proof.Machine.execClockStepApply s
  | .sensorRead readings => Sys2Proof.Machine.execSensorRead readings s
  | .thermalStepUp => Sys2Proof.Machine.execThermalStepUp s
  | .thermalStepDown => Sys2Proof.Machine.execThermalStepDown s
  | .thermalTrip hbm unit temp => Sys2Proof.Machine.execThermalTrip hbm unit temp s
  | .railFault r mv band => Sys2Proof.Machine.execRailFault r mv s band
  | .throttleAssert => Sys2Proof.Machine.execThrottleAssert s
  | .throttleRelease => Sys2Proof.Machine.execThrottleRelease s
  | .loadShedEntry mv => Sys2Proof.Machine.execLoadShedEntry mv s
  | .loadShedExit mv => Sys2Proof.Machine.execLoadShedExit mv s
  | .undervoltageShutdown => Sys2Proof.Machine.execUndervoltageShutdown s
  | .overvoltageShutdown => Sys2Proof.Machine.execOvervoltageShutdown s
  | .refclk100BLoss => Sys2Proof.Machine.execRefclk100BLoss s
  | .powerUp => Sys2Proof.Machine.execPowerUp s
  | .breakerTrip => Sys2Proof.Machine.execBreakerTrip s
  | .pwrBudgetW v => Sys2Proof.Machine.execPwrBudgetW v s
  | .modMatedNLow => Sys2Proof.Machine.execModMatedNLow s
  | .modMatedNHigh => Sys2Proof.Machine.execModMatedNHigh s
  | .railsInRegulation => Sys2Proof.Machine.execRailsInRegulation s
  | .modRstNAssert => Sys2Proof.Machine.execModRstNAssert s
  | .modRstNDeassert slot cr8 => Sys2Proof.Machine.execModRstNDeassert slot cr8 s
  | .bootVerifyDone => Sys2Proof.Machine.execBootVerifyDone s
  | .identityKeyGenerated modulus signer cert => Sys2Proof.Machine.execIdentityKeyGenerated s modulus signer cert
  | .tileSelfTestDone p ok => Sys2Proof.Machine.execTileSelfTestDone p ok s
  | .collectiveSelfTestDone => Sys2Proof.Machine.execCollectiveSelfTestDone s
  | .ucieModuleTrainEnd m ok => Sys2Proof.Machine.execUcieModuleTrainEnd m ok s
  | .ucieFlitRx m crcOk => Sys2Proof.Machine.execUcieFlitRx m crcOk s
  | .cfgStage w v => Sys2Proof.Machine.execCfgStage w v s
  | .cfgStageClear => Sys2Proof.Machine.execCfgStageClear s
  | .cfgCommit => Sys2Proof.Machine.execCfgCommit s
  | .cfgCommitDone ownerRec => Sys2Proof.Machine.execCfgCommitDone ownerRec s
  | .cfgMboxInAck => Sys2Proof.Machine.execCfgMboxInAck s
  | .cfgMboxOutPost => Sys2Proof.Machine.execCfgMboxOutPost s
  | .secArbAdvance => Sys2Proof.Machine.execSecArbAdvance s
  | .secOwnerBurn => Sys2Proof.Machine.execSecOwnerBurn s
  | .secOwnerRevoke => Sys2Proof.Machine.execSecOwnerRevoke s
  | .fuseOpDone ok => Sys2Proof.Machine.execFuseOpDone ok s
  | .secVerifyGo => Sys2Proof.Machine.execSecVerifyGo s
  | .verifyDone image cert => Sys2Proof.Machine.execVerifyDone image cert s
  | .secFwHandover => Sys2Proof.Machine.execSecFwHandover s
  | .secFwAlive => Sys2Proof.Machine.execSecFwAlive s
  | .handoverTimeout => Sys2Proof.Machine.execHandoverTimeout s
  | .aliveTimeout => Sys2Proof.Machine.execAliveTimeout s
  | .securityLiveWrite => Sys2Proof.Machine.execSecurityLiveWrite s
  | .secUcGo => Sys2Proof.Machine.execSecUcGo s
  | .microcodeLoadDone => Sys2Proof.Machine.execMicrocodeLoadDone s
  | .secCalApply => Sys2Proof.Machine.execSecCalApply s
  | .secAttGo => Sys2Proof.Machine.execSecAttGo s
  | .attReportDone => Sys2Proof.Machine.execAttReportDone s
  | .testMarkSuspect => Sys2Proof.Machine.execTestMarkSuspect s
  | .testMarkNote => Sys2Proof.Machine.execTestMarkNote s
  | .testDrain => Sys2Proof.Machine.execTestDrain s
  | .testPackLoad => Sys2Proof.Machine.execTestPackLoad s
  | .packLoadDone => Sys2Proof.Machine.execPackLoadDone s
  | .testLGo k => Sys2Proof.Machine.execTestLGo k s
  | .testLAbort k reason => Sys2Proof.Machine.execTestLAbort k reason s
  | .testLTile k v => Sys2Proof.Machine.execTestLTile k v s
  | .lovageTargetReached k => Sys2Proof.Machine.execLovageTargetReached k s
  | .lovageHeatTimeout k => Sys2Proof.Machine.execLovageHeatTimeout k s
  | .lovageRunEnd k digests => Sys2Proof.Machine.execLovageRunEnd k digests s
  | .monitorSample => Sys2Proof.Machine.execMonitorSample s
  | .monitorPeriodicSample => Sys2Proof.Machine.execMonitorPeriodicSample s
  | .monClear m => Sys2Proof.Machine.execMonClear m s
  | .monConfigWrite m off v => Sys2Proof.Machine.execMonConfigWrite m off v s
  | .monSnapGo => Sys2Proof.Machine.execMonSnapGo s
  | .logDrainCopy => Sys2Proof.Machine.execLogDrainCopy s
  | .logDrainEn v => Sys2Proof.Machine.execLogDrainEn v s
  | .logRingCons v => Sys2Proof.Machine.execLogRingCons v s
  | .pairLowRead off width => Sys2Proof.Machine.execPairLowRead off s width
  | .registerWrite off width v => Sys2Proof.Machine.execRegisterWrite off width v s
  | .regRead off cmd => Sys2Proof.Machine.execRegRead off s cmd
  | .mboxWrite len bytes => Sys2Proof.Machine.execMboxWrite len bytes s
  | .mboxRead count => Sys2Proof.Machine.execMboxRead s count
  | .entdaa addr => Sys2Proof.Machine.execEntdaa addr s
  | .rstdaa => Sys2Proof.Machine.execRstdaa s
  | .enec => Sys2Proof.Machine.execEnec s
  | .disec => Sys2Proof.Machine.execDisec s
  | .getpid => Sys2Proof.Machine.execGetpid s
  | .getbcr => Sys2Proof.Machine.execGetbcr s
  | .getdcr => Sys2Proof.Machine.execGetdcr s
  | .getstatus => Sys2Proof.Machine.execGetstatus s
  | .getmwl => Sys2Proof.Machine.execGetmwl s
  | .getmrl => Sys2Proof.Machine.execGetmrl s
  | .hotJoin => Sys2Proof.Machine.execHotJoin s
  | .extest shift => Sys2Proof.Machine.execExtest shift s
  | .idcode => Sys2Proof.Machine.execIdcode s
  | .samplePreload shift => Sys2Proof.Machine.execSamplePreload shift s
  | .clamp => Sys2Proof.Machine.execClamp s
  | .highz => Sys2Proof.Machine.execHighz s
  | .bypass opcode => Sys2Proof.Machine.execBypass s opcode
  | .dbgAccess dr => Sys2Proof.Machine.execDbgAccess dr s
  | .refclk100AReturn => Sys2Proof.Machine.execRefclk100AReturn s
  | .jtagTrstN => Sys2Proof.Machine.execJtagTrstN s
  | .priorityFlowControlRx port prios quanta => Sys2Proof.Machine.execPriorityFlowControlRx port prios quanta s

end Sys2Proof.Machine
end

