-- ==== Sys2Proof/Machine/Tick.lean ====
section
/-! DEFINITION. What time alone does: one nanosecond of the model (notes/assumptions/14.md). -/

namespace Sys2Proof.Machine

/-- The clock one nanosecond later (R44, R46, R47): fabric time stands while it holds; otherwise it goes on by 1 ns, and
by one more or one less when the rate in force has added up to one. What the rate of a correction adds is taken from the
correction. -/
def tickClock (c : Clock) : Clock :=
  let a := c.acc + ratePpm c
  if c.hold ≠ 0 then { c with ns := c.ns + 1, hold := c.hold - 1 }
  else if 1000000 ≤ a then { c with ns := c.ns + 1, ft := c.ft + 2, acc := a - 1000000, trim := c.trim - max 0 (c.trim.sign) }
  else if a ≤ -1000000 then { c with ns := c.ns + 1, acc := a + 1000000, trim := c.trim - min 0 (c.trim.sign) }
  else { c with ns := c.ns + 1, ft := c.ft + 1, acc := a }

/-- One PCLK cycle of 5 ns: completions that wait for room (R275), and ports paused by flow control, 8 ECLK cycles
(R281). -/
def pclk (e : Env) (d : Dev) : Dev :=
  let d := (List.range 8).foldl (fun d c => if cqFull d c then satAdd e ⟨.RING_CQ_STALL, c, 0, 0⟩ 1 d else d) d
  (List.range 4).foldl (fun d port =>
    if (List.range 8).any (prioPaused e d port) then satAdd e ⟨.ETH_PFC_PAUSED, port, 0, 0⟩ 8 d else d) d

/-- FEC codewords of a port that were not corrected in one microsecond, of the 147 that come in it: a free value (R281;
notes/assumptions/99.md). -/
def fecLosses (e : Env) (d : Dev) (port : Nat) : Dev :=
  if portUp d port then
    let r := takeFree d
    satAdd e ⟨.ETH_FEC_UNCORR, port, 0, 0⟩ (r.1 % 148) r.2
  else d

/-- One microsecond: time with a clock step (R385), and what the ports' codes could not correct. -/
def microsecond (e : Env) (d : Dev) : Dev :=
  (List.range 4).foldl (fecLosses e) (if stepInForce d = 0 then d else satAdd e ⟨.PWR_STEP_US, 0, 0, 0⟩ 1 d)

/-- TEST_L_ELAPSED_MS counts the milliseconds since a slot's TEST_L_GO (R368). -/
def lovageMs (n : Nat) (d : Dev) : Dev :=
  (d.lovGo.filter (fun x => (n - x.2) % 1000000 = 0)).foldl (fun d x =>
    let k : RegKey := ⟨.TEST_L_ELAPSED_MS, x.1, 0, 0⟩
    rset d k (min (rget d k + 1) (2 ^ 32 - 1))) d

/-- Words or lines of a memory under a code: 8-byte words of the stores of all tiles, 64-byte lines of HBM. -/
def codedSize : Coded → Nat
  | .ts => 1440 * 2 ^ 18
  | .gs => 1440 * 2 ^ 19
  | .tb => 1440 * 2 ^ 13
  | .hbm => 1920 * 2 ^ 24

/-- The memory that the number x of an upset names. -/
def strikeOf (x : Nat) : Coded :=
  match x % 4 with
  | 0 => .ts
  | 1 => .gs
  | 2 => .tb
  | _ => .hbm

/-- Bits of the memories may be upset at any time (R178, R179, R190, R193): the rules say what a read of an upset word or
line does, not when one arises, so a free value of each ns says whether one does and where (notes/assumptions/99.md). The
code corrects an upset of kind 0; it finds one of kind 1 uncorrectable; kind 2 spoils a write-combining entry. -/
def strike (d : Dev) : Dev :=
  let x := Config.freeNat d.free
  let m := strikeOf x
  let at_ := x / 16 % codedSize m
  let kind := x / 4 % 4
  let ue (n : Coded) (l : List Nat) : List Nat := if kind = 1 ∧ m = n ∧ at_ ∉ l then at_ :: l else l
  { d with
    free := d.free + 2,
    slips := if kind = 0 ∧ d.slips.all (fun y => !(y.mem = m && y.at_ = at_)) then
               ⟨m, at_, Config.freeNat (d.free + 1)⟩ :: d.slips else d.slips,
    tsUE := ue .ts d.tsUE, gsUE := ue .gs d.gsUE, tbUE := ue .tb d.tbUE, lineUE := ue .hbm d.lineUE,
    wcb := if kind = 2 then d.wcb.modify (x / 16 % d.wcb.length) (fun w => { w with bad := true }) else d.wcb }

/-- The previous cycle's issues no longer count for the turn of a folded tile's logical tiles (R167). -/
def newCycle (d : Dev) : Dev :=
  { d with tiles := (d.tiles.map (fun x => (x.1, { x.2 with lastA := 0 }))).filter (fun x => x.2 ≠ {}) }

/-- What the device does as its count of nanoseconds passes n. -/
def tickDev (e : Env) (n : Nat) (d0 : Dev) : Dev :=
  let d := newCycle (strike (lockDomains d0))
  let d := if n % 5 = 0 then pclk e d else d
  inCycle d0 (lovageMs n (if n % 1000 = 0 then microsecond e d else d))

/-- One nanosecond without a command. -/
def tick (s : State) : State :=
  let c := tickClock s.clk
  if s.dev.power = .running then { s with clk := c, dev := tickDev ⟨c, s.nv⟩ c.ns s.dev } else { s with clk := { s.clk with ns := c.ns } }

end Sys2Proof.Machine
end

