-- ==== Sys2Proof/Safety.lean ====
section
/-! DEFINITION. What a safe run is, in the words that the statements use. -/

namespace Sys2Proof.Machine

/-- The outcome is a next state. -/
def Completes (o : Host.Outcome State Fault Refusal) : Prop := ∃ t, o = .next t

/-- What a command finds beside the device in a state. -/
def State.env (s : State) : Env := ⟨s.clk, s.nv⟩

/-- The module runs: its supplies are in regulation and its reset has ended. -/
def Runs (s : State) : Prop := s.dev.power = .running

/-- The module runs and the Tabok cores answer the register window. -/
def Serves (s : State) : Prop := s.dev.power = .running ∧ tabokRuns s.dev = true

/-- Command i completes and leaves the device d, with the records that it raised in the order of a cycle (R347, R421): clock,
fuses and the queue are as before. -/
def Gives (i : Instr) (s : State) (d : Dev) : Prop := exec i s = .next { s with dev := inCycle s.dev d }

/-- A record of an opcode is next on engine g of tile p: the offer o that the rules of issue choose. -/
def NextRecord (s : State) (p g op : Nat) (o : Offer) : Prop :=
  p < 1440 ∧ Runs s ∧ winner s.dev p g = some o ∧ opcodeOf o.ent.raw = op

/-- The record of an offer as it issues, and the device with its waits consumed and what the codes of the stores find on its
reads noted. -/
def issued (s : State) (p : Nat) (o : Offer) : WinEnt × Dev :=
  let x := accept s.env p o.h o.c o.pos o.ent s.dev
  (x.1, recordSeen s.env p o.h o.c x.1 x.2)

/-- Command i completes: the record of o issues, runs as `r` says, its window entry keeps what that gave, and the
write-combining entries that its reads met are judged. -/
def Issues (i : Instr) (s : State) (p : Nat) (o : Offer) (r : Ran) : Prop :=
  Gives i s (recordMet s.env p o.h o.c (issued s p o).1 (noteRan p o.h o.c (issued s p o).1.order r))

/-- The results of a vector record: D receives the elements f i j, with D's scale plane `sc`, after the record has
issued. -/
def vectorResult (s : State) (p : Nat) (o : Offer) (sc : List (List Nat)) (f : Nat → Nat → Elem) : Ran :=
  putResults s.env p o.h o.c 1 (issued s p o).1 false
    [{ opd := (issued s p o).1.d, rows := elemRows (issued s p o).1.d f, scales := sc }] (issued s p o).2

/-- An operand of the record of o as the engine reads it once the record has issued, a parameter entry in format pf. -/
def Reads (s : State) (p : Nat) (o : Offer) (opd pf : Nat) (x : Source) : Prop :=
  readSource (issued s p o).2 p o.h o.c opd pf = .ok x

/-- The destination of the record of o as results are narrowed into it. -/
def Sinks (s : State) (p : Nat) (o : Offer) (k : Sink) : Prop :=
  sinkOf (issued s p o).2 p o.h o.c (issued s p o).1.d = .ok k

/-- A control record of an opcode is the oldest unissued record of a stream and may issue: `x` is the record with the
older ones and its place. -/
def NextControl (s : State) (p h c op : Nat) (x : (List WinEnt × WinEnt) × Nat) : Prop :=
  placeOk p h c = true ∧ Runs s ∧ (getStrm s.dev p h c).on = true ∧ oldestUnissued (getStrm s.dev p h c) = some x ∧
  engineOf x.1.2.raw = 6 ∧ opcodeOf x.1.2.raw = op ∧ eligible s.dev p h c x.1.1 x.1.2 = true

/-- A control record as it issues, and the device with its waits consumed. -/
def issuedControl (s : State) (p h c : Nat) (x : (List WinEnt × WinEnt) × Nat) : WinEnt × Dev :=
  accept s.env p h c x.2 x.1.2 s.dev

end Sys2Proof.Machine
end

