-- ==== Sys2Proof/WellFormed.lean ====
section
/-! DEFINITION. Which commands can reach the module: every unit named exists, and every image has its length. -/

namespace Sys2Proof

/-- The command names units of this module (1,440 tiles, 36 links, 20 stacks, 8 contexts, 4 storage ports) and
carries images of the manual's lengths. -/
def Instr.wf (i : Instr) : Bool :=
  match i with
  | .mm p => p < 1440
  | .tbLoad p => p < 1440
  | .add p => p < 1440
  | .sub p => p < 1440
  | .mul p => p < 1440
  | .fma p => p < 1440
  | .max p => p < 1440
  | .min p => p < 1440
  | .cmp p => p < 1440
  | .cvt p => p < 1440
  | .div p => p < 1440
  | .rcp p => p < 1440
  | .sqrt p => p < 1440
  | .rsqrt p => p < 1440
  | .exp2 p => p < 1440
  | .log2 p => p < 1440
  | .reduce p => p < 1440
  | .upd48 p => p < 1440
  | .select p => p < 1440
  | .draw p => p < 1440
  | .iadd p => p < 1440
  | .iand p => p < 1440
  | .ishift p => p < 1440
  | .sample p => p < 1440
  | .stateInit p => p < 1440
  | .digest p => p < 1440
  | .digestRead p => p < 1440
  | .dmaGo p => p < 1440
  | .nop p h c => p < 1440 && h < 2 && c < 8
  | .loopStart p h c => p < 1440 && h < 2 && c < 8
  | .loopEnd p h c => p < 1440 && h < 2 && c < 8
  | .advance p h c => p < 1440 && h < 2 && c < 8
  | .endStream p h c => p < 1440 && h < 2 && c < 8
  | .recordDecode p h c => p < 1440 && h < 2 && c < 8
  | .recordComplete p h c n => p < 1440 && h < 2 && c < 8 && n < 2 ^ 20
  | .recordAged p h c n _ => p < 1440 && h < 2 && c < 8 && n < 2 ^ 20
  | .tbOwnerExchange p => p < 1440
  | .hazardWaitLimit p h c n => p < 1440 && h < 2 && c < 8 && n < 2 ^ 20
  | .advanceGroupJudge => true
  | .collectivePositionGroup c => c < 8
  | .placementChange moves retired => moves.all (fun m => m.fromP < 1440 && m.fromH < 2 && m.toP < 1440 && m.toH < 2) && retired.all (fun p => p < 1440)
  | .snapshotFrameWrite => true
  | .launch c => c < 8
  | .abort c => c < 8
  | .launchStart c => c < 8
  | .launchComplete c => c < 8
  | .completionRecordWrite c => c < 8
  | .abortQuiesced c => c < 8
  | .failQuiesced c => c < 8
  | .deadlinePass c seq => c < 8 && seq < 2 ^ 32
  | .eventEntryWrite c => c < 8
  | .irqHoldoffExpire r => match r with | .completion c => c < 8 | .event c => c < 8 | .drain => true
  | .ringDoorbell _ => true
  | .descFetch c => c < 8
  | .descReadReturn c idx data => c < 8 && idx < 65536 && data.length = 64
  | .descReread c idx => c < 8 && idx < 65536
  | .ringCmdRetry c => c < 8
  | .ringEn c _ => c < 8
  | .ringCqCons c _ => c < 8
  | .ringEqCons c _ => c < 8
  | .ethDoorbell port _ => port < 4
  | .rdmaRead port qp wr => port < 4 && qp < 1024 && wr.length = 64
  | .rdmaWrite port qp wr => port < 4 && qp < 1024 && wr.length = 64
  | .send port qp wr _ => port < 4 && qp < 1024 && wr.length = 64
  | .nvmeRead port qp wr => port < 4 && qp < 1024 && wr.length = 64
  | .nvmeWrite port qp wr => port < 4 && qp < 1024 && wr.length = 64
  | .workRequestComplete port qp _ _ => port < 4 && qp < 1024
  | .ethQpEn port _ => port < 4
  | .ethPortTrained port => port < 4
  | .hostFrameRx port _ => port < 4
  | .hostFrameTx port _ => port < 4
  | .shadowToActive p n => p < 1440 && n < 4
  | .dmaReadReturn p n => p < 1440 && n < 4
  | .dmaWriteResponse p n => p < 1440 && n < 4
  | .dmaTransferComplete p n => p < 1440 && n < 4
  | .tileDmaPause p n => p < 1440 && n < 4
  | .tileDmaResume p n => p < 1440 && n < 4
  | .dmaPauseDrained p n => p < 1440 && n < 4
  | .arrivingWriteCommit _ => true
  | .tileHalt p _ => p < 1440
  | .tileResume p _ => p < 1440
  | .tilePenWrite p => p < 1440
  | .tileCtxEn p _ imgs => p < 1440 && imgs.all (fun i => i.ctx < 8)
  | .hbmRead _ addr _ _ => addr < 2 ^ 48
  | .hbmWrite w _ => match w with | .queued _ => true | .tabok a _ => a < 2 ^ 48
  | .wcbEvict s line _ => s < 20 && line < 1920 * 2 ^ 24
  | .patrolScrub line _ _ => line < 1920 * 2 ^ 24
  | .tileScrub p st word _ => p < 1440 && word < (match st with | .tileStore => 2 ^ 18 | .gradientStore => 2 ^ 19 | .transposingBuffer => 2 ^ 13)
  | .hbmRetireGo s => s < 20
  | .hbmChunkMove s => s < 20
  | .hbmStackTrained s _ => s < 20
  | .clkArmGo => true
  | .clkArmCancel => true
  | .clkRcSetGo => true
  | .flitRx n block => n < 36 && block.length = 448
  | .flitSend n => n < 36
  | .replayTimeout n => n < 36
  | .retryExhausted n => n < 36
  | .heartbeatSend n => n < 36
  | .heartbeat n => n < 36
  | .heartbeatMissed n => n < 36
  | .linkTrainingEnd n lanes => n < 36 && lanes < 16
  | .linkTrainingRestart n => n < 36
  | .linkRetrainEnd n lanes => n < 36 && lanes < 16
  | .linkRetrainTimeout n => n < 36
  | .lnkEnSet n => n < 36
  | .lnkEnClear n => n < 36
  | .lnkRetrainGo n => n < 36
  | .lnkLaneRetire n _ => n < 36
  | .measure n _ => n < 36
  | .identity n => n < 36
  | .time n => n < 36
  | .timeSend n => n < 36
  | .hoistUp n => n < 36
  | .hoistDown n => n < 36
  | .lnkHoistEnter => true
  | .lnkHoistAbandon => true
  | .hoistRelease => true
  | .hoistTimeout => true
  | .hoistWiredRelease => true
  | .write n cls => n ≤ 36 && cls < 2
  | .writeAck n cls => n ≤ 36 && cls < 2
  | .undeliv n cls => n ≤ 36 && cls < 2
  | .holdLimit n vc _ => n ≤ 36 && vc < 8
  | .tagTimeout tag => tag < 65536
  | .refclk100ALoss => true
  | .collectiveEntryStart c => c < 8
  | .colData n cls => n ≤ 36 && cls < 2
  | .colCredit n cls => n ≤ 36 && cls < 2
  | .permData n cls => n ≤ 36 && cls < 2
  | .colAbort n cls => n ≤ 36 && cls < 2
  | .collectiveDone k => k < 129
  | .collectiveStall k => k < 129
  | .testRcpGo => true
  | .testRcpAbort => true
  | .powerSample _ _ rails => rails.length ≤ 12
  | .overBudgetStepUp => true
  | .overBudgetStepDown => true
  | .tokenStepRecompute => true
  | .tokenGrant p h c n => p < 1440 && h < 2 && c < 8 && n < 2 ^ 20
  | .clockStepApply => true
  | .sensorRead readings => readings.all (fun r => r.sensor ≤ 1460)
  | .thermalStepUp => true
  | .thermalStepDown => true
  | .thermalTrip hbm unit _ => if hbm then unit < 20 else unit < 1440
  | .railFault r _ band => r < 12 && band.all (fun p => r = 2 && p < 1440)
  | .throttleAssert => true
  | .throttleRelease => true
  | .loadShedEntry _ => true
  | .loadShedExit _ => true
  | .undervoltageShutdown => true
  | .overvoltageShutdown => true
  | .refclk100BLoss => true
  | .powerUp => true
  | .breakerTrip => true
  | .pwrBudgetW _ => true
  | .modMatedNLow => true
  | .modMatedNHigh => true
  | .railsInRegulation => true
  | .modRstNAssert => true
  | .modRstNDeassert _ _ => true
  | .bootVerifyDone => true
  | .identityKeyGenerated n _ _ => 2 ^ 3071 ≤ n && n < 2 ^ 3072 && n % 2 = 1
  | .tileSelfTestDone p _ => p < 1440
  | .collectiveSelfTestDone => true
  | .ucieModuleTrainEnd m _ => m < 8
  | .ucieFlitRx m _ => m < 8
  | .cfgStage w _ => w < 256
  | .cfgStageClear => true
  | .cfgCommit => true
  | .cfgCommitDone _ => true
  | .cfgMboxInAck => true
  | .cfgMboxOutPost => true
  | .secArbAdvance => true
  | .secOwnerBurn => true
  | .secOwnerRevoke => true
  | .fuseOpDone _ => true
  | .secVerifyGo => true
  | .verifyDone _ _ => true
  | .secFwHandover => true
  | .secFwAlive => true
  | .handoverTimeout => true
  | .aliveTimeout => true
  | .securityLiveWrite => true
  | .secUcGo => true
  | .microcodeLoadDone => true
  | .secCalApply => true
  | .secAttGo => true
  | .attReportDone => true
  | .testMarkSuspect => true
  | .testMarkNote => true
  | .testDrain => true
  | .testPackLoad => true
  | .packLoadDone => true
  | .testLGo k => k < 16
  | .testLAbort k reason => k < 16 && 1 ≤ reason && reason ≤ 3
  | .testLTile k _ => k < 16
  | .lovageTargetReached k => k < 16
  | .lovageHeatTimeout k => k < 16
  | .lovageRunEnd k _ => k < 16
  | .monitorSample => true
  | .monitorPeriodicSample => true
  | .monClear m => m < 64
  | .monConfigWrite m off _ => m < 64 && (off = 0 || off = 4)
  | .monSnapGo => true
  | .logDrainCopy => true
  | .logDrainEn _ => true
  | .logRingCons _ => true
  | .pairLowRead off width => off < 2 ^ 26 && (width = 1 || width = 2 || width = 4 || width = 8)
  | .registerWrite off width _ => off < 2 ^ 26 && (width = 1 || width = 2 || width = 4 || width = 8)
  | .regRead off cmd => cmd ≠ 2 && cmd ≠ 3 && off < 2 ^ 26
  | .mboxWrite len bytes => len ≤ 256 && bytes.length = len
  | .mboxRead count => count ≤ 258
  | .entdaa _ => true
  | .rstdaa => true
  | .enec => true
  | .disec => true
  | .getpid => true
  | .getbcr => true
  | .getdcr => true
  | .getstatus => true
  | .getmwl => true
  | .getmrl => true
  | .hotJoin => true
  | .extest _ => true
  | .idcode => true
  | .samplePreload _ => true
  | .clamp => true
  | .highz => true
  | .bypass opcode => opcode.toNat ∉ [0x00, 0x01, 0x02, 0x04, 0x05, 0x20]
  | .dbgAccess _ => true
  | .refclk100AReturn => true
  | .jtagTrstN => true
  | .priorityFlowControlRx port _ _ => port < 4

end Sys2Proof
end

