-- ==== Sys2Proof/Certificates/Slice0/Obligations.lean ====
section
/-! DEFINITION. The statements for the provers. -/

open Sys2Proof Sys2Proof.Machine

/-- The step takes the command at the front of the queue and runs its meaning with the queue's rest. -/
def Obligations.StepRunsFrontCommand : Prop :=
  ∀ (c : Instr) (rest : List Instr) (s : State),
    step { s with pending := c :: rest } = exec c { s with pending := rest }

/-- The step on an empty queue (notes/assumptions/14.md: the model's choice) and the state after reset (R388, R432; the point that
State.reset stands for is the model's choice, notes/assumptions/2.md; R46 gives fabric time 0, R187 empty buffers). -/
def Obligations.IdleAndReset : Prop :=
  (∀ s : State, s.pending = [] → ∃ t, step s = .next t ∧ t.clk.ns = s.clk.ns + 1 ∧ t.nv = s.nv ∧ t.pending = [] ∧
    (Runs s → t.clk = tickClock s.clk ∧ t.dev = tickDev ⟨tickClock s.clk, s.nv⟩ (s.clk.ns + 1) s.dev) ∧
    (¬ Runs s → t.dev = s.dev ∧ t.clk.ft = s.clk.ft)) ∧
  Runs State.reset ∧ State.reset.clk.ns = 0 ∧ State.reset.clk.ft = 0 ∧ State.reset.pending = [] ∧
  (∀ k : RegKey, rget State.reset.dev k = k.reg.reset % 2 ^ k.reg.bits) ∧
  (∀ a : Nat, memGet State.reset.dev.hbm a = 0 ∧ memGet State.reset.dev.ts a = 0 ∧ memGet State.reset.dev.gs a = 0 ∧
    memGet State.reset.dev.tb a = 0 ∧ memGet State.reset.dev.lp a = 0) ∧
  State.reset.dev.wcb = [] ∧ State.reset.dev.strms = [] ∧ State.reset.dev.ctxs = [] ∧
  State.reset.dev.links = [] ∧ State.reset.dev.log = [] ∧ State.reset.dev.outbox = []

/-- No well-formed command is refused, and none touches the queue: it is the command's sender who fills it. That a command whose
condition is unmet completes too, changing nothing, is the model's choice (notes/assumptions/17.md). -/
def Obligations.CommandsCompleteAndKeepTheQueue : Prop :=
  ∀ (c : Instr) (rest : List Instr) (s : State), c.wf = true →
    (∃ t, exec c s = .next t ∧ t.pending = s.pending) ∧
    ∃ t, step { s with pending := c :: rest } = .next t ∧ t.pending = rest

/-- What no command can undo: burned bits of the anti-rollback counter (R401), owner slots burned and revoked (R399), the identity
key (R400), the hash of the vendor root key and the chip's own fuses. -/
def Obligations.FusesOnlyBurn : Prop :=
  ∀ s t : State, step s = .next t →
    s.nv.arbCount ≤ t.nv.arbCount ∧
    (∀ k, s.nv.ownerBurned.testBit k = true → t.nv.ownerBurned.testBit k = true) ∧
    (∀ k, s.nv.ownerRevoked.testBit k = true → t.nv.ownerRevoked.testBit k = true) ∧
    t.nv.gradeE = s.nv.gradeE ∧ t.nv.stepping = s.nv.stepping ∧ t.nv.serial = s.nv.serial ∧ t.nv.rootHash = s.nv.rootHash ∧
    (s.nv.idModulus ≠ 0 → t.nv.idModulus = s.nv.idModulus)

/-- Fabric time (R46, R305); a shutdown or a reset ends the run (R377). That a step brings at most 2 ns is the model's count of
time and its trim of the rate (notes/assumptions/14.md, 45.md); the parent is the link that LNK_HOIST_PARENT names
(notes/assumptions/97.md), and a TIME is taken as it comes (notes/assumptions/3.md). -/
def Obligations.FabricTimeNeverGoesBack : Prop :=
  ∀ s t : State, step s = .next t →
    s.clk.ns ≤ t.clk.ns ∧
    (Runs s → Runs t → s.clk.ft ≤ t.clk.ft ∧
      (s.clk.ft + 2 < t.clk.ft → ftSynced s.dev = false ∧
        ∃ rest, s.pending = .time (rget s.dev ⟨.LNK_HOIST_PARENT, 0, 0, 0⟩) :: rest))

/-- ADD, SUB, MUL, DIV, MAX, MIN (R69, R70, R71): the next state, whole, when the sources can be read. RCP, SQRT, RSQRT, EXP2, LOG2 (R70), CVT (R67, R68), FMA (R69): the next state, whole. -/
def Obligations.VectorArithmeticRecords : Prop :=
  (∀ (s : State) (p : Nat) (o : Offer) (a b : Source) (k : Sink),
      Reads s p o (issued s p o).1.a 0 a → Reads s p o (issued s p o).1.b 0 b → Sinks s p o k →
      let r (f : Val → Val → Conv) : Ran := vectorResult s p o k.scales (fun i j =>
        narrowElem k i j (f (srcVal a i j) (srcVal b i j)) (srcCode a i j) (srcCode b i j) 0)
      (NextRecord s p 1 0x20 o → Issues (.add p) s p o (r addOp)) ∧
      (NextRecord s p 1 0x21 o → Issues (.sub p) s p o (r subOp)) ∧
      (NextRecord s p 1 0x22 o → Issues (.mul p) s p o (r mulOp)) ∧
      (NextRecord s p 1 0x28 o → Issues (.div p) s p o (r divOp)) ∧
      (NextRecord s p 1 0x24 o → Issues (.max p) s p o (r (pickOp true (fcmpCtx (issued s p o).2 o.c)))) ∧
      (NextRecord s p 1 0x25 o → Issues (.min p) s p o (r (pickOp false (fcmpCtx (issued s p o).2 o.c))))) ∧
  (∀ (s : State) (p : Nat) (o : Offer) (a b x : Source) (k : Sink),
      Reads s p o (issued s p o).1.a 0 a → Sinks s p o k →
      let r (f : Val → Conv) : Ran := vectorResult s p o k.scales (fun i j =>
        narrowElem k i j (f (srcVal a i j)) (srcCode a i j) 0 0)
      (NextRecord s p 1 0x29 o → Issues (.rcp p) s p o (r rcpOp)) ∧
      (NextRecord s p 1 0x2A o → Issues (.sqrt p) s p o (r sqrtOp)) ∧
      (NextRecord s p 1 0x2B o → Issues (.rsqrt p) s p o (r rsqrtOp)) ∧
      (NextRecord s p 1 0x2C o → Issues (.exp2 p) s p o (r exp2Op)) ∧
      (NextRecord s p 1 0x2D o → Issues (.log2 p) s p o (r log2Op)) ∧
      (NextRecord s p 1 0x27 o → Issues (.cvt p) s p o (vectorResult s p o k.scales (fun i j =>
        convertElem k i j (fmtIsInt a.fmt) (srcVal a i j) (srcCode a i j)))) ∧
      (Reads s p o (issued s p o).1.b 0 b → Reads s p o (issued s p o).1.c 0 x → NextRecord s p 1 0x23 o →
        Issues (.fma p) s p o (vectorResult s p o k.scales (fun i j =>
          narrowElem k i j (fmaOp (srcVal a i j) (srcVal b i j) (srcVal x i j)) (srcCode a i j) (srcCode b i j) (srcCode x i j)))))

/-- CMP, SELECT, IADD, IAND, ISHIFT (R452), DRAW (R137): the next state, whole. -/
def Obligations.IntegerAndSelectRecords : Prop :=
  ∀ (s : State) (p : Nat) (o : Offer) (a b x : Source),
    let w := (issued s p o).1
    let r (f : Nat → Nat → Nat) : Ran := vectorResult s p o [] (fun i j => { code := f i j })
    (NextRecord s p 1 0x26 o → Reads s p o w.a (cmpParamFmt w.b) a → Reads s p o w.b (cmpParamFmt w.a) b →
      Issues (.cmp p) s p o (r (fun i j => b2n (cmpOp (immOf w.raw) (srcVal a i j) (srcVal b i j))))) ∧
    (NextRecord s p 1 0x30 o → Reads s p o w.a (fmtOf w.d) a → Reads s p o w.b (fmtOf w.d) b → Reads s p o w.c 9 x →
      Issues (.select p) s p o (r (fun i j => if srcCode x i j ≠ 0 then srcCode a i j else srcCode b i j))) ∧
    (NextRecord s p 1 0x32 o → Reads s p o w.a (intParamFmt w.b) a → Reads s p o w.b (intParamFmt w.a) b →
      Issues (.iadd p) s p o (r (fun i j => iaddOp (fmtBits (fmtOf w.d)) (srcInt a i j) (srcInt b i j)))) ∧
    (NextRecord s p 1 0x33 o → Reads s p o w.a 9 a → Reads s p o w.b 9 b →
      Issues (.iand p) s p o (r (fun i j => iandOp (fmtBits (fmtOf w.d)) (srcInt a i j) (srcInt b i j)))) ∧
    (NextRecord s p 1 0x34 o → Reads s p o w.a 9 a → Reads s p o w.b 9 b →
      Issues (.ishift p) s p o (r (fun i j =>
        ishiftOp (fmtBits (fmtOf w.d)) (immOf w.raw) (srcCode a i j) (srcCode b i j)))) ∧
    (NextRecord s p 1 0x31 o → Issues (.draw p) s p o (r (fun i j =>
      drawElement (rget (issued s p o).2 ⟨.TILE_SRL_KEY, p, o.c, o.h⟩) (saltOf (issued s p o).2 p o.h o.c (tensorOf w.d))
        (lindex w.d i j % 2 ^ 64) (immOf w.raw) (fmtOf w.d))))

/-- REDUCE (R117), UPD48 (R124, R128): the next state, whole. -/
def Obligations.ReduceAndUpdateRecords : Prop :=
  ∀ (s : State) (p : Nat) (o : Offer) (a b x : Source) (k : Sink),
    let w := (issued s p o).1
    let d := (issued s p o).2
    let row (i j : Nat) : Elem :=
      let v := upd48Op (srcVal (unscalar a) i j) (srcVal b i j) (srcVal x i j)
      ⟨v.code, v.ov, v.cause, srcCode (unscalar a) i j, srcCode b i j, srcCode x i j⟩
    let sums := ratioSums (lwCtx d o.c) (getStrm d p o.h o.c).sdw (getStrm d p o.h o.c).sw
      (((elemRows w.d row).zipIdx).flatMap (fun r => (r.1.zipIdx).map (fun y =>
        (⟨lindex w.d r.2 y.2, srcVal (unscalar a) r.2 y.2, fpValue vf48m y.1.code⟩ : RatioTerm))))
    Reads s p o w.a 0 a →
    (NextRecord s p 1 0x2E o → Issues (.reduce p) s p o (putResults s.env p o.h o.c 1 w false
      [{ opd := w.d, rows := reduceRows (immOf w.raw) (lwCtx d o.c) (fcmpCtx d o.c) w.a (srcRows w.a (unscalar a)) }] d)) ∧
    (NextRecord s p 1 0x2F o → Reads s p o w.b 0 b → Reads s p o w.c 0 x → Sinks s p o k → isRatio w = false →
      Issues (.upd48 p) s p o (vectorResult s p o k.scales row)) ∧
    (NextRecord s p 1 0x2F o → Reads s p o w.b 0 b → Reads s p o w.c 0 x → Sinks s p o k → isRatio w = true →
      let r := putResults s.env p o.h o.c 1 w sums.2.2 [{ opd := w.d, rows := elemRows w.d row, scales := k.scales }] d
      let kept := setStrm r.dev p o.h o.c { getStrm r.dev p o.h o.c with sdw := sums.1, sw := sums.2.1 }
      (r.failed = false → Issues (.upd48 p) s p o { r with dev := kept }) ∧
      (r.failed = true → Issues (.upd48 p) s p o r))

/-- MM, with and without accumulator view (R108 to R116, R258), TB_LOAD (R119): the next state, whole. -/
def Obligations.MatrixRecords : Prop :=
  ∀ (s : State) (p : Nat) (o : Offer),
    let w := (issued s p o).1
    let d := (issued s p o).2
    (∀ (a b : Source) (accs : List (List Nat)) (k : Sink), NextRecord s p 0 0x10 o →
      Reads s p o w.a 0 a → Reads s p o w.b 0 b →
      (if accumOf w.raw then readCodes d p o.h o.c w.d = .ok accs else accs = []) → Sinks s p o k →
      let m : MmIn := ⟨unscalar a, unscalar b, accs, spaceOf w.a = 2, bitOf (immOf w.raw) 7,
        if spaceOf w.a = 2 then rowsOf w.a else colsOf w.a, if heritageCtx d o.c then 16 else 32⟩
      let rows := elemRows w.d (mmElem m k)
      let fn := bitsOf (immOf w.raw) 2 0
      let fused : List Part2 := if fn = 0 then [] else [{ opd := w.c, rows := mmFused fn (lwCtx d o.c) (fcmpCtx d o.c) w.d rows }]
      let r := putResults s.env p o.h o.c 0 w false ({ opd := w.d, rows := rows, scales := k.scales } :: fused) d
      let bs := viewBytes m (rget d ⟨.DBG_ACC_ROW, o.c, 0, 0⟩) (rget d ⟨.DBG_ACC_COL, o.c, 0, 0⟩)
      (viewArmed d p o.h o.c w = false ∨ r.failed = true → Issues (.mm p) s p o r) ∧
      (viewArmed d p o.h o.c w = true → r.failed = false → rbase d ⟨.DBG_ACC_ADDR, o.c, 0, 0⟩ + bs.length ≤ hbmCap d →
        Issues (.mm p) s p o { r with dev := viewCapture s.env o.c w bs r.dev })) ∧
    (∀ codes sc, NextRecord s p 0 0x11 o → readTensor d p o.h o.c w.a = .ok (codes, sc) →
      Issues (.tbLoad p) s p o (putResults s.env p o.h o.c 0 w false
        [{ opd := w.d, rows := codes.map (fun r => r.map (fun x => { code := x })), scales := sc, putScales := true }] d))

/-- SAMPLE (R146 to R149), STATE_INIT (R145), and both when a data check fails (R102): the next state, whole. -/
def Obligations.SamplerRecords : Prop :=
  ∀ (s : State) (p : Nat) (o : Offer),
    let w := (issued s p o).1
    let d := (issued s p o).2
    let key := rget d ⟨.TILE_SRL_KEY, p, o.c, o.h⟩
    (∀ rows states outs, NextRecord s p 2 0x40 o → readCodes d p o.h o.c w.a = .ok rows →
      readCodes d p o.h o.c w.b = .ok states → idsOk w.b states = true →
      sampleRows (immOf w.raw) key w.a w.d rows states = some outs →
      let after : List Part2 := if immOf w.raw = 1 then [] else [{ opd := w.b, rows := plainRows (outs.map (·.state)), fold := false }]
      let r := putResults s.env p o.h o.c 2 w false ({ opd := w.d, rows := outs.map (·.row) } :: after) d
      (r.failed = false → Issues (.sample p) s p o { r with dev := movePins o.c [] (outs.filterMap (·.unpin)) r.dev }) ∧
      (r.failed = true → Issues (.sample p) s p o r)) ∧
    (∀ rows states, NextRecord s p 2 0x40 o → readCodes d p o.h o.c w.a = .ok rows →
      readCodes d p o.h o.c w.b = .ok states → (idsOk w.b states = false ∨ sampleRows (immOf w.raw) key w.a w.d rows states = none) →
      Issues (.sample p) s p o (dataMalformed s.env p o.h o.c w d)) ∧
    (∀ tmpl cur rows, NextRecord s p 2 0x41 o → readCodes d p o.h o.c w.a = .ok tmpl → readCodes d p o.h o.c w.d = .ok cur →
      openRows d o.c (bitOf (immOf w.raw) 0) w.d tmpl cur = some rows →
      let r := putResults s.env p o.h o.c 2 w false [{ opd := w.d, rows := plainRows (rows.map (·.1)) }] d
      Issues (.stateInit p) s p o { r with dev := movePins o.c (rows.map (fun r => r.2.1)) (rows.filterMap (fun r => r.2.2)) r.dev }) ∧
    (∀ tmpl cur, NextRecord s p 2 0x41 o → readCodes d p o.h o.c w.a = .ok tmpl → readCodes d p o.h o.c w.d = .ok cur →
      openRows d o.c (bitOf (immOf w.raw) 0) w.d tmpl cur = none →
      Issues (.stateInit p) s p o (dataMalformed s.env p o.h o.c w d))

/-- DIGEST, DIGEST_READ (R103), DMA_GO (R199, R200, R203): the next state, whole. -/
def Obligations.DigestAndDmaGoRecords : Prop :=
  ∀ (s : State) (p : Nat) (o : Offer),
    let w := (issued s p o).1
    let d := (issued s p o).2
    let n := immOf w.raw % 4
    let slot : RegKey := ⟨.TILE_DIG, p, slotNo o.h (immOf w.raw % 32), 0⟩
    let lo : Elem := { code := rget d slot % 2 ^ 32 }
    let hi : Elem := { code := rget d slot / 2 ^ 32 }
    (∀ codes sc, NextRecord s p 4 0x50 o → readTensor d p o.h o.c w.a = .ok (codes, sc) →
      Issues (.digest p) s p o ⟨d, false, [(immOf w.raw % 32, digestOf w.a codes sc)]⟩) ∧
    (NextRecord s p 4 0x51 o →
      Issues (.digestRead p) s p o (putResults s.env p o.h o.c 4 w false
        [{ opd := w.d, rows := if rowsOf w.d = 1 then [[lo, hi]] else [[lo], [hi]] }] (rset d slot 0))) ∧
    (∀ codes, NextRecord s p 5 0x60 o → readCodes d p o.h o.c w.a = .ok codes → chJudge d p o.h o.c (descNat codes) = .ok →
      let older := (getStrm d p o.h o.c).win.takeWhile (fun y => !(y.issued && y.order = w.order))
      let x : Xfer := { desc := descNat codes, c := o.c, h := o.h, idx := w.idx, issueNo := w.issueNo }
      Issues (.dmaGo p) s p o
        ⟨setChan (hazKind1 s.env p o.h o.c older w (descNat codes) d) p n { getChan d p n with shd := some x }, false, []⟩) ∧
    (∀ codes, NextRecord s p 5 0x60 o → readCodes d p o.h o.c w.a = .ok codes → chJudge d p o.h o.c (descNat codes) ≠ .ok →
      Issues (.dmaGo p) s p o ⟨channelFail s.env p o.c n w (chJudge d p o.h o.c (descNat codes)) d, true, []⟩)

/-- NOP, LOOP_START, LOOP_END, ADVANCE, END (R84): the next state, whole. That an ADVANCE away from a value of phase 6 takes the
stream's sums with it (R153) is the model's reading of R34 and R129 (notes/assumptions/105.md). -/
def Obligations.ControlRecords : Prop :=
  ∀ (s : State) (p h c : Nat) (x : (List WinEnt × WinEnt) × Nat),
    let w := (issuedControl s p h c x).1
    let d := (issuedControl s p h c x).2
    let st := getStrm d p h c
    let v := paramOf w.a 0 + paramOf w.a 1 * 2 ^ 32
    let left := st.advs.getLast?.getD (if (getCtx d c).pacing then d.rc else (getCtx d c).pos)
    let named := { st with advs := st.advs ++ [v] }
    let moved := if bitsOf left 23 20 = 6 then { named with sdw := 0, sw := 0, banks := st.banks ++ [(st.sdw, st.sw)] } else named
    let adv := rset (setStrm d p h c moved) ⟨.TILE_SRL_STEP, p, c, h⟩ (bitsOf v 63 24)
    (NextControl s p h c 0x00 x → Gives (.nop p h c) s d) ∧
    (NextControl s p h c 0x01 x →
      Gives (.loopStart p h c) s (setStrm d p h c { st with loops := (w.idx + 1, paramOf w.a 0) :: st.loops })) ∧
    (∀ b l, NextControl s p h c 0x02 x → st.loops = (b, 1) :: l →
      Gives (.loopEnd p h c) s (setStrm d p h c { st with loops := l })) ∧
    (∀ b n l, NextControl s p h c 0x02 x → st.loops = (b, n) :: l → 1 < n →
      Gives (.loopEnd p h c) s (setStrm d p h c { st with loops := (b, n - 1) :: l })) ∧
    (NextControl s p h c 0x03 x → Gives (.advance p h c) s
      (completeAt s.env p h c ((getStrm adv p h c).win.findIdx (fun y => y.issued && y.order = w.order)) w adv)) ∧
    (NextControl s p h c 0x04 x → Gives (.endStream p h c) s (setStrm d p h c { st with ended := true }))

/-- RECORD_DECODE (R86, R90): the next state, whole. -/
def Obligations.RecordDecodeJudges : Prop :=
  ∀ (s : State) (p h c : Nat) (w : WinEnt),
    let st := getStrm s.dev p h c
    let off := recordOff s.dev p h c st.next
    let d := decodeSeen s.env p h c st.next w s.dev
    let sd := getStrm d p h c
    let put := { sd with win := sd.win ++ [{ w with entered := (getTile d p).entries }] }
    let entered (x : Strm) : Dev := waitsMoved p (setTile (setStrm d p h c x) p { getTile d p with entries := (getTile d p).entries + 1 })
    let plain := entered { put with next := w.idx + 1 }
    let judge := judgeForm (allotOf d p h c) st.decLoops.length w
    let bounds := judgeBounds d p h c w
    placeOk p h c = true → Runs s → st.on = true → st.decoding = true → st.win.length < 16 →
    inShare s.dev p h c 0 off (off + 15) = true → fetchRecord s.dev p h c st.next = .ok w →
    (judge = .ok → bounds = .ok → engineOf w.raw ≠ 6 → Gives (.recordDecode p h c) s plain) ∧
    (judge = .ok → bounds = .ok → engineOf w.raw = 6 → opcodeOf w.raw = 0x00 ∨ opcodeOf w.raw = 0x03 →
      Gives (.recordDecode p h c) s plain) ∧
    (judge = .ok → bounds = .ok → engineOf w.raw = 6 → opcodeOf w.raw = 0x01 →
      Gives (.recordDecode p h c) s
        (entered { put with next := w.idx + 1, decLoops := (w.idx + 1, paramOf w.a 0) :: sd.decLoops })) ∧
    (∀ b l, judge = .ok → bounds = .ok → engineOf w.raw = 6 → opcodeOf w.raw = 0x02 → sd.decLoops = (b, 1) :: l →
      Gives (.recordDecode p h c) s (entered { put with next := w.idx + 1, decLoops := l })) ∧
    (∀ b n l, judge = .ok → bounds = .ok → engineOf w.raw = 6 → opcodeOf w.raw = 0x02 → sd.decLoops = (b, n) :: l → 1 < n →
      Gives (.recordDecode p h c) s (entered { put with next := b, decLoops := (b, n - 1) :: l })) ∧
    (judge = .ok → bounds = .ok → engineOf w.raw = 6 → opcodeOf w.raw = 0x04 →
      Gives (.recordDecode p h c) s (entered { put with next := w.idx + 1, decoding := false })) ∧
    (∀ opds, judge = .malformed opds →
      Gives (.recordDecode p h c) s (malformedRecord s.env p h c st.next opds d)) ∧
    (∀ outs, judge = .ok → bounds = .bounds outs →
      Gives (.recordDecode p h c) s (boundsRecord s.env p h c st.next outs d))

/-- RECORD_COMPLETE (R93, R94, R103), RECORD_AGED (R220), TB_OWNER_EXCHANGE (R166), HAZARD_WAIT_LIMIT (R256). The model's choices:
65,536 TCLK as 37,450 ns (notes/assumptions/84.md); the pennant that a report names and its fields without a value are free
(notes/assumptions/96.md); the image of the buffer is read and written as HBM through the controllers
(notes/assumptions/23.md), and wanted by the oldest record in the order of entries (notes/assumptions/102.md). -/
def Obligations.RecordsCompleteAgeAndWait : Prop :=
  ∀ (s : State) (p h c n : Nat) (w : WinEnt) (older : List WinEnt),
    let st := getStrm s.dev p h c
    let fin := engineOf w.raw = 6 && opcodeOf w.raw = 0x04
    let out := applyFolds p h w.folds (setStrm s.dev p h c { st with win := st.win.eraseIdx n, endDone := st.endDone || fin })
    let at_ := tbImageAt s.dev p
    let owner := rget s.dev ⟨.TILE_FOLD_TB_OWNER, p, 0, 0⟩
    let land (k : Nat) : Nat := if lwEnOf w.raw then k else 0
    let ln := landNo h (lwIdxOf w.raw)
    let pen (older : List WinEnt) := awaitedPennant s.dev p h older w
    placeOk p h c = true → Runs s →
    (st.win[n]? = some w → mayComplete n w = true → w.failed = true → Gives (.recordComplete p h c n) s out) ∧
    (st.win[n]? = some w → mayComplete n w = true → w.failed = false → Gives (.recordComplete p h c n) s
      ((postsOf w.raw).foldl (fun d k => postPennant s.env p h c w k d) out)) ∧
    (∀ began, (withOlder [] st.win)[n]? = some (older, w) → w.issued = false → w.aged = none →
      metRules s.dev p h older w = true → began + 37450 ≤ s.clk.ft →
      Gives (.recordAged p h c n began) s (setStrm s.dev p h c { st with win := st.win.set n { w with aged := some began } })) ∧
    (∀ mine image, isFolded s.dev p = true → holdsTb s.dev p owner = false → wantsTb s.dev p (1 - owner) = some (c, w) →
      storeRead s.dev p owner c 2 0 65536 = .ok mine → hbmRead s.dev at_ 65536 = .ok image →
      let op := some (w.idx, tblGet (getStrm s.dev p (1 - owner) c).issues w.idx 0)
      let seen := hbmDone s.env at_ 65536 (storeSeen s.env p owner c 2 0 65536 op s.dev)
      Gives (.tbOwnerExchange p) s (rset (storeWrite s.env p owner c 2 0 image (hbmAccept s.env (some c) at_ mine seen))
        ⟨.TILE_FOLD_TB_OWNER, p, 0, 0⟩ (1 - owner))) ∧
    ((withOlder [] st.win)[n]? = some (older, w) → hazOn s.dev c = true → w.issued = false → w.hazWait = false →
      (waitsMet s.dev p h older w && landMet s.dev p h w) = false → busyOn s.dev p c = false →
      Gives (.hazardWaitLimit p h c n) s (hazReport s.env p h c
        ⟨7, w.idx, tblGet st.issues w.idx 0, (pen older).1, 0, land ln, 0,
          land (rget s.dev ⟨.TILE_LAND_COUNT, p, ln, 0⟩), land (rget s.dev ⟨.TILE_LAND_BASE, p, ln, 0⟩), land (lwTargetOf w.raw),
          waitLoose s.dev p h older w⟩
        (setStrm (pen older).2 p h c { st with win := st.win.set n { w with hazWait := true } })))

/-- R94: waits consume one count each when the record issues, posts add one each when it completes; a count of 255 stays, and
TILE_PEN_OVF is set. In debug mode too (R255). -/
def Obligations.PennantsCountWaitsAndPosts : Prop :=
  ∀ (s : State) (p h c : Nat) (x : (List WinEnt × WinEnt) × Nat) (n : Nat) (w : WinEnt) (q k : Nat),
    let names (l : List Nat) : Nat := if q = p then (l.filter (fun m => penNo h m = k)).length else 0
    (NextControl s p h c 0x00 x → ∃ t, exec (.nop p h c) s = .next t ∧
      rget t.dev ⟨.TILE_PEN_COUNT, q, k, 0⟩ = rget s.dev ⟨.TILE_PEN_COUNT, q, k, 0⟩ - names (waitsOf x.1.2.raw)) ∧
    (placeOk p h c = true → Runs s → (getStrm s.dev p h c).win[n]? = some w → mayComplete n w = true → w.failed = false →
      ∃ t, exec (.recordComplete p h c n) s = .next t ∧
        rget t.dev ⟨.TILE_PEN_COUNT, q, k, 0⟩ = min 255 (rget s.dev ⟨.TILE_PEN_COUNT, q, k, 0⟩ + names (postsOf w.raw)) ∧
        (255 < rget s.dev ⟨.TILE_PEN_COUNT, q, k, 0⟩ + names (postsOf w.raw) → rget t.dev ⟨.TILE_PEN_OVF, p, 0, 0⟩ = 1))

/-- TILE_HALT and TILE_RESUME (R105): the bits after, the traps after, and the frame. A context need not be enabled on the tile for
its bit to be set (the model's reading, notes/assumptions/76.md). -/
def Obligations.TileHaltAndResumeSetTheBits : Prop :=
  ∀ (s : State) (p : Nat) (v : Word),
    let both := (List.range 8).any (fun c => v.toNat.testBit c && v.toNat.testBit (8 + c))
    p < 1440 → Serves s →
    (both = false → ∃ t, exec (.tileHalt p v) s = .next t ∧ exec (.tileResume p v) s = .next t ∧
      (∀ c < 8, (getTile t.dev p).halt.testBit c =
        if v.toNat.testBit c then true
        else if v.toNat.testBit (8 + c) then false else (getTile s.dev p).halt.testBit c) ∧
      (∀ c, getCtx t.dev c =
        if c < 8 ∧ v.toNat.testBit (8 + c) = true then { getCtx s.dev c with trapArmed := true } else getCtx s.dev c) ∧
      (∀ q, q ≠ p → getTile t.dev q = getTile s.dev q) ∧
      getTile t.dev p = { getTile s.dev p with halt := (getTile t.dev p).halt } ∧
      t = { s with dev := { s.dev with tiles := t.dev.tiles, ctxs := t.dev.ctxs } }) ∧
    (both = true → Gives (.tileHalt p v) s (regAccess s.env (0x1000000 + 0x4000 * p + 0x14) true s.dev) ∧
      Gives (.tileResume p v) s (regAccess s.env (0x1000000 + 0x4000 * p + 0x14) true s.dev))

/-- TILE_PEN_WRITE (R95). That a context is halted is told by its halt bit (the model's choice, notes/assumptions/76.md). -/
def Obligations.PennantIsSetByHandOnlyHalted : Prop :=
  ∀ (s : State) (p c : Nat),
    let n := rget s.dev ⟨.TILE_PEN_SEL, p, 0, 0⟩
    let refused := regAccess s.env (0x1000000 + 0x4000 * p + 0x504) true s.dev
    p < 1440 → Serves s →
    (pennantOwner s.dev p n = some c → (getTile s.dev p).halt.testBit c = true →
      Gives (.tilePenWrite p) s (waitsMoved p (rset s.dev ⟨.TILE_PEN_COUNT, p, n, 0⟩ (rget s.dev ⟨.TILE_PEN_VAL, p, 0, 0⟩)))) ∧
    (pennantOwner s.dev p n = some c → (getTile s.dev p).halt.testBit c = false → Gives (.tilePenWrite p) s refused) ∧
    (pennantOwner s.dev p n = none → Gives (.tilePenWrite p) s refused)

/-- TILE_CTX_EN (R107): which contexts are enabled after it. -/
def Obligations.TileCtxEnSetsTheWrittenBits : Prop :=
  ∀ (s : State) (p : Nat) (v : Word) (imgs : List LoadImage),
    let changed := (List.range 8).filter (fun c => v.toNat.testBit c ≠ enabledOn s.dev p c)
    p < 1440 → Serves s →
    (changed.all (fun c => ctxOpen s.dev p c) = true → ∃ t, exec (.tileCtxEn p v imgs) s = .next t ∧
      (∀ c < 8, enabledOn t.dev p c = v.toNat.testBit c) ∧
      (∀ q c, q ≠ p → c < 8 → enabledOn t.dev q c = enabledOn s.dev q c) ∧
      t = { s with dev := t.dev }) ∧
    (changed.all (fun c => ctxOpen s.dev p c) = false →
      Gives (.tileCtxEn p v imgs) s (regAccess s.env (0x1000000 + 0x4000 * p + 0xC) true s.dev))

/-- LAUNCH (R218), ABORT (R235): the next state, whole. -/
def Obligations.CommandDescriptorsAreTaken : Prop :=
  ∀ (s : State) (c n : Nat),
    let i := rget s.dev ⟨.RING_CMD_CONS, c, 0, 0⟩
    let d1 := updCtx s.dev c (fun x => { x with taken := x.taken.filter (fun t => t.1 ≠ i) })
    let d2 := rset d1 ⟨.RING_CMD_CONS, c, 0, 0⟩ (i + 1)
    let d := rset d2 ⟨.RING_CMD_EXPECT, c, 0, 0⟩ (rget d2 ⟨.RING_CMD_EXPECT, c, 0, 0⟩ + 1)
    let err : Err := { cls := 0x0201, level := 4, kind := 5, index := 2, ctx := some c, syn := i + descSeq n * 2 ^ 32 }
    let logged := logError s.env err d
    let told := if descOp n = 1 ∧ (getCtx logged c).cur.isNone then rset logged ⟨.CLK_CTX_SEQ, c, 0, 0⟩ (descSeq n) else logged
    let bad := addDone c (doneNow s.env told (descSeq n) 2 10 d.logNext (descOp n = 2)) told
    let a := descSeq n
    let target := descEntry n
    let past := target = a ∨ seqLater target a = true
    let queued := (getCtx d c).queue.find? (fun l => l.seq = target)
    let gone := addDone c (doneNow s.env d a 3 0 target true) d
    c < 8 → Runs s → headDesc s.dev c = some n →
    (descOp n = 1 → (getCtx s.dev c).queue.length < 64 → descBad s.dev c n = false →
      Gives (.launch c) s (updCtx d c (fun x => { x with queue := x.queue ++ [launchOf n] }))) ∧
    (descOp n ≠ 2 → (descOp n = 1 → (getCtx s.dev c).queue.length < 64) → descBad s.dev c n = true → Gives (.launch c) s bad) ∧
    (descOp n = 2 → descBad s.dev c n = true → Gives (.abort c) s bad) ∧
    (descOp n = 2 → descBad s.dev c n = false → past → Gives (.abort c) s (addDone c (doneNow s.env d a 2 11 target true) d)) ∧
    (∀ l, descOp n = 2 → descBad s.dev c n = false → ¬ past → queued = some l →
      Gives (.abort c) s (abortQueued s.env c a l d)) ∧
    (∀ l, descOp n = 2 → descBad s.dev c n = false → ¬ past → queued = none → (getCtx d c).cur = some l → l.seq = target →
      (getCtx d c).decided = false → l.started = true → Gives (.abort c) s (abortRunning s.env c a l d)) ∧
    (descOp n = 2 → descBad s.dev c n = false → ¬ past → queued = none →
      (getCtx d c).cur.all (fun l => l.seq ≠ target || (getCtx d c).decided || !l.started) = true → Gives (.abort c) s gone)

/-- LAUNCH_START (R219): the next state, whole. -/
def Obligations.LaunchStartJudgesTheHead : Prop :=
  ∀ (s : State) (c : Nat) (l : Launch) (q : List Launch),
    let cleared := rset (rset (rset s.dev ⟨.CLK_CTX_FAIL_PEND, c, 0, 0⟩ 0) ⟨.CLK_CTX_PEND_CAUSE, c, 0, 0⟩ 0)
      ⟨.LNK_COL_FAIL_PEND, c, 0, 0⟩ 0
    let slot : Err := { cls := 0x0304, level := 4, kind := 8, ctx := some c, syn := l.useSlot + epState s.dev c l.useSlot * 4 }
    let pending := rget s.dev ⟨.CLK_CTX_FAIL_PEND, c, 0, 0⟩
    let useOk := l.useEn = false ∨ epResident s.dev c l.useSlot = true
    let fillOk := l.fillEn = false ∨ fillAllowed s.dev l = true
    c < 8 → Runs s → (getCtx s.dev c).cur = none → (getCtx s.dev c).queue = l :: q → ctxLoaded s.dev c = true →
    (pending = 1 → Gives (.launchStart c) s (failHead s.env c
      (rget s.dev ⟨.CLK_CTX_PEND_CAUSE, c, 0, 0⟩) (rget s.dev ⟨.CLK_CTX_PEND_LOG, c, 0, 0⟩) l cleared)) ∧
    (pending ≠ 1 → launchesHeld s.dev = true ∨ ctxHalted s.dev c = true → Gives (.launchStart c) s s.dev) ∧
    (launchesHeld s.dev = false → pending ≠ 1 → ctxHalted s.dev c = false → ¬ useOk →
      Gives (.launchStart c) s (failHead s.env c 5 s.dev.logNext l (logError s.env slot s.dev))) ∧
    (launchesHeld s.dev = false → pending ≠ 1 → ctxHalted s.dev c = false → useOk → ¬ fillOk →
      Gives (.launchStart c) s (waitFill s.env c l s.dev)) ∧
    (launchesHeld s.dev = false → pending ≠ 1 → ctxHalted s.dev c = false → useOk → fillOk →
      Gives (.launchStart c) s (beginLaunch s.env c l s.dev))

/-- LAUNCH_START of a launch without epoch fields (R218, R239). -/
def Obligations.LaunchStartBringsStateTwo : Prop :=
  ∀ (s : State) (c : Nat) (l : Launch) (q : List Launch),
    c < 8 → Runs s → (getCtx s.dev c).cur = none → (getCtx s.dev c).queue = l :: q → ctxLoaded s.dev c = true →
    launchesHeld s.dev = false → rget s.dev ⟨.CLK_CTX_FAIL_PEND, c, 0, 0⟩ = 0 → ctxHalted s.dev c = false →
    l.useEn = false → l.fillEn = false →
    ∃ t, exec (.launchStart c) s = .next t ∧ ctxState t.dev c = 2 ∧
      (getCtx t.dev c).cur = some { l with started := true } ∧ (getCtx t.dev c).queue = q ∧
      rget t.dev ⟨.CLK_CTX_SEQ, c, 0, 0⟩ = l.seq % 2 ^ 32 ∧
      (∀ p < 1440, ∀ h < 2, (getStrm s.dev p h c).on = true →
        (getStrm t.dev p h c).on = true ∧ (getStrm t.dev p h c).next = l.entry ∧ (getStrm t.dev p h c).decoding = true ∧
        (getStrm t.dev p h c).win = [] ∧ (getStrm t.dev p h c).loops = [] ∧ (getStrm t.dev p h c).decLoops = [] ∧
        (getStrm t.dev p h c).ended = false)

/-- LAUNCH_COMPLETE (R218), DEADLINE_PASS (R221), ABORT_QUIESCED (R235), FAIL_QUIESCED (R449). -/
def Obligations.LaunchesEnd : Prop :=
  ∀ (s : State) (c q : Nat) (l : Launch),
    let x := getCtx s.dev c
    let r : Done := { doneNow s.env s.dev l.seq 0 0 0 false with late := l.late, ovf := ctxOverflow s.dev c, ofLaunch := true, ready := false }
    let due (l : Launch) : Bool := l.seq = q && !l.late && l.deadline ≠ 2 ^ 64 - 1 && l.deadline ≤ s.clk.ft
    let late (l : Launch) : Launch := if due l then { l with late := true } else l
    let marked := setCtx s.dev c { x with queue := x.queue.map late, cur := if x.decided then x.cur else x.cur.map late }
    let zeroed := (tilesOf s.dev c).foldl (freeChans c) ((halvesOf s.dev c).foldl (zeroCounters c) s.dev)
    let ready := updCtx zeroed c (fun x => { x with waiting := x.waiting.map (fun r => { r with ready := true }) })
    c < 8 → Runs s →
    (x.cur = some l → l.started = true → x.ending = .running → x.decided = false → ctxHalted s.dev c = false → allJudged s.dev c = true →
      (halvesOf s.dev c).all (fun t => (getStrm s.dev t.1 t.2 c).endDone) = true →
      Gives (.launchComplete c) s ((halvesOf s.dev c).foldl (hazKind5 s.env c)
        (setCtx s.dev c { x with decided := true, waiting := x.waiting ++ [r] }))) ∧
    ((x.queue ++ (if x.decided then [] else x.cur.toList)).find? due = some l →
      Gives (.deadlinePass c q) s (satAdd s.env ⟨.CLK_CTX_LATE, c, 0, 0⟩ 1
        (pushEvent s.env c 2 (deadlineBody s.env s.dev l) marked))) ∧
    (x.ending = .aborting → x.decided = true → ctxQuiet s.dev c = true → x.waiting.any (fun r => !r.ready) = true →
      Gives (.abortQuiesced c) s (resumeCtx c ready)) ∧
    (x.ending = .failing → x.decided = true → ctxQuiet s.dev c = true → x.waiting.any (fun r => !r.ready) = true →
      Gives (.failQuiesced c) s ready)

/-- RING_DOORBELL (R270), row by row. -/
def Obligations.DoorbellsFollowTheTable : Prop :=
  ∀ (s : State) (v : Word),
    let c := bitsOf v.toNat 18 16
    let p := bitsOf v.toNat 15 0
    let get (r : Reg) : Nat := rget s.dev ⟨r, c, 0, 0⟩
    let live := get .RING_EN ≠ 0 ∧ bitsOf v.toNat 31 19 = get .RING_GEN
    let dd := (p + 65536 - get .RING_CMD_CONS % 65536) % 65536
    let o := (get .RING_CMD_PROD + 65536 - get .RING_CMD_CONS % 65536) % 65536
    let top := 2 ^ get .RING_CMD_LOG2 - 1
    let ignored := satAdd s.env ⟨.RING_DB_IGNORED, 0, 0, 0⟩ 1 s.dev
    let err : Err := { cls := 0x0502, level := 4, kind := 5, index := 2, ctx := some c, syn := v.toNat }
    Serves s →
    (¬ live → Gives (.ringDoorbell v) s ignored) ∧
    (live → dd < o → Gives (.ringDoorbell v) s ignored) ∧
    (live → dd = o → Gives (.ringDoorbell v) s s.dev) ∧
    (live → o < dd → top < dd → Gives (.ringDoorbell v) s (logError s.env err (rset s.dev ⟨.RING_DB_BAD, c, 0, 0⟩ 1))) ∧
    (live → o < dd → dd ≤ top → Gives (.ringDoorbell v) s (rset s.dev ⟨.RING_CMD_PROD, c, 0, 0⟩ p))

/-- DESC_FETCH, DESC_READ_RETURN, DESC_REREAD, RING_CMD_RETRY (R272). -/
def Obligations.DescriptorsAreFetched : Prop :=
  ∀ (s : State) (c idx : Nat) (data : List Byte) (f : Fetch),
    let x := getCtx s.dev c
    let get (r : Reg) : Nat := rget s.dev ⟨r, c, 0, 0⟩
    let a := get .RING_CMD_BASE + idx % 2 ^ get .RING_CMD_LOG2 * 64
    let want := (get .RING_CMD_EXPECT + ringUsed idx (get .RING_CMD_CONS)) % 2 ^ 32
    let g := if f.first then { f with first := false, out := f.out - 1 } else { f with out := f.out - 1, missed := f.missed + 1 }
    let again := { f with out := f.out + 1, asked := f.asked + 1 }
    let put (y : Fetch) := setCtx s.dev c { x with fetches := x.fetches.map (fun z => if z.idx = idx then y else z) }
    c < 8 → Runs s →
    (get .RING_EN = 1 → get .RING_CMD_STOPPED = 0 → x.fetchNext ≠ get .RING_CMD_PROD →
      x.queue.length + x.fetches.length + x.taken.length < 64 →
      Gives (.descFetch c) s
        (setCtx s.dev c { x with fetches := x.fetches ++ [{ idx := x.fetchNext }], fetchNext := (x.fetchNext + 1) % 65536 })) ∧
    (x.fetches.find? (fun y => y.idx = idx) = some f → 0 < f.out → a + 64 ≤ 2 ^ 36 → leNat data % 2 ^ 32 = want →
      Gives (.descReadReturn c idx data) s
        (setCtx s.dev c { x with fetches := x.fetches.erase f, taken := x.taken ++ [(idx, leNat data % 2 ^ 512)] })) ∧
    (x.fetches.find? (fun y => y.idx = idx) = some f → 0 < f.out → a + 64 ≤ 2 ^ 36 → leNat data % 2 ^ 32 ≠ want → g.missed ≠ 16 →
      Gives (.descReadReturn c idx data) s (put g)) ∧
    (x.fetches.find? (fun y => y.idx = idx) = some f → 0 < f.out → a + 64 ≤ 2 ^ 36 → leNat data % 2 ^ 32 ≠ want → g.missed = 16 →
      Gives (.descReadReturn c idx data) s (descStops s.env c idx (leNat data % 2 ^ 32) s.dev)) ∧
    (x.fetches.find? (fun y => y.idx = idx) = some f → f.first = false → f.asked < 16 →
      Gives (.descReread c idx) s (satAdd s.env ⟨.RING_DESC_REREADS, c, 0, 0⟩ 1 (put again))) ∧
    (Serves s → Gives (.ringCmdRetry c) s (rset s.dev ⟨.RING_CMD_STOPPED, c, 0, 0⟩ 0))

/-- COMPLETION_RECORD_WRITE (R274, R275), EVENT_ENTRY_WRITE (R276, R277): the bytes in Tabok memory, the indices. -/
def Obligations.RecordsReachTabokMemory : Prop :=
  ∀ (s : State) (c : Nat) (r : Done) (rs : List Done) (v : EvEnt) (vs : List EvEnt),
    let x := getCtx s.dev c
    let get (r : Reg) : Nat := rget s.dev ⟨r, c, 0, 0⟩
    let a := get .RING_CQ_BASE + get .RING_CQ_PROD % 2 ^ get .RING_CQ_LOG2 * 32
    let b := get .RING_EQ_BASE + get .RING_EQ_PROD % 2 ^ get .RING_EQ_LOG2 * 128
    let rec_ := leBytes (cqImage (get .RING_CQ_CSEQ) r) 32
    let ent := leBytes (eqEnvelope s.env (get .RING_EQ_ESEQ) x.dropped v) 64 ++ leBytes v.body 64
    c < 8 → Runs s → get .RING_EN = 1 →
    (x.waiting = r :: rs → mayWriteDone s.dev c r = true → cqFree s.dev c ≠ 0 → a + 32 ≤ 2 ^ 36 →
      ∃ t, exec (.completionRecordWrite c) s = .next t ∧ t = { s with dev := t.dev } ∧ (getCtx t.dev c).waiting = rs ∧
        (∀ k < 32, memGet t.dev.lp (a + k) = rec_.getD k 0) ∧
        (∀ k, k < a ∨ a + 32 ≤ k → memGet t.dev.lp k = memGet s.dev.lp k) ∧
        rget t.dev ⟨.RING_CQ_PROD, c, 0, 0⟩ = (get .RING_CQ_PROD + 1) % 2 ^ 16 ∧
        rget t.dev ⟨.RING_CQ_CSEQ, c, 0, 0⟩ = (get .RING_CQ_CSEQ + 1) % 2 ^ 32) ∧
    (x.evq = v :: vs → eqFree s.dev c ≠ 0 → b + 128 ≤ 2 ^ 36 →
      ∃ t, exec (.eventEntryWrite c) s = .next t ∧ t = { s with dev := t.dev } ∧
        (getCtx t.dev c).evq = vs ∧ (getCtx t.dev c).dropped = 0 ∧
        (∀ k < 128, memGet t.dev.lp (b + k) = ent.getD k 0) ∧
        (∀ k, k < b ∨ b + 128 ≤ k → memGet t.dev.lp k = memGet s.dev.lp k) ∧
        rget t.dev ⟨.RING_EQ_PROD, c, 0, 0⟩ = (get .RING_EQ_PROD + 1) % 2 ^ 16 ∧
        rget t.dev ⟨.RING_EQ_ESEQ, c, 0, 0⟩ = (get .RING_EQ_ESEQ + 1) % 2 ^ 32)

/-- RING_EN, RING_CQ_CONS, RING_EQ_CONS (R283), IRQ_HOLDOFF_EXPIRE (R278). -/
def Obligations.RingRegisterWritesAreJudged : Prop :=
  ∀ (s : State) (c : Nat) (v : Word),
    let x := getCtx s.dev c
    let get (r : Reg) : Nat := rget s.dev ⟨r, c, 0, 0⟩
    let new := bitsOf v.toNat 31 16
    let used (p k : Nat) : Nat := (p + 65536 - k % 65536) % 65536
    let refused (off : Nat) : Dev := regAccess s.env (0x101000 + 0x400 * c + off) true s.dev
    let zeroed := [Reg.RING_CMD_PROD, .RING_CMD_CONS, .RING_CQ_PROD, .RING_CQ_CONS, .RING_CQ_CSEQ, .RING_EQ_PROD,
      .RING_EQ_CONS, .RING_EQ_ESEQ, .RING_CMD_STOPPED].foldl (fun d r => rset d ⟨r, c, 0, 0⟩ 0) s.dev
    let drained := x.evq.foldl (fun d _ => writeEvent s.env c d) s.dev
    let enabled := rset (rset zeroed ⟨.RING_CMD_EXPECT, c, 0, 0⟩ (get .RING_CMD_SEQ0)) ⟨.RING_EN, c, 0, 0⟩ 1
    c < 8 → Serves s →
    (v = 1 → get .RING_EN = 0 → ringSetOk s.dev c = true →
      Gives (.ringEn c v) s (setCtx enabled c { x with dropped := 0, fetches := [], taken := [], fetchNext := 0 })) ∧
    (v = 0 → get .RING_EN = 1 → ringClearOk s.dev c = true →
      Gives (.ringEn c v) s (rset (setCtx drained c { getCtx drained c with fetches := [], taken := [] }) ⟨.RING_EN, c, 0, 0⟩ 0)) ∧
    (bitOf v.toNat 0 = true → get .RING_EN = 0 → ringSetOk s.dev c = false → Gives (.ringEn c v) s (refused 0)) ∧
    (bitOf v.toNat 0 = false → get .RING_EN = 1 → ringClearOk s.dev c = false → Gives (.ringEn c v) s (refused 0)) ∧
    (used (get .RING_CQ_PROD) new ≤ used (get .RING_CQ_PROD) (get .RING_CQ_CONS) →
      Gives (.ringCqCons c v) s (rset s.dev ⟨.RING_CQ_CONS, c, 0, 0⟩ new)) ∧
    (used (get .RING_CQ_PROD) (get .RING_CQ_CONS) < used (get .RING_CQ_PROD) new → Gives (.ringCqCons c v) s (refused 0x28)) ∧
    (used (get .RING_EQ_PROD) new ≤ used (get .RING_EQ_PROD) (get .RING_EQ_CONS) →
      Gives (.ringEqCons c v) s (rset s.dev ⟨.RING_EQ_CONS, c, 0, 0⟩ new)) ∧
    (used (get .RING_EQ_PROD) (get .RING_EQ_CONS) < used (get .RING_EQ_PROD) new → Gives (.ringEqCons c v) s (refused 0x38)) ∧
    (x.irqCq = true → Gives (.irqHoldoffExpire (.completion c)) s
      (sendIrq (get .RING_IRQ_VEC_CQ) (setCtx s.dev c { x with irqCqAt := some s.clk.ns, irqCq := false }))) ∧
    (x.irqEq = true → Gives (.irqHoldoffExpire (.event c)) s
      (sendIrq (get .RING_IRQ_VEC_EQ) (setCtx s.dev c { x with irqEqAt := some s.clk.ns, irqEq := false }))) ∧
    (s.dev.irqLog = true → Gives (.irqHoldoffExpire .drain) s
      (sendIrq (rget s.dev ⟨.LOG_IRQ_VEC, 0, 0, 0⟩) { s.dev with irqLogAt := some s.clk.ns, irqLog := false }))

/-- RDMA_READ, RDMA_WRITE, SEND, NVME_READ, NVME_WRITE (R280): the next state, whole. -/
def Obligations.WorkRequestsStartOnce : Prop :=
  ∀ (s : State) (port qp : Nat) (wr data bs : List Byte),
    let w := leNat wr
    let out (bs : List Byte) (d : Dev) : Dev := { d with outbox := d.outbox ++ [.remote port qp (wrOp w) (wrRemote w) (wrKey w) (wrLen w) bs] }
    let fly (r : Wr) (d : Dev) : Dev :=
      let q := getQp d port qp
      setQp port qp ⟨q.prod, (q.cons + 1) % 65536, (q.expect + 1) % 2 ^ 32, 0, q.stopped, q.cqProd, q.cseq,
        q.flights ++ [{ r with seq := w % 2 ^ 32 }]⟩ d
    let reads := fly { op := wrOp w, local_ := wrLocal w, len := wrLen w } (countBytes s.env port 1 0 (out [] s.dev))
    let writes := fly { op := wrOp w, len := wrLen w }
      (countBytes s.env port 1 (wrLen w) (out bs (hbmDone s.env (wrLocal w) (wrLen w) s.dev)))
    let err : Err := { cls := 0x0201, level := 4, kind := 3, index := port, syn := (getQp s.dev port qp).cons + w % 2 ^ 32 * 2 ^ 32 }
    let bad := fly { op := wrOp w, cause := 10, aux := s.dev.logNext } (logError s.env err s.dev)
    port < 4 → qp < 1024 → Runs s → wrCase s.env s.dev port qp w = .takes →
    (wrBad s.dev port qp w = true → Gives (.rdmaRead port qp wr) s bad ∧ Gives (.rdmaWrite port qp wr) s bad ∧
      Gives (.send port qp wr data) s bad ∧ Gives (.nvmeRead port qp wr) s bad ∧ Gives (.nvmeWrite port qp wr) s bad) ∧
    (wrBad s.dev port qp w = false →
      (wrOp w = 1 → wrLocal w + wrLen w ≤ hbmCap s.dev → Gives (.rdmaRead port qp wr) s reads) ∧
      (wrOp w = 4 → wrLocal w + wrLen w ≤ hbmCap s.dev → Gives (.nvmeRead port qp wr) s reads) ∧
      (wrOp w = 2 → hbmRead s.dev (wrLocal w) (wrLen w) = .ok bs → Gives (.rdmaWrite port qp wr) s writes) ∧
      (wrOp w = 5 → hbmRead s.dev (wrLocal w) (wrLen w) = .ok bs → Gives (.nvmeWrite port qp wr) s writes) ∧
      (wrOp w = 3 → wrLocal w + wrLen w ≤ 2 ^ 36 → bs = data.take (wrLen w) → Gives (.send port qp wr data) s
        (fly { op := 3, len := wrLen w } (countBytes s.env port 1 (wrLen w) (out bs s.dev)))))

/-- Queue pairs and ports (R279 to R281, R390): the next state, whole. The model's choices: a pause quantum of 512 bit times at
800 Gb/s (notes/assumptions/43.md), the 14 bytes of a frame's header that are not payload (notes/assumptions/44.md), and that
clearing ETH_QP_EN takes no other field of the word (notes/assumptions/41.md). -/
def Obligations.QueuePairsAndPorts : Prop :=
  ∀ (s : State) (port qp seq : Nat) (o : WrEnd) (v : Word) (frame : List Byte) (prios : BitVec 8) (quanta : Nat) (f : Wr),
    let bell := bitsOf v.toNat 25 16
    let q := getQp s.dev port bell
    let idx := bitsOf v.toNat 15 0
    let ahead := ringUsed idx q.cons
    let sel := rget s.dev ⟨.ETH_QP_SEL, port, 0, 0⟩
    let put (r : Reg) (x : Nat) (d : Dev) : Dev := rset d ⟨r, port, sel, 0⟩ x
    let word := put .ETH_QP_EN (b2n (bitOf v.toNat 16)) (put .ETH_QP_NVME (b2n (bitOf v.toNat 17))
      (put .ETH_QP_CQ_LOG2 (bitsOf v.toNat 12 8) (put .ETH_QP_SQ_LOG2 (bitsOf v.toNat 4 0) s.dev)))
    let x := getQp s.dev port qp
    let ended := wrOutcome s.env port f o s.dev
    let r : Done := { seq := seq, outcome := if ended.1 = 0 then 0 else 2, cause := ended.1, aux := ended.2.1, ft := s.clk.ft, rc := ended.2.2.rc }
    let at_ := ringAddr (rget ended.2.2 ⟨.ETH_QP_CQ, port, qp, 0⟩) (rget ended.2.2 ⟨.ETH_QP_CQ_LOG2, port, qp, 0⟩) 32 x.cqProd
    let passed (host : Bool) : Dev :=
      countBytes s.env port (if host then 0 else 1) (frame.length - 14) { s.dev with outbox := s.dev.outbox ++ [.frame port host frame] }
    let until_ := if quanta = 0 then 0 else s.clk.ns + ceilDiv (quanta * 64) 100
    port < 4 → Serves s →
    (rget s.dev ⟨.ETH_QP_EN, port, bell, 0⟩ = 1 → ringUsed q.prod q.cons < ahead →
      ahead ≤ 2 ^ rget s.dev ⟨.ETH_QP_SQ_LOG2, port, bell, 0⟩ - 1 →
      Gives (.ethDoorbell port v) s (setQp port bell { q with prod := idx } s.dev)) ∧
    (rget s.dev ⟨.ETH_QP_EN, port, sel, 0⟩ = 0 → log2Ok (bitsOf v.toNat 4 0) = true → log2Ok (bitsOf v.toNat 12 8) = true →
      bitOf v.toNat 16 = true → ∃ t, exec (.ethQpEn port v) s = .next t ∧ t = { s with dev := t.dev } ∧
        t.dev = setQp port sel { expect := rget s.dev ⟨.ETH_QP_SEQ0, port, sel, 0⟩ } (put .ETH_QP_CQ_CONS 0 word)) ∧
    (rget s.dev ⟨.ETH_QP_EN, port, sel, 0⟩ = 0 → log2Ok (bitsOf v.toNat 4 0) = true → log2Ok (bitsOf v.toNat 12 8) = true →
      bitOf v.toNat 16 = false → Gives (.ethQpEn port v) s word) ∧
    (rget s.dev ⟨.ETH_QP_EN, port, sel, 0⟩ = 1 → log2Ok (bitsOf v.toNat 4 0) = true → log2Ok (bitsOf v.toNat 12 8) = true →
      bitOf v.toNat 16 = false → Gives (.ethQpEn port v) s (put .ETH_QP_EN 0 s.dev)) ∧
    ((log2Ok (bitsOf v.toNat 4 0) && log2Ok (bitsOf v.toNat 12 8)) = false →
      Gives (.ethQpEn port v) s (regAccess s.env (ethOff port 0x24) true s.dev)) ∧
    (qp < 1024 → x.flights.find? (fun y => y.seq = seq) = some f → qpRoom s.dev port qp ≠ 0 →
      Gives (.workRequestComplete port qp seq o) s (hostWrite s.env at_ (leBytes (cqImage x.cseq r) 32)
        (setQp port qp ⟨x.prod, x.cons, x.expect, x.missed, x.stopped, (x.cqProd + 1) % 65536, (x.cseq + 1) % 2 ^ 32,
          x.flights.erase f⟩ ended.2.2))) ∧
    (s.dev.ethMask.testBit port = true → rget s.dev ⟨.ETH_PORT_STATE, port, 0, 0⟩ ≤ 1 →
      rget s.dev ⟨.CLK_DOM_STATE, 7, 0, 0⟩ ≠ 3 → Gives (.ethPortTrained port) s (rset s.dev ⟨.ETH_PORT_STATE, port, 0, 0⟩ 2)) ∧
    (portUp s.dev port = true → frame.length ≤ rget s.dev ⟨.ETH_MAX_FRAME, port, 0, 0⟩ →
      Gives (.hostFrameRx port frame) s (passed true)) ∧
    (portSends s.dev port = true → frame.length ≤ rget s.dev ⟨.ETH_MAX_FRAME, port, 0, 0⟩ →
      Gives (.hostFrameTx port frame) s (passed false)) ∧
    (portUp s.dev port = true → ∃ t, exec (.priorityFlowControlRx port prios quanta) s = .next t ∧
      t = { s with dev := { s.dev with pfc := t.dev.pfc } } ∧
      ∀ k, tblGet t.dev.pfc k 0 =
        if (List.range 8).any (fun n => k = port * 8 + n && prios.toNat.testBit n && (rget s.dev ⟨.ETH_PFC_EN, port, 0, 0⟩).testBit n)
        then until_ else tblGet s.dev.pfc k 0)

/-- Write combining is invisible to reads (R187, R188). -/
def Obligations.WritesAreSeenThroughCombining : Prop :=
  ∀ (s : State) (a : Nat) (data : List Byte),
    Runs s → s.dev.lineUE = [] → (∀ w ∈ s.dev.wcb, w.bad = false) → a + data.length ≤ hbmCap s.dev →
    ∃ t, exec (.hbmWrite (.tabok a data) .clean) s = .next t ∧ t = { s with dev := t.dev } ∧
      (∀ x, hbmByte t.dev x = if a ≤ x ∧ x < a + data.length then data.getD (x - a) 0 else hbmByte s.dev x) ∧
      t.dev.lineUE = []

/-- HBM_READ (R188, R192), HBM_WRITE of a queued write (R183, R187), WCB_EVICT (R187), PATROL_SCRUB (R191), TILE_SCRUB (R179). HBM_RETIRE_GO (R194, R195), HBM_CHUNK_MOVE (R195), HBM_STACK_TRAINED (R196). -/
def Obligations.HbmReadsScrubsAndRetirement : Prop :=
  (∀ (s : State) (who : HbmUser) (a n k p st line word x : Nat) (name : StoreName) (bs : List Byte) (f : Finding) (q : HbmWr) (w : WcbEnt),
      let gone : Dev := { s.dev with hbmWr := s.dev.hbmWr.eraseIdx k }
      let checked := lineChecked s.env s.dev line
      let merged := (List.range 64).map (fun i => hbmByte checked (line * 64 + i))
      let at_ := line * 64
      let fixed : Dev := { s.dev with slips := s.dev.slips.filter (fun y => !(y.mem = .hbm && y.at_ = line)) }
      let syn := at_ + x % 32 * 2 ^ 64 + x / 32 % 2 ^ 16 * 2 ^ 80
      let last (d : Dev) : Dev := patrolEnds (hbmStack at_) d
      let marked : Dev := { s.dev with lineUE := if s.dev.lineUE.contains line then s.dev.lineUE else s.dev.lineUE ++ [line] }
      let no := storeNo name
      let m := storeCoded name
      let own := p * codedWords m + word
      let good := logError s.env (storeErr 0x0101 p (codedSpace m) (own % codedWords m * 8) x none none)
        { s.dev with slips := s.dev.slips.filter (fun y => !(y.mem = m && y.at_ = own)) }
      let lost (u : Nat) (d : Dev) : Dev := logError s.env (storeErr 0x0103 p no (word * 8) u none none)
        (satAdd s.env ⟨storeCounter no true, p, 0, 0⟩ 1 (storeBad name own d))
      Runs s →
      (isBad f = false → hbmRead s.dev a n = .ok bs →
        Gives (.hbmRead who a n f) s (answerRead who (some bs) (hbmDone s.env a n s.dev))) ∧
      (∀ l, isBad f = false → hbmRead s.dev a n = .bad l → Gives (.hbmRead who a n f) s (answerRead who none
        (logError s.env (hbmErr (hbmDone s.env a n s.dev) 0x0112 l none none) (hbmUeSeen s.env l (hbmDone s.env a n s.dev))))) ∧
      (isBad f = false → hbmRead s.dev a n = .beyond → Gives (.hbmRead who a n f) s
        (answerRead who none (hbmBeyond s.env (max a (hbmCap s.dev)) none none s.dev))) ∧
      (isBad f = false → s.dev.hbmWr[k]? = some q →
        (s.dev.hbmWr.take k).any (fun v => v.src = q.src && hbmStack v.addr = hbmStack q.addr) = false →
        q.addr + q.data.length ≤ hbmCap s.dev →
        Gives (.hbmWrite (.queued k) f) s (ownerLanded q.owner (hbmAccept s.env q.ctx q.addr q.data gone))) ∧
      (st < 20 → isBad f = false → wcbOf s.dev line = some w → hbmStack at_ = st → w.line = line → w.bad = false →
        s.dev.lineUE.contains line = false →
        Gives (.wcbEvict st line f) s (satAdd s.env ⟨.HBM_WCB_RMW, st, 0, 0⟩ 1 (hbmPutLine line merged checked))) ∧
      (st < 20 → wcbOf s.dev line = some w → hbmStack at_ = st → isBad f = true ∨ w.bad = true →
        Gives (.wcbEvict st line f) s (evictFail s.env w s.dev)) ∧
      (line < 1920 * 2 ^ 24 → wcbOf s.dev line = none → s.dev.lineUE.contains line = false → lineSlip s.dev line = none →
        Gives (.patrolScrub line .clean false) s s.dev ∧ Gives (.patrolScrub line .clean true) s (last s.dev)) ∧
      (line < 1920 * 2 ^ 24 → wcbOf s.dev line = none → s.dev.lineUE.contains line = false →
        f = .corrected x ∨ f = .clean ∧ lineSlip s.dev line = some x →
        let fixing := patrolCount s.env (hbmStack at_) (hbmPc fixed at_) (logError s.env { hbmErr fixed 0x0111 at_ none none with syn := syn } fixed)
        Gives (.patrolScrub line f false) s fixing ∧ Gives (.patrolScrub line f true) s (last fixing)) ∧
      (line < 1920 * 2 ^ 24 → wcbOf s.dev line = none → s.dev.lineUE.contains line = true ∨ isBad f = true →
        let found := logError s.env (hbmErr marked 0x0113 at_ none none) (hbmUeSeen s.env at_ marked)
        Gives (.patrolScrub line f false) s found ∧ Gives (.patrolScrub line f true) s (last found)) ∧
      (p < 1440 → no ≠ 2 → word < codedWords m →
        (storeIsBad name own s.dev = false → wordSlip s.dev m own = none → Gives (.tileScrub p name word .clean) s s.dev) ∧
        (storeIsBad name own s.dev = false → f = .corrected x ∨ f = .clean ∧ wordSlip s.dev m own = some x →
          Gives (.tileScrub p name word f) s (satAdd s.env ⟨storeCounter (codedSpace m) false, p, 0, 0⟩ 1 good)) ∧
        Gives (.tileScrub p name word (.uncorrectable x)) s (lost x s.dev) ∧
        (storeIsBad name own s.dev = true → isBad f = false →
          Gives (.tileScrub p name word f) s (lost (takeFree s.dev).1 (takeFree s.dev).2)))) ∧
  (∀ (s : State) (st pc q : Nat),
      let state := rget s.dev ⟨.HBM_STACK_STATE, st, 0, 0⟩
      let retired := rget s.dev ⟨.HBM_PC_RETIRED, st, 0, 0⟩
      let sel := rget s.dev ⟨.HBM_RETIRE_PC, st, 0, 0⟩
      let res (k : Nat) := rset s.dev ⟨.HBM_RETIRE_RESULT, st, 0, 0⟩ k
      let full : Err := { cls := 0x0118, level := 4, kind := 1, index := st * 32 + sel, syn := sel }
      let begun : Dev := { res 0 with migs := tblSet (fun k => k) s.dev.migs st (some (sel, 0)) none }
      let r := nextMove s.dev st q 64
      let d := if r < migTop s.dev st ∧ rowMoves s.dev st r then (linesOf (chunkAddr st r) 2048).foldl (moveLine s.env st) s.dev else s.dev
      let next := nextMove d st (r + 1) 64
      let bad : Err := { cls := 0x0119, level := 4, kind := 1, index := st * 32, syn := st }
      st < 20 → Serves s →
      (state = 3 → Gives (.hbmRetireGo st) s (res 2)) ∧
      (state ≠ 2 → state ≠ 3 → Gives (.hbmRetireGo st) s (res 1)) ∧
      (state = 2 → retired.testBit sel = true → Gives (.hbmRetireGo st) s (res 3)) ∧
      (state = 2 → retired.testBit sel = false → 8 ≤ popCount retired 32 → Gives (.hbmRetireGo st) s (logError s.env full (res 4))) ∧
      (state = 2 → retired.testBit sel = false → popCount retired 32 < 8 →
        Gives (.hbmRetireGo st) s (rset begun ⟨.HBM_STACK_STATE, st, 0, 0⟩ 3)) ∧
      (migOf s.dev st = some (pc, q) → next < migTop s.dev st → Gives (.hbmChunkMove st) s
        { d with migs := tblSet (fun k => k) d.migs st (some (pc, next)) none }) ∧
      (migOf s.dev st = some (pc, q) → migTop s.dev st ≤ next → Gives (.hbmChunkMove st) s (migDone st pc d)) ∧
      (state < 2 → Gives (.hbmStackTrained st true) s (rset (zeroStack st s.dev) ⟨.HBM_STACK_STATE, st, 0, 0⟩ 2) ∧
        Gives (.hbmStackTrained st false) s (logError s.env bad (rset s.dev ⟨.HBM_STACK_STATE, st, 0, 0⟩ 4))))

/-- SHADOW_TO_ACTIVE (R200), DMA_READ_RETURN (R202), DMA_WRITE_RESPONSE (R205), DMA_TRANSFER_COMPLETE (R205, R206),
DMA_PAUSE_DRAINED, TILE_DMA_PAUSE and TILE_DMA_RESUME (R209). How many reads were outstanding at a pause, and for how many
cycles flow control held a write, are free values (notes/assumptions/18.md, 31.md). -/
def Obligations.TransfersMoveThroughTheChannel : Prop :=
  ∀ (s : State) (p n : Nat) (x : Xfer),
    let ch := getChan s.dev p n
    let e := s.env
    let pause : RegKey := ⟨.TILE_DMA_PAUSE, p, n, 0⟩
    let paused : RegKey := ⟨.TILE_DMA_PAUSED, p, n, 0⟩
    let pieces (d : Dev) : Dev := satAdd e ⟨.TILE_DMA_PIECES, p, n, 0⟩ 1 d
    let lines (bs : List Byte) : List HbmWr := (cutLines (pieceDst x) bs.length bs).map (fun y =>
      { src := p * 4 + n, addr := y.1, data := y.2, ctx := some x.c, owner := .channel p n x.c x.h x.idx x.issueNo })
    let read := pieceSeen e p x (writeHeld e p n s.dev)
    let bad := pieceSeen e p x s.dev
    let free := { s.dev with free := s.dev.free + 1 }
    p < 1440 → n < 4 → Runs s →
    (ch.act = none → ch.shd = some x → rget s.dev pause = 0 → heldCount ch < 4 → ch.stopped.testBit x.c = false →
      Gives (.shadowToActive p n) s (setChan s.dev p n { ch with act := some x, shd := none })) ∧
    (∀ bs, rget s.dev pause = 0 → ch.act = some x → x.discard = false → chSrcSpace x.desc ≤ 1 → chDstSpace x.desc ≤ 1 →
      chLandEn x.desc = false → storeRead s.dev p x.h x.c (chSrcSpace x.desc) (pieceSrc x) (pieceLen x) = .ok bs →
      read.arrivals.any (fun a => a.src = p * 4 + n) = false → storeBeyond read p x.h x.c (chDstSpace x.desc) (pieceDst x) bs.length = none →
      Gives (.dmaReadReturn p n) s (pieces (pieceDone p n x 0
        (storeWrite e p x.h x.c (chDstSpace x.desc) (pieceDst x) (swapBytes (chSwap x.desc) bs) read)))) ∧
    (∀ bs, rget s.dev pause = 0 → ch.act = some x → x.discard = false → chSrcSpace x.desc ≤ 1 → chDstSpace x.desc ≤ 1 →
      chLandEn x.desc = false → storeRead s.dev p x.h x.c (chSrcSpace x.desc) (pieceSrc x) (pieceLen x) = .ok bs →
      read.arrivals.any (fun a => a.src = p * 4 + n) = true → Gives (.dmaReadReturn p n) s (writeHeld e p n s.dev)) ∧
    (∀ bs, rget s.dev pause = 0 → ch.act = some x → x.discard = false → chSrcSpace x.desc ≤ 1 → chDstSpace x.desc = 2 →
      storeRead s.dev p x.h x.c (chSrcSpace x.desc) (pieceSrc x) (pieceLen x) = .ok bs →
      let w := lines (swapBytes (chSwap x.desc) bs)
      Gives (.dmaReadReturn p n) s (pieces (pieceDone p n x (b2n (chBarrier x.desc) * w.length)
        { read with hbmWr := read.hbmWr ++ w }))) ∧
    (∀ sp o, rget s.dev pause = 0 → ch.act = some x → x.discard = false → chSrcSpace x.desc ≤ 1 →
      storeRead s.dev p x.h x.c (chSrcSpace x.desc) (pieceSrc x) (pieceLen x) = .badStore sp o →
      Gives (.dmaReadReturn p n) s (readFail e p x.c (some (x.idx, x.issueNo)) (.badStore sp o)
        (rbit (setChan bad p n (stopXfer x.c x.h x.idx x.issueNo (getChan bad p n))) ⟨.TILE_DMA_UE, p, n, 0⟩))) ∧
    (∀ rest, s.dev.answers = .channel p n x.c x.h x.idx x.issueNo :: rest →
      let dec (y : Xfer) : Xfer := if isXfer x.c x.h x.idx x.issueNo y then { y with unanswered := y.unanswered - 1 } else y
      Gives (.dmaWriteResponse p n) s (setChan { s.dev with answers := rest } p n
        { ch with act := ch.act.map dec, held := ch.held.map dec })) ∧
    (∀ rest, ch.held = x :: rest → (∀ y, ch.act = some y → y.discard = false) → x.complete = false → xferOver x = true →
      (∀ y ∈ rest, y.complete = false) →
      Gives (.dmaTransferComplete p n) s (tellRecord p (setChan s.dev p n { ch with held := rest }) x)) ∧
    (Serves s → Gives (.tileDmaPause p n) s (rset s.dev pause 1) ∧
      Gives (.tileDmaResume p n) s (rset (rset s.dev pause 0) paused 0)) ∧
    (rget s.dev pause = 1 → rget s.dev paused = 0 → ch.act = none → Gives (.dmaPauseDrained p n) s (rset free paused 1)) ∧
    (rget s.dev pause = 1 → rget s.dev paused = 0 → ch.act = some x →
      Gives (.dmaPauseDrained p n) s (rset (drainReads e p n x (Config.freeNat s.dev.free % 257) free) paused 1))

/-- ARRIVING_WRITE_COMMIT (R96, R98). -/
def Obligations.ArrivingWritesCommitOrAreRejected : Prop :=
  ∀ (s : State) (k p h : Nat) (a : Arrival),
    let counter : RegKey := ⟨.TILE_LAND_COUNT, p, landNo h a.land, 0⟩
    let hi := a.off + a.data.length - 1
    Runs s → s.dev.arrivals[k]? = some a → (s.dev.arrivals.take k).any (fun b => b.src = a.src) = false →
    placeOf s.dev a.tile = some (p, h) →
    (∀ c, landOwner s.dev p h a.land = some c → a.space ≤ 1 → a.out = false →
      inShare s.dev p h c a.space a.off hi = true → storeBeyond s.dev p h c a.space a.off a.data.length = none → ∃ t, exec (.arrivingWriteCommit k) s = .next t ∧
        rget t.dev counter = (rget s.dev counter + a.data.length) % 2 ^ 24 ∧
        (∀ q m, ⟨.TILE_LAND_COUNT, q, m, 0⟩ ≠ counter → rget t.dev ⟨.TILE_LAND_COUNT, q, m, 0⟩ = rget s.dev ⟨.TILE_LAND_COUNT, q, m, 0⟩) ∧
        (h = 0 → a.space = 0 → ∀ x, memGet t.dev.ts x =
          if p * 2 ^ 21 + a.off ≤ x ∧ x < p * 2 ^ 21 + a.off + a.data.length then a.data.getD (x - (p * 2 ^ 21 + a.off)) 0
          else memGet s.dev.ts x) ∧
        (h = 0 → a.space = 1 → ∀ x, memGet t.dev.gs x =
          if p * 2 ^ 22 + a.off ≤ x ∧ x < p * 2 ^ 22 + a.off + a.data.length then a.data.getD (x - (p * 2 ^ 22 + a.off)) 0
          else memGet s.dev.gs x)) ∧
    ((∀ c, landOwner s.dev p h a.land = some c → a.out = true ∨ inShare s.dev p h c a.space a.off hi = false) →
      ∃ t, exec (.arrivingWriteCommit k) s = .next t ∧ rget t.dev ⟨.TILE_LAND_REJECT, p, 0, 0⟩ = 1 ∧
        (∀ q m, rget t.dev ⟨.TILE_LAND_COUNT, q, m, 0⟩ = rget s.dev ⟨.TILE_LAND_COUNT, q, m, 0⟩) ∧
        t.dev.ts = s.dev.ts ∧ t.dev.gs = s.dev.gs)

/-- ADVANCE_GROUP_JUDGE (R34, R35, R49) and COLLECTIVE_POSITION_GROUP (R325): each verdict's next state, whole. -/
def Obligations.AdvanceGroupsAreJudged : Prop :=
  ∀ (s : State) (c v : Nat) (vs : List (Option Nat)),
    let e := s.env
    let x := getCtx s.dev c
    let d := setCtx s.dev c { x with judged := x.judged + 1 }
    let first := (vs.filterMap id).head? = some v
    let same := ∀ y ∈ vs, y = some v
    let limit := rcStep v = 2 ^ 40 - 1
    let bad (cls : Nat) (r : RegKey) (syn : Nat) : Dev := failWith e c 8 { cls := cls, level := 4, kind := 8, syn := syn } (rset d r 1)
    let stopped := failWith e c 8 { cls := 0x0302, level := 4, kind := 8, syn := v } { rset d ⟨.CLK_STEP_LIMIT, 0, 0, 0⟩ 1 with rcStopped := true }
    c < 8 → Runs s → s.dev.rcStopped = false → groupValues s.dev c x.judged = some vs → first →
    (pacingCtx s.dev = some c →
      (same → ¬ limit → s.dev.rc < v → Gives .advanceGroupJudge s (takeCoord e c v d)) ∧
      (¬ same → Gives .advanceGroupJudge s (bad 0x0301 ⟨.CLK_BAD_ADVANCE, 0, 0, 0⟩ v)) ∧
      (same → ¬ limit → v ≤ s.dev.rc → Gives .advanceGroupJudge s (bad 0x0301 ⟨.CLK_BAD_ADVANCE, 0, 0, 0⟩ v)) ∧
      (same → limit → Gives .advanceGroupJudge s stopped)) ∧
    (pacingCtx s.dev ≠ some c →
      (same → ¬ limit → x.pos < v →
        Gives (.collectivePositionGroup c) s (updCtx (ratioLeaves c x.pos d) c (fun y => { y with pos := v }))) ∧
      (¬ same → Gives (.collectivePositionGroup c) s (bad 0x0305 ⟨.LNK_COL_POS_BAD, c, 0, 0⟩ 0)) ∧
      (same → ¬ limit → v ≤ x.pos → Gives (.collectivePositionGroup c) s (bad 0x0305 ⟨.LNK_COL_POS_BAD, c, 0, 0⟩ 0)) ∧
      (same → limit → Gives (.collectivePositionGroup c) s stopped))

/-- R34, R39: the coordinate and the table of armed events after a group is taken. -/
def Obligations.EventsFireWhenTheCoordinateReachesThem : Prop :=
  ∀ (s : State) (c v : Nat) (vs : List (Option Nat)),
    Runs s → s.dev.rcStopped = false → pacingCtx s.dev = some c → groupValues s.dev c (getCtx s.dev c).judged = some vs →
    some v ∈ vs → (∀ y ∈ vs, y = some v) → rcStep v ≠ 2 ^ 40 - 1 → s.dev.rc < v →
    ∃ t, exec .advanceGroupJudge s = .next t ∧ t.dev.rc = v ∧
      ∀ b ∈ t.dev.armed, ∃ a ∈ s.dev.armed, b = { a with fired := b.fired } ∧ (a.coord ≤ v → b.fired = true) ∧
        ((∀ x ∈ s.dev.armed, x.slot = a.slot → v < x.coord) → b.fired = a.fired)

/-- CLK_ARM_GO (R38, R51, R52): the reasons of a refusal and the lowest of their codes, or the entry armed. Which free place the entry
takes is the model's choice: a free value decides (notes/assumptions/93.md). -/
def Obligations.ArmRequestsAreRefusedForTheLowestCode : Prop :=
  ∀ (s : State),
    let get (r : Reg) : Nat := rget s.dev ⟨r, 0, 0, 0⟩
    let coord := get .CLK_ARM_COORD
    let kind := get .CLK_ARM_KIND
    let ctx := get .CLK_ARM_CTX
    let holds (k : Nat) : Prop :=
      (k = 1 ∧ 256 ≤ s.dev.armed.length) ∨ (k = 2 ∧ (kind = 0 ∨ 8 ≤ kind ∨ 9 ≤ bitsOf coord 23 20)) ∨
      (k = 3 ∧ kindAllows kind coord = false) ∨ (k = 4 ∧ coord ≤ s.dev.rc) ∨
      (k = 5 ∧ ∃ a ∈ s.dev.armed, a.fired = false ∧ a.kind = kind ∧ a.ctx = ctx ∧ a.coord = coord)
    Serves s →
    (∀ k, holds k → (∀ j, j < k → ¬ holds j) → Gives .clkArmGo s (rset s.dev ⟨.CLK_ARM_RES_CODE, 0, 0, 0⟩ k)) ∧
    ((∀ k, ¬ holds k) → ∃ slot, slot < 256 ∧ (∀ a ∈ s.dev.armed, a.slot ≠ slot) ∧
      Gives .clkArmGo s (rset { rset s.dev ⟨.CLK_ARM_RES_CODE, 0, 0, 0⟩ 0 with armed := s.dev.armed ++ [⟨slot, coord, kind, ctx, get .CLK_ARM_ACTION, false⟩], free := s.dev.free + 1 }
        ⟨.CLK_ARM_RES_SLOT, 0, 0, 0⟩ slot))

/-- CLK_ARM_CANCEL (R41, R447), CLK_RC_SET_GO (R43, R52). That a reserved phase is reported before a context that runs is the model's
choice (notes/assumptions/110.md). -/
def Obligations.CancelsAndSetsAreJudged : Prop :=
  ∀ (s : State) (a : Armed),
    let slot := rget s.dev ⟨.CLK_ARM_SLOT, 0, 0, 0⟩
    let v := rget s.dev ⟨.CLK_RC_SET, 0, 0, 0⟩
    let res (k : Nat) (d : Dev) : Dev := rset d ⟨.CLK_ARM_RES_CODE, 0, 0, 0⟩ k
    let busy := ∃ c < 8, ctxState s.dev c = 2 ∨ ctxState s.dev c = 4
    Serves s →
    (s.dev.armed.find? (fun x => x.slot = slot) = some a → a.fired = false →
      Gives .clkArmCancel s (res 0 { s.dev with armed := s.dev.armed.filter (fun x => x.slot ≠ slot) })) ∧
    (s.dev.armed.find? (fun x => x.slot = slot) = some a → a.fired = true → Gives .clkArmCancel s (res 6 s.dev)) ∧
    ((∀ x ∈ s.dev.armed, x.slot ≠ slot) → Gives .clkArmCancel s (res 7 s.dev)) ∧
    (9 ≤ rcPhase v → Gives .clkRcSetGo s (rset (res 2 s.dev) ⟨.CLK_BAD_SET, 0, 0, 0⟩ 1)) ∧
    (rcPhase v < 9 → busy → Gives .clkRcSetGo s (rset (res 8 s.dev) ⟨.CLK_BAD_SET, 0, 0, 0⟩ 1)) ∧
    (rcPhase v < 9 → ¬ busy → Gives .clkRcSetGo s (setCoord s.env v (res 0 s.dev)))

/-- PLACEMENT_CHANGE (R40, R43, R169, R208, R362), SNAPSHOT_FRAME_WRITE (R420). How a set takes changes back is the model's reading
(notes/assumptions/105.md). -/
def Obligations.PlacementsChangeAndSnapshotsAreWritten : Prop :=
  ∀ (s : State) (ms : List Move) (gone : List Nat) (f : Snap),
    let e := s.env
    let frames := rget s.dev ⟨.MON_SNAP_FRAMES, 0, 0, 0⟩
    let a := rbase s.dev ⟨.MON_SNAP_ADDR, 0, 0, 0⟩ + 0x8000 * (if frames = 0 then 0 else f.num % frames)
    let d := { s.dev with snap := none }
    let d1 := ms.foldl (fun x m => clearPlace x m.fromP m.fromH) s.dev
    let d2 := ms.foldl vacate (ms.foldl (moveState e s.dev) (ms.foldl (nameTile s.dev) d1))
    (ms.all (fun m => m.fromP < 1440 && m.fromH < 2 && m.toP < 1440 && m.toH < 2)) = true → (∀ p ∈ gone, p < 1440) → Runs s →
    (ms = [] → s.dev.undo = [] → s.dev.placeDue = [] → Gives (.placementChange ms gone) s (gone.foldl retireTile s.dev)) ∧
    (∀ v due, s.dev.undo = [] → s.dev.placeDue = v :: due → movesOk s.dev ms = true → transfersOver s.dev = true →
      (∀ m ∈ ms, placeQuiet s.dev m.fromP m.fromH = true) →
      Gives (.placementChange ms gone) s (gone.foldl retireTile
        { d2 with placeDue := due, mapLog := s.dev.mapLog ++ [(v, ms)] })) ∧
    (∀ back, s.dev.undo = [back] → s.dev.placeDue = [] → movesOk s.dev back = true → movesQuiet s.dev back = true →
      Gives (.placementChange [] gone) s (gone.foldl retireTile { makeMoves e back s.dev with undo := [] })) ∧
    (s.dev.snap = some f → inTabok a f.data.length = true → 64 ≤ f.data.length → Gives .snapshotFrameWrite s
      (rset { d with lp := memWrite (memWrite s.dev.lp (a + 64) (f.data.drop 64)) a (f.data.take 64) } ⟨.MON_SNAP_COUNT, 0, 0, 0⟩ (f.num + 1))) ∧
    (s.dev.snap = some f → inTabok a f.data.length = false → Gives .snapshotFrameWrite s
      (satAdd e ⟨.MON_SNAP_MISSED, 0, 0, 0⟩ 1 (hostAccess e a true d)))

/-- FLIT_RX (R285 to R287, R292), FLIT_SEND (R293, R298), REPLAY_TIMEOUT (R293), RETRY_EXHAUSTED (R294). -/
def Obligations.FlitsAreSentReplayedAndTaken : Prop :=
  ∀ (s : State) (n : Nat) (block : List Byte),
    let e := s.env
    let flit := (flitOf block).1
    let d0 := satAdd e ⟨.LNK_FEC_UNCORR, n, 0, 0⟩ (flitOf block).2.2 (satAdd e ⟨.LNK_FEC_CORR, n, 0, 0⟩ (flitOf block).2.1 s.dev)
    let good := crc32c (flit.take 428) = leNat ((flit.drop 428).take 4)
    let h := leNat (flit.take 8)
    let d1 := updLink d0 n (fun l => takeCredit (bitsOf h 55 44) (takeCredit (bitsOf h 43 32) (takeAck h l)))
    let expected := (flitOf block).2.2 = 0 ∧ bitsOf h 11 0 = (getLink d1 n).rxNext
    let l := getLink s.dev n
    n < 36 → Runs s → linkUp s.dev n = true →
    (¬ good → Gives (.flitRx n block) s (rejectFlit n (satAdd e ⟨.LNK_CRC_BAD, n, 0, 0⟩ 1 d0))) ∧
    (good → h.testBit 26 = true → Gives (.flitRx n block) s d1) ∧
    (good → h.testBit 26 = false → expected → Gives (.flitRx n block) s (acceptFlit e n h ((flit.drop 8).take 420) d1)) ∧
    (good → h.testBit 26 = false → ¬ expected → Gives (.flitRx n block) s (rejectFlit n d1)) ∧
    (∀ i f, l.resend = some i → l.replay[i]? = some f → Gives (.flitSend n) s (pumpAll e (resendFlit e n i f s.dev))) ∧
    (l.resend = none → Gives (.flitSend n) s (pumpAll e (newFlit e n s.dev))) ∧
    (l.replay ≠ [] → Gives (.replayTimeout n) s (setLink s.dev n { l with resend := some 0 })) ∧
    ((∃ f ∈ l.replay, 9 ≤ f.sends) → Gives (.retryExhausted n) s
      (startRetrain n (logError e (linkErr 0x0402 n n) (rset s.dev ⟨.LNK_RETRY_EXH, n, 0, 0⟩ 1))))

/-- R292: what the receiver does with its expected value and its buffers. -/
def Obligations.OnlyTheExpectedFlitIsAccepted : Prop :=
  ∀ (s : State) (n : Nat) (block : List Byte),
    let flit := (flitOf block).1
    let good := crc32c (flit.take 428) = leNat ((flit.drop 428).take 4)
    let h := leNat (flit.take 8)
    let null := h.testBit 26 = true
    let l := getLink s.dev n
    let taken := good ∧ ¬ null ∧ (flitOf block).2.2 = 0 ∧ bitsOf h 11 0 = l.rxNext
    n < 36 → Runs s → linkUp s.dev n = true →
    ∃ t, exec (.flitRx n block) s = .next t ∧
      (taken → (getLink t.dev n).rxNext = (l.rxNext + 1) % 4096 ∧ (getLink t.dev n).rejecting = false) ∧
      (¬ taken → (getLink t.dev n).rxNext = l.rxNext ∧ (getLink t.dev n).rx = l.rx) ∧
      (good → null → (getLink t.dev n).rejecting = l.rejecting ∧ (getLink t.dev n).nak = l.nak) ∧
      (¬ taken → ¬ (good ∧ null) → (getLink t.dev n).rejecting = true ∧ ((getLink t.dev n).nak = (l.nak || !l.rejecting)))

/-- R288: packets as bytes, and read back. -/
def Obligations.PacketsReadBackFromTheirBytes : Prop :=
  ∀ (ps : List Pkt) (rest : List Byte),
    (∀ p ∈ ps, p.dst < 2 ^ 16 ∧ p.src < 2 ^ 16 ∧ p.vc < 4 ∧ p.dlc < 2 ∧ p.type < 2 ^ 6 ∧ p.birth < 2 ^ 16 ∧ p.body < 2 ^ 64 ∧
      p.e2e < 2 ^ 32 ∧ p.data.length % 16 = 0 ∧ p.data.length < 512) →
    takePkts ps.length (ps.flatMap pktBytes ++ rest) = ps

/-- LINK_TRAINING_END, LINK_TRAINING_RESTART, LINK_RETRAIN_END, LINK_RETRAIN_TIMEOUT, LNK_EN_SET, LNK_EN_CLEAR,
LNK_RETRAIN_GO, LNK_LANE_RETIRE (R300). REFCLK100_A_LOSS and REFCLK100_A_RETURN (R382, R383). The model's choices: what was sent counts
as not sent when a retrain ends (notes/assumptions/27.md), a link that fails its first training trains again (48.md), and what becomes
of each link, port and domain when REFCLK100_A goes and comes (85.md). -/
def Obligations.LinksTrainRetrainStopAndLoseTheirClock : Prop :=
  (∀ (s : State) (n lanes : Nat) (v : Word),
      let e := s.env
      let at_ := rget s.dev ⟨.LNK_STATE, n, 0, 0⟩
      let en : RegKey := ⟨.LNK_EN, n, 0, 0⟩
      let put (k : Nat) (d : Dev) : Dev := rset d ⟨.LNK_STATE, n, 0, 0⟩ k
      let up := lanesUp s.dev n lanes
      let upDev := rset (put 2 s.dev) ⟨.LNK_LANES, n, 0, 0⟩ up
      let again (l : Link) : Link := { l with resend := if l.replay.isEmpty then none else some 0, replay := l.replay.map (fun f => { f with sends := 0 }) }
      n < 36 → Runs s →
      (at_ = 1 → 4 ≤ up → Gives (.linkTrainingEnd n lanes) s
        (linkIrq (askMeasure e n (setLink upDev n (freshLink upDev n (getLink upDev n)))))) ∧
      (at_ = 1 → up < 4 → Gives (.linkTrainingEnd n lanes) s
        (updLink (linkDown e n 2 s.dev) n (fun l => { l with again := true }))) ∧
      (at_ = 0 → rget s.dev en = 1 → (getLink s.dev n).again = true → Gives (.linkTrainingRestart n) s (put 1 s.dev)) ∧
      (at_ = 3 → 4 ≤ up → Gives (.linkRetrainEnd n lanes) s (updLink upDev n again)) ∧
      (at_ = 3 → up < 4 → Gives (.linkRetrainEnd n lanes) s
        (linkIrq (linkDown e n 1 (rset s.dev ⟨.LNK_RETRAIN_FAIL, n, 0, 0⟩ 1)))) ∧
      (at_ = 3 → Gives (.linkRetrainTimeout n) s (linkIrq (linkDown e n 1 (rset s.dev ⟨.LNK_RETRAIN_FAIL, n, 0, 0⟩ 1)))) ∧
      (Serves s → linkAllowed s.dev n = true → at_ = 4 → Gives (.lnkEnSet n) s (put 1 (rset s.dev en 1))) ∧
      (Serves s → linkAllowed s.dev n = true → at_ ≠ 4 → Gives (.lnkEnSet n) s (rset s.dev en 1)) ∧
      (Serves s → linkAllowed s.dev n = false → Gives (.lnkEnSet n) s (regAccess e (0x400000 + 0x1000 * n + 4) true s.dev)) ∧
      (Serves s → Gives (.lnkEnClear n) s (linkLeaves e n 4 (rset s.dev en 0))) ∧
      (Serves s → at_ = 2 → Gives (.lnkRetrainGo n) s (put 3 s.dev)) ∧
      (Serves s → at_ = 2 → Gives (.lnkLaneRetire n v) s (put 3 (rset s.dev ⟨.LNK_LANE_RETIRE, n, 0, 0⟩ v.toNat))) ∧
      (Serves s → at_ ≠ 2 → Gives (.lnkLaneRetire n v) s (rset s.dev ⟨.LNK_LANE_RETIRE, n, 0, 0⟩ v.toNat))) ∧
  (∀ (s : State),
      let dom (r : Reg) (k : Nat) : RegKey := ⟨r, k, 0, 0⟩
      let held : Clock := { s.clk with rate := ratePpm s.clk, trim := 0 }
      let e : Env := ⟨held, s.nv⟩
      let lost := [4, 5, 6, 7, 15].foldl (fun d k => match rget d (dom .CLK_DOM_STATE k) with
        | 1 => rset d (dom .CLK_DOM_STATE k) 3
        | 2 => satAdd e (dom .CLK_DOM_LOSS k) 1 (rset d (dom .CLK_DOM_STATE k) 3)
        | _ => d) s.dev
      let ports := (List.range 4).foldl (fun d p => if rget d (dom .ETH_PORT_STATE p) = 3 then d else rset d (dom .ETH_PORT_STATE p) 0) lost
      let links := (List.range 36).foldl (fun d n =>
        if rget d (dom .LNK_STATE n) = 4 ∨ rget d (dom .LNK_STATE n) = 0 then d else linkLeaves e n 0 d) ports
      Runs s →
      exec .refclk100ALoss s = .next { s with clk := held, dev := inCycle s.dev links } ∧
      Gives .refclk100AReturn s ([4, 5, 6, 7, 15].foldl (fun d k =>
        if rget d (dom .CLK_DOM_STATE k) = 3 then rset d (dom .CLK_DOM_STATE k) 1 else d) s.dev))

/-- HEARTBEAT_SEND, HEARTBEAT, HEARTBEAT_MISSED (R301, R302), MEASURE (R304), IDENTITY (R306), TIME_SEND (R303). TIME (R305, R46). The model's choices: the parent is the link of LNK_HOIST_PARENT and a sixteenth of
the delay is rounded down (notes/assumptions/97.md), a HEARTBEAT goes to Tabok software through the outbox (47.md), a first TIME
below the count holds it (5.md), and the rate after the first (45.md). -/
def Obligations.LinkControlPacketsAct : Prop :=
  (∀ (s : State) (n x : Nat) (p : Pkt) (d : Dev),
      let e := s.env
      let w := leNat p.data
      let put (r : Reg) (v : Nat) (d : Dev) : Dev := rset d ⟨r, n, 0, 0⟩ v
      let nbr := put .LNK_NBR_VALID (bitsOf w 95 95) (put .LNK_NBR_LINK (bitsOf w 94 89) (put .LNK_NBR_SLOT (bitsOf w 88 83)
        (put .LNK_NBR_STEP (bitsOf w 82 82) (put .LNK_NBR_GRADE (bitsOf w 81 81) (put .LNK_NBR_ADDR_V (bitsOf w 80 80)
          (put .LNK_NBR_ADDR (bitsOf w 79 64) (put .LNK_NBR_SERIAL (bitsOf w 63 0) d)))))))
      let left := (getLink (put .LNK_DELAY ((x - bitsOf p.body 15 0) / 2) (put .LNK_RTT x d)) n).measures - 1
      let timed := updLink (put .LNK_DELAY ((x - bitsOf p.body 15 0) / 2) (put .LNK_RTT x d)) n (fun l => { l with measures := left })
      let beat := leBytes (packFields [(64, s.dev.rc), (16, rget s.dev ⟨.LNK_LIVE, 0, 0, 0⟩), (1, b2n (!s.dev.fatals.isEmpty)), (47, 0)]) 16
      n < 36 → Runs s →
      (linkUp s.dev n = true → Gives (.heartbeatSend n) s (sendCtl n (ctlPkt e s.dev 0x20 0 beat) s.dev)) ∧
      (takeCtl s.dev n 0x20 = some (p, d) → Gives (.heartbeat n) s
        { d with outbox := d.outbox ++ [.heartbeat n (bitsOf w 63 0) (bitsOf w 79 64) (w.testBit 80)] }) ∧
      (linkUp s.dev n = true → Gives (.heartbeatMissed n) s (linkIrq (linkDown e n 0 (rset s.dev ⟨.LNK_HB_MISS, n, 0, 0⟩ 1)))) ∧
      (takeCtl s.dev n 0x25 = some (p, d) → p.body.testBit 16 = false → Gives (.measure n x) s
        (sendCtl n (ctlPkt e d 0x25 (x % 65536 + 65536) []) d)) ∧
      (takeCtl s.dev n 0x25 = some (p, d) → p.body.testBit 16 = true → left ≠ 0 → Gives (.measure n x) s (askMeasure e n timed)) ∧
      (takeCtl s.dev n 0x25 = some (p, d) → p.body.testBit 16 = true → left = 0 → Gives (.measure n x) s (sendIdentity e n timed)) ∧
      (takeCtl s.dev n 0x21 = some (p, d) → Gives (.identity n) s nbr) ∧
      (linkUp s.dev n = true → ftSynced s.dev = true → (rget s.dev ⟨.LNK_HOIST_CHILD, 0, 0, 0⟩).testBit n = true →
        Gives (.timeSend n) s (sendCtl n (ctlPkt e s.dev 0x22 s.clk.ft []) s.dev))) ∧
  (∀ (s : State) (n : Nat) (p : Pkt) (d : Dev),
      let t := p.body + rget d ⟨.LNK_DELAY, n, 0, 0⟩ / 16
      let synced := rset d ⟨.CLK_FT_SYNCED, 0, 0, 0⟩ 1
      let parent := rget d ⟨.LNK_HOIST_PARENT, 0, 0, 0⟩ = n
      let off := (t : Int) - s.clk.ft
      let ppm := s.clk.rate + (off * 1000000).tdiv ((s.clk.ns - s.clk.seen : Nat) : Int)
      let got : Clock := { s.clk with seen := s.clk.ns }
      n < 36 → Runs s → takeCtl s.dev n 0x22 = some (p, d) →
      (¬ parent → exec (.time n) s = .next { s with dev := d }) ∧
      (parent → ftSynced d = false → s.clk.ft ≤ t →
        exec (.time n) s = .next { s with dev := synced, clk := { got with ft := t, trim := 0 } }) ∧
      (parent → ftSynced d = false → t < s.clk.ft →
        exec (.time n) s = .next { s with dev := synced, clk := { got with hold := s.clk.ft - t, trim := 0 } }) ∧
      (parent → ftSynced d = true → s.clk.hold ≠ 0 →
        exec (.time n) s = .next { s with dev := synced, clk := { got with hold := s.clk.ft - t, trim := max 0 off } }) ∧
      (parent → ftSynced d = true → s.clk.hold = 0 → s.clk.trim ≠ 0 →
        exec (.time n) s = .next { s with dev := synced, clk := { got with trim := off } }) ∧
      (parent → ftSynced d = true → s.clk.hold = 0 → s.clk.trim = 0 →
        exec (.time n) s = .next { s with dev := synced, clk := { got with trim := off, rate := max (-200) (min 200 ppm) } }))

/-- LNK_HOIST_ENTER, HOIST_UP, HOIST_DOWN, HOIST_RELEASE, HOIST_TIMEOUT, LNK_HOIST_ABANDON (R314), HOIST_WIRED_RELEASE (R316). -/
def Obligations.HoistsRunAsTheirTableStates : Prop :=
  ∀ (s : State) (n : Nat) (p : Pkt) (d : Dev),
    let e := s.env
    let get (r : Reg) : Nat := rget s.dev ⟨r, 0, 0, 0⟩
    let st := get .LNK_HOIST_STATE
    let own (d : Dev) : Prop := rget d ⟨.LNK_HOIST_WIRED, 0, 0, 0⟩ ≠ 1 ∧ bitsOf p.body 7 0 = rget d ⟨.LNK_HOIST_ID, 0, 0, 0⟩
    let down := own d ∧ rget d ⟨.LNK_HOIST_STATE, 0, 0, 0⟩ = 2 ∧ rget d ⟨.LNK_HOIST_PARENT, 0, 0, 0⟩ = n
    let put (k : Nat) (d : Dev) : Dev := rset d ⟨.LNK_HOIST_STATE, 0, 0, 0⟩ k
    let named (d : Dev) : Nat := n * 256 + rget d ⟨.LNK_HOIST_ID, 0, 0, 0⟩
    let released := (List.range 8).foldl (fun d c => judgeHead e c d) (put 3 { s.dev with hoistArrived := false, hoistUps := [] })
    let err : Err := { cls := 0x0407, level := 4, kind := 2, syn := get .LNK_HOIST_ID }
    let failed := linkIrq (put 4 { logError e err s.dev with hoistArrived := false, hoistUps := [] })
    n < 36 → Runs s →
    (Serves s → st = 0 → Gives .lnkHoistEnter s (hoistAllUp e { put 1 s.dev with pins := { s.dev.pins with hoistOut := false } })) ∧
    (takeCtl s.dev n 0x23 = some (p, d) → own d → Gives (.hoistUp n) s
      (hoistAllUp e { d with hoistUps := if named d ∈ d.hoistUps then d.hoistUps else d.hoistUps ++ [named d] })) ∧
    (takeCtl s.dev n 0x23 = some (p, d) → ¬ own d → Gives (.hoistUp n) s d) ∧
    (takeCtl s.dev n 0x24 = some (p, d) → down → Gives (.hoistDown n) s (sendHoistDown e d)) ∧
    (takeCtl s.dev n 0x24 = some (p, d) → ¬ down → Gives (.hoistDown n) s d) ∧
    (s.dev.hoistArrived = true → st = 1 ∨ st = 2 → Gives .hoistRelease s released) ∧
    (get .LNK_HOIST_WIRED = 1 → st = 1 → pinsTaken s.dev = false → Gives .hoistWiredRelease s released) ∧
    (st = 1 ∨ st = 2 → Gives .hoistTimeout s failed ∧ (Serves s → Gives .lnkHoistAbandon s failed))

/-- R314: HOIST_UP from the last child. -/
def Obligations.TheRootPassesTheHoistDown : Prop :=
  ∀ (s : State) (n : Nat) (p : Pkt) (d : Dev),
    let get (r : Reg) : Nat := rget d ⟨r, 0, 0, 0⟩
    let sent (t : Dev) (m k : Nat) : Prop := (getLink t m).ctl = (getLink d m).ctl ++ [ctlPkt s.env d k (get .LNK_HOIST_ID) []]
    n < 36 → Runs s → takeCtl s.dev n 0x23 = some (p, d) → get .LNK_HOIST_WIRED = 0 → bitsOf p.body 7 0 = get .LNK_HOIST_ID →
    get .LNK_HOIST_STATE = 1 → d.hoistArrived = false → (∀ m ∈ hoistChildren d, m = n ∨ m * 256 + get .LNK_HOIST_ID ∈ d.hoistUps) →
    (get .LNK_HOIST_PARENT < 36 → ∃ t, exec (.hoistUp n) s = .next t ∧ rget t.dev ⟨.LNK_HOIST_STATE, 0, 0, 0⟩ = 2 ∧
      sent t.dev (get .LNK_HOIST_PARENT) 0x23 ∧
      ∀ m, m ≠ get .LNK_HOIST_PARENT → (getLink t.dev m).ctl = (getLink d m).ctl) ∧
    (get .LNK_HOIST_PARENT = 63 → ∃ t, exec (.hoistUp n) s = .next t ∧ rget t.dev ⟨.LNK_HOIST_STATE, 0, 0, 0⟩ = 1 ∧
      t.dev.hoistArrived = true ∧ ∀ m, if m ∈ hoistChildren d then sent t.dev m 0x24 else (getLink t.dev m).ctl = (getLink d m).ctl)

/-- WRITE (R290), WRITE_ACK (R289, R299), UNDELIV (R291): buffer n, class cls, the packet q at the head, the device d
without it. HOLD_LIMIT and TAG_TIMEOUT (R299). -/
def Obligations.RoutedPacketsEndOrRunOut : Prop :=
  (∀ (s : State) (n cls : Nat) (q : Queued) (d : Dev),
      let e := s.env
      let p := q.pkt
      let ends (v type : Nat) : Prop := takeHead s.dev n v (fun x => x.pkt.type = type && routeOf s.dev n x = .here) = some (q, d)
      let whole := pktE2E p = p.e2e
      let unit_ := linkOr n d
      let counted := logError e (linkErr 0x0404 unit_.1 p.src) (satAdd e ⟨.LNK_E2E_BAD, 0, 0, 0⟩ 1 unit_.2)
      let broken := if n < 36 then satAdd e ⟨.LNK_UNDELIV, n, 0, 0⟩ 1 counted else counted
      let lost := if p.vc = 0 then injectPkt e none (undelivOf e broken p 5) broken else broken
      let freed (t : Nat) : Dev := { d with tags := d.tags.filter (fun y => y.1 ≠ t) }
      n ≤ 36 → cls < 2 → Runs s →
      (ends cls 1 → ¬ whole → Gives (.write n cls) s lost) ∧
      (ends (2 + cls) 2 → ¬ whole → Gives (.writeAck n cls) s lost) ∧
      (ends (2 + cls) 3 → ¬ whole → Gives (.undeliv n cls) s lost) ∧
      (ends cls 1 → whole → writeOk p = true → Gives (.write n cls) s { d with arrivals := d.arrivals ++ [writeArrival p] }) ∧
      (ends cls 1 → whole → writeOk p = false → Gives (.write n cls) s (writeMalformed e (writeArrival p) d)) ∧
      (∀ x, ends (2 + cls) 2 → whole → d.tags.find? (fun x => x.1 = bitsOf p.body 63 48) = some x → bitsOf p.body 1 0 = 0 →
        Gives (.writeAck n cls) s (ownerLanded x.2 (freed x.1))) ∧
      (∀ x, ends (2 + cls) 2 → whole → d.tags.find? (fun x => x.1 = bitsOf p.body 63 48) = some x → bitsOf p.body 1 0 ≠ 0 →
        Gives (.writeAck n cls) s (ownerFailed e x.2 0 (freed x.1))) ∧
      (ends (2 + cls) 2 → whole → (∀ x ∈ d.tags, x.1 ≠ bitsOf p.body 63 48) →
        Gives (.writeAck n cls) s (satAdd e ⟨.LNK_LATE_RESP, 0, 0, 0⟩ 1 d)) ∧
      (ends (2 + cls) 3 → whole → Gives (.undeliv n cls) s (tagFailed e (bitsOf p.body 63 48) (bitsOf p.body 9 6) d))) ∧
  (∀ (s : State) (n vc pos t : Nat) (q : Queued) (o : WrOwner),
      let e := s.env
      let waits := ((getLink s.dev n).rx.filter (fun x => pktVc x.pkt = vc))[pos]? = some q
      let out := updLink s.dev n (fun l => { l with rx := l.rx.erase q })
      n ≤ 36 → vc < 8 → t < 65536 → Runs s →
      (waits → q.pkt.vc ≠ 3 → Gives (.holdLimit n vc pos) s (freeWords n q.pkt (undeliver e n 4 q out))) ∧
      (waits → q.pkt.vc = 3 → Gives (.holdLimit n vc pos) s s.dev) ∧
      (s.dev.tags.find? (fun x => x.1 = t) = some (t, o) → Gives (.tagTimeout t) s
        (ownerFailed e o 4 { s.dev with tags := s.dev.tags.filter (fun x => x.1 ≠ t) })) ∧
      ((∀ x ∈ s.dev.tags, x.1 ≠ t) → Gives (.tagTimeout t) s s.dev))

/-- COLLECTIVE_ENTRY_START (R326). COLLECTIVE_DONE (R333), COLLECTIVE_STALL (R334), TEST_RCP_GO (R354), TEST_RCP_ABORT (R368). -/
def Obligations.CollectivesStartAndEnd : Prop :=
  (∀ (s : State) (c : Nat) (bs : List Byte),
      let e := s.env
      let d := nextWalk c s.dev
      let x := getCtx d c
      let at_ := rbase d ⟨.LNK_COL_TBL, c, 0, 0⟩ + 64 * x.walkNext
      let taken (d : Dev) : Dev := updCtx d c (fun x => { x with walkNext := x.walkNext + 1 })
      let read := taken (hbmDone e at_ 64 d)
      let turn := x.walkNext < tableSize d c ∧ x.walkStep ≤ rcStep (colPos d c) ∧ (d.cols.filter (fun y => y.c = c)).length < 16
      c < 8 → Runs s → ctxLoaded s.dev c = true → tableSize s.dev c ≠ 0 → turn →
      (∀ i, hbmRead d at_ 64 = .ok bs → enTrigger x.walkStep (leNat bs) ≤ colPos d c → enMember (myRank read) (leNat bs) = some i →
        Gives (.collectiveEntryStart c) s (openEntry e c (leNat bs) x.walkStep i read)) ∧
      (hbmRead d at_ 64 = .ok bs → enTrigger x.walkStep (leNat bs) ≤ colPos d c → enMember (myRank read) (leNat bs) = none →
        Gives (.collectiveEntryStart c) s read) ∧
      (hbmRead d at_ 64 = .ok bs → colPos d c < enTrigger x.walkStep (leNat bs) → Gives (.collectiveEntryStart c) s d) ∧
      (∀ r, hbmRead d at_ 64 = r → (∀ y, r ≠ .ok y) → Gives (.collectiveEntryStart c) s (entryUnread e c x.walkStep x.walkNext r (taken d)))) ∧
  (∀ (s : State) (k : Nat) (x : Col),
      let e := s.env
      let get (r : Reg) : Nat := rget s.dev ⟨r, 0, 0, 0⟩
      let closed := { s.dev with cols := s.dev.cols.filter (fun y => y.handle ≠ x.handle) }
      let free := ∀ c < 8, ctxState s.dev c = 0 ∨ ctxState s.dev c = 1 ∨ ctxState s.dev c = 3
      let img := recoveryImage s.dev
      let started := rset (rset s.dev ⟨.TEST_RCP_STATE, 0, 0, 0⟩ 1) ⟨.TEST_RCP_CAUSE, 0, 0, 0⟩ 0
      let refused := regAccess e (regOffset ⟨.TEST_RCP_GO, 0, 0, 0⟩) true s.dev
      k < 129 → Runs s →
      (s.dev.cols[k]? = some x → colOver s.dev x = true → x.c < 8 → Gives (.collectiveDone k) s
        (satAdd e ⟨.LNK_COL_DONE, x.c, 0, 0⟩ 1 { closed with arrivals := s.dev.arrivals ++ doneArrivals closed x })) ∧
      (s.dev.cols[k]? = some x → colOver s.dev x = true → 8 ≤ x.c → Gives (.collectiveDone k) s (rset closed ⟨.TEST_RCP_STATE, 0, 0, 0⟩ 2)) ∧
      (s.dev.cols[k]? = some x → (∃ y ∈ x.streams, y.started = true ∧ unfinished s.dev x y = true) →
        Gives (.collectiveStall k) s (failHandle e x.handle 3 false s.dev)) ∧
      (Serves s → free → get .TEST_RCP_STATE ≠ 1 → enMalformed img = false → idOpen s.dev img = false →
        Gives .testRcpGo s (openPermute e 8 img (get .TEST_RCP_STEP) 0 started)) ∧
      (Serves s → free → get .TEST_RCP_STATE ≠ 1 → enMalformed img = true ∨ idOpen s.dev img = true →
        let a := addCol 8 img (get .TEST_RCP_STEP) 0 [] started
        Gives .testRcpGo s (failHandle e a.1 7 false a.2)) ∧
      (Serves s → ¬ free ∨ get .TEST_RCP_STATE = 1 → Gives .testRcpGo s refused) ∧
      (Serves s → s.dev.cols.find? (fun y => y.c = 8) = some x → Gives .testRcpAbort s (failHandle e x.handle 6 false s.dev)))

/-- COL_DATA, COL_CREDIT (R331), PERM_DATA (R332), COL_ABORT (R335); stale packets (R336) and early credits (R331). -/
def Obligations.CollectivePacketsAreMatched : Prop :=
  ∀ (s : State) (n cls : Nat) (p : Pkt) (d : Dev) (x : Col),
    let e := s.env
    let comes (vc type : Nat) : Prop := takeHere e n (2 * vc + cls) type s.dev = (some p, d)
    let open_ := d.cols.find? (fun y => enId y.img = bitsOf p.body 59 44)
    let unit_ := linkOr n d
    let same := bitsOf p.body 43 0 = bitsOf (colKey x) 43 0
    let stale := colStale e n p d
    let early := { d with early := d.early ++ [{ pkt := p, via := if n < 36 then some n else none }] }
    n ≤ 36 → cls < 2 → Runs s →
    (comes 2 4 → open_ = some x → same → Gives (.colData n cls) s (dataArrives e x n p d)) ∧
    (comes 1 5 → open_ = some x → same → Gives (.colCredit n cls) s (creditArrives e x n p d)) ∧
    (comes 2 6 → open_ = some x → same → Gives (.permData n cls) s (pumpAll e (permArrives e x n p d))) ∧
    (comes 1 7 → open_ = some x → same → Gives (.colAbort n cls) s (failCol e x 6 unit_.1 false (peerFrom d x p.src) unit_.2)) ∧
    (comes 2 4 → open_ = some x → ¬ same → Gives (.colData n cls) s (failCol e x 1 unit_.1 false none unit_.2)) ∧
    (comes 1 5 → open_ = some x → ¬ same → Gives (.colCredit n cls) s (failCol e x 1 unit_.1 false none unit_.2)) ∧
    (comes 2 6 → open_ = some x → ¬ same → Gives (.permData n cls) s (pumpAll e (failCol e x 1 unit_.1 false none unit_.2))) ∧
    (comes 1 7 → open_ = some x → ¬ same → Gives (.colAbort n cls) s stale) ∧
    (comes 2 4 → open_ = none → Gives (.colData n cls) s stale) ∧
    (comes 2 6 → open_ = none → Gives (.permData n cls) s (pumpAll e stale)) ∧
    (comes 1 7 → open_ = none → Gives (.colAbort n cls) s stale) ∧
    (comes 1 5 → open_ = none → awaited d (bitsOf p.body 59 0) = true → Gives (.colCredit n cls) s early) ∧
    (comes 1 5 → open_ = none → awaited d (bitsOf p.body 59 0) = false → Gives (.colCredit n cls) s stale)

/-- R322: the sum of received and own bytes, element by element, and whether any addition saturated (R333). -/
def Obligations.OrderedSumsAddElementByElement : Prop :=
  ∀ (n first : Nat) (a b : List Byte),
    let word (l : List Byte) (j : Nat) : Nat := leNat ((l.drop (4 * j)).take 4)
    let add (j : Nat) : Conv := addOp (fpValue vf32 (word a j)) (fpValue vf32 (word b j))
    a.length = 4 * n → b.length = 4 * n →
    (addBytes n first a b).1.length = 4 * n ∧ (∀ j < n, word (addBytes n first a b).1 j = (add j).code) ∧
    ((addBytes n first a b).2.1 = true ↔ ∃ j < n, (add j).ov = true)

/-- POWER_SAMPLE, OVER_BUDGET_STEP_UP and _DOWN (R375), TOKEN_STEP_RECOMPUTE (R374), TOKEN_GRANT (R372), CLOCK_STEP_APPLY (R373),
SENSOR_READ, THERMAL_STEP_UP and _DOWN (R378), THROTTLE_ASSERT and _RELEASE (R376), LOAD_SHED_ENTRY and _EXIT (R377), PWR_BUDGET_W (R386), the values of the calibration tables (R404). That a sample brings the
voltages too is the model's choice (notes/assumptions/119.md), as are the pins under the boundary scan (116.md). -/
def Obligations.PowerArbitrationFollowsItsInputs : Prop :=
  ∀ (s : State) (w mv : Nat) (rails : List Nat) (rs : List Reading) (v : Word) (p h c n : Nat) (x : TokenAsk),
    let e := s.env
    let d := s.dev
    let get (r : Reg) : Nat := rget d ⟨r, 0, 0, 0⟩
    let put (r : Reg) (k : Nat) (d : Dev) : Dev := rset d ⟨r, 0, 0, 0⟩ k
    let input := (rails.zipIdx).foldl (fun d x => rset d ⟨.PWR_RAIL_MV, x.2, 0, 0⟩ x.1) (put .PWR_INPUT_MV mv (put .PWR_INPUT_W w d))
    let above (k : Nat) : Dev := put .PWR_OVER_SEEN 1 { d with kOver := k }
    let warm := put .PWR_THERMAL_SEEN 1 { d with kTherm := d.kTherm + 1 }
    let asked := noteAllAsks e d
    let judged (d : Dev) : Dev := let y := budgetFell e (noteAllAsks e d); { y with kTok := tokenStep y (tokensHeld y) }
    let pin (high : Bool) : Dev := { d with inputs := { d.inputs with throttle := high } }
    let st := getStrm asked p h c
    let i := st.win.findIdx (fun y => y.idx = n && !y.issued && tokenOf y.raw = 1 && !y.token)
    let granted := setStrm asked p h c { st with win := st.win.modify i (fun y => { y with token := true }) }
    let shed := withdrawLovage e (satAdd e ⟨.PWR_SHED_COUNT, 0, 0, 0⟩ 1 (put .PWR_SHED_SEEN 1 (put .PWR_SHED 1 (put .PWR_INPUT_MV w d))))
    let shedAlert := let y := shedRecord e w true shed; { y with pins := { y.pins with alert := true } }
    Runs s →
    (w ≤ 4200 → Gives (.powerSample w mv rails) s input) ∧
    (4200 < w → d.kOver < 14 → Gives (.powerSample w mv rails) s
      (throttleRecord e 3 true (put .PWR_PEAK_SEEN 1 (put .PWR_OVER_SEEN 1 { input with kOver := 14 })))) ∧
    (4200 < w → 14 ≤ d.kOver → Gives (.powerSample w mv rails) s (throttleRecord e 3 true (put .PWR_PEAK_SEEN 1 input))) ∧
    (budget d < get .PWR_INPUT_W → d.kOver = 0 → Gives .overBudgetStepUp s (throttleRecord e 2 true (above 1))) ∧
    (budget d < get .PWR_INPUT_W → 0 < d.kOver → d.kOver < 14 → Gives .overBudgetStepUp s (above (d.kOver + 1))) ∧
    (budget d < get .PWR_INPUT_W → 14 ≤ d.kOver → Gives .overBudgetStepUp s d) ∧
    (get .PWR_INPUT_W ≤ budget d → Gives .overBudgetStepDown s { d with kOver := d.kOver - 1 }) ∧
    (d.calNext = none → Gives .tokenStepRecompute s (judged d)) ∧
    (∀ res cost, d.calNext = some (res, cost) →
      Gives .tokenStepRecompute s (judged (put .PWR_RESERVE_W res (put .PWR_TOKEN_COST cost { d with calNext := none })))) ∧
    (placeOk p h c = true → (tokenAsks asked).find? (fun y => y.p = p && y.h = h && y.c = c && y.idx = n) = some x →
      tokensHeld asked < capacity asked → (∀ y ∈ tokenAsks asked, grantBefore y x = false) → Gives (.tokenGrant p h c n) s granted) ∧
    Gives .clockStepApply s (rset d ⟨.CLK_DOM_MHZ, 0, 0, 0⟩ (1750 * (16 - stepInForce d) / 16)) ∧
    ((∀ r ∈ rs, r.sensor ≤ 1460) → let y := rs.foldl readSensor d
      Gives (.sensorRead rs) s (put .PWR_TJ_MAX (ofSigned 16 (hottest y)) y)) ∧
    ((get .PWR_TJ_THROTTLE : Int) ≤ hottest d → d.kTherm = 0 → Gives .thermalStepUp s (throttleRecord e 1 true warm)) ∧
    ((get .PWR_TJ_THROTTLE : Int) ≤ hottest d → 0 < d.kTherm → d.kTherm < 14 → Gives .thermalStepUp s warm) ∧
    (hottest d < (get .PWR_TJ_THROTTLE : Int) - 40 → Gives .thermalStepDown s { d with kTherm := d.kTherm - 1 }) ∧
    (pinsTaken d = false → get .PWR_THROTTLED = 0 → Gives .throttleAssert s (throttleRecord e 0 true (budgetFell e
      (satAdd e ⟨.PWR_THROTTLE_COUNT, 0, 0, 0⟩ 1 (put .PWR_THROTTLE_SEEN 1 (put .PWR_THROTTLED 1 (pin false))))))) ∧
    (pinsTaken d = false → get .PWR_THROTTLED = 1 →
      Gives .throttleRelease s (throttleRecord e 0 false (put .PWR_THROTTLED 0 (pin true)))) ∧
    (pinsTaken d = true → Gives .throttleAssert s (pin false) ∧ Gives .throttleRelease s (pin true)) ∧
    (get .PWR_SHED = 0 → w < 34000 → Gives (.loadShedEntry w) s shedAlert) ∧
    (get .PWR_SHED = 1 → 35000 ≤ w → Gives (.loadShedExit w) s
      (alertRelease (shedRecord e w false (put .PWR_SHED 0 (put .PWR_INPUT_MV w d))))) ∧
    (Serves s → 2000 ≤ v.toNat % 8192 → v.toNat % 8192 ≤ 4000 →
      Gives (.pwrBudgetW v) s (budgetFell e (put .PWR_BUDGET_W (v.toNat % 8192) d))) ∧
    (Serves s → v.toNat % 8192 < 2000 ∨ 4000 < v.toNat % 8192 →
      Gives (.pwrBudgetW v) s (regAccess e (regOffset ⟨.PWR_BUDGET_W, 0, 0, 0⟩) true d))

/-- THERMAL_TRIP (R378), RAIL_FAULT (R379), the shutdowns (R377, R383, R439), POWER_UP (R377), the pins and RAILS_IN_REGULATION
(R388, R432). What a pin's level does while the boundary scan has the pins, and MOD_THROTTLE_N in reset, are the model's choices
(notes/assumptions/116.md). -/
def Obligations.SuppliesAndResetRule : Prop :=
  ∀ (s : State) (unit_ r mv p k : Nat) (temp : BitVec 16) (slot : BitVec 6) (cr8 : BitVec 4),
    let e := s.env
    let limit (q : Reg) : Int := (rget s.dev ⟨q, 0, 0, 0⟩ : Int)
    let syn (hbm : Bool) : Nat := packFields [(2, b2n hbm), (11, unit_), (3, 0), (16, temp.toNat)]
    let off (i : Instr) : Prop := ∃ t, exec i s = .next t ∧ t.dev.power = .off ∧ t.dev.pins.pwrgd = false ∧
      (∀ k, rget t.dev k = k.reg.reset % 2 ^ k.reg.bits) ∧ t.clk.ft = 0 ∧ t.clk.ns = s.clk.ns ∧ t.pending = s.pending ∧
      (s.dev.fuseOp = none → t.nv = s.nv)
    let out (target : Nat) : Prop := 100000 * mv < 95 * target ∨ 105 * target < 100000 * mv
    let nominal := [40000, 12000, 750, 750, 850, 1100, 400, 1800, 900, 800, 500, 800].getD r 0 * 1000
    let failed (d : Dev) : Dev := logError e { cls := 0x0804, level := 4, kind := 6, index := r, syn := r } d
    let read := rset s.dev ⟨.PWR_RAIL_MV, r, 0, 0⟩ mv
    let tested (k : Nat) : Prop := (lovageRuns s.dev).find? (fun k => lovageTile s.dev k = p) = some k
    let untested : Prop := ∀ k ∈ lovageRuns s.dev, lovageTile s.dev k ≠ p
    let lowered := 700 * (1000 - rget s.dev ⟨.TEST_L_VDROP, k, 0, 0⟩)
    let ins := s.dev.inputs
    let up : Inputs := { ins with vin := true }
    let high : Inputs := { ins with rst := true, slot := slot.toNat, cr8 := cr8.toNat }
    let goes (i : Instr) (p : Power) (ins : Inputs) : Prop := exec i s = .next { s with dev := { s.dev with power := p, inputs := ins } }
    let regulated : Dev := { s.dev with power := .inReset, pins := { s.dev.pins with pwrgd := true } }
    let good := if ins.throttle then regulated else rset regulated ⟨.PWR_THROTTLED, 0, 0, 0⟩ 1
    let lost (k : RegKey) : Nat := if k = ⟨.PWR_THROTTLED, 0, 0, 0⟩ ∧ ins.throttle = false then 1 else k.reg.reset % 2 ^ k.reg.bits
    let resets (i : Instr) : Prop := ∃ t, exec i s = .next t ∧ t.dev.power = .inReset ∧ t.dev.pins.pwrgd = true ∧
      (∀ k, rget t.dev k = lost k) ∧ t.clk.ft = 0 ∧ t.pending = s.pending ∧ t.nv = fusesFinished s.dev s.nv
    let seen := pinsTaken s.dev = false
    (Runs s → unit_ < 1440 → limit .PWR_TJ_TRIP ≤ temp.toInt → Gives (.thermalTrip false unit_ temp) s
      (logError e { cls := 0x0803, level := 3, index := unit_, syn := syn false } s.dev)) ∧
    (Runs s → unit_ < 20 → limit .PWR_TJ_HBM_TRIP ≤ temp.toInt → Gives (.thermalTrip true unit_ temp) s
      (logError e { cls := 0x0803, level := 4, kind := 1, index := unit_ * 32, syn := syn true } s.dev)) ∧
    (Runs s → unit_ < 1440 → temp.toInt < limit .PWR_TJ_TRIP → Gives (.thermalTrip false unit_ temp) s s.dev) ∧
    (Runs s → 0 < r → r < 12 → out nominal → Gives (.railFault r mv none) s (failed read)) ∧
    (Runs s → 0 < r → r < 12 → ¬ out nominal → Gives (.railFault r mv none) s read) ∧
    (Runs s → r = 0 → Gives (.railFault r mv none) s read) ∧
    (Runs s → r = 2 → p < 1440 → untested → out 700000 → Gives (.railFault r mv (some p)) s (failed s.dev)) ∧
    (Runs s → r = 2 → p < 1440 → untested → ¬ out 700000 → Gives (.railFault r mv (some p)) s s.dev) ∧
    (Runs s → r = 2 → p < 1440 → tested k → out lowered → Gives (.railFault r mv (some p)) s (failed s.dev)) ∧
    (Runs s → r = 2 → p < 1440 → tested k → ¬ out lowered → Gives (.railFault r mv (some p)) s s.dev) ∧
    off .undervoltageShutdown ∧ off .overvoltageShutdown ∧ off .refclk100BLoss ∧ off .breakerTrip ∧ off .modMatedNHigh ∧
    (s.dev.power = .off → s.dev.mated = true → goes .powerUp .softStart up) ∧
    (s.dev.power = .off → s.dev.mated = false → goes .powerUp .off up) ∧
    (s.dev.power = .off → exec .modMatedNLow s = .next
      { s with dev := { s.dev with power := if ins.vin then .softStart else .off, mated := true } }) ∧
    (s.dev.power = .softStart → pinsTaken s.dev = true → exec .railsInRegulation s = .next { s with dev := good }) ∧
    (s.dev.power = .softStart → seen → ins.rst = false → resets .railsInRegulation) ∧
    (s.dev.power = .softStart → seen → ins.rst = true → exec .railsInRegulation s = .next
      { s with dev := fromFlash s.nv (latchStraps ins.slot ins.cr8 { good with power := .running }) }) ∧
    (Runs s → seen → resets .modRstNAssert) ∧
    (s.dev.power = .inReset → seen → exec (.modRstNDeassert slot cr8) s = .next
      { s with dev := fromFlash s.nv (latchStraps slot.toNat cr8.toNat { s.dev with power := .running, inputs := high }) }) ∧
    (s.dev.power = .softStart ∨ pinsTaken s.dev = true → goes (.modRstNDeassert slot cr8) s.dev.power high ∧
      goes .modRstNAssert s.dev.power { ins with rst := false })

/-- BOOT_VERIFY_DONE, SEC_FW_ALIVE (R388), IDENTITY_KEY_GENERATED (R400; that the command brings the key and the certificates is the
model's choice, notes/assumptions/114.md), TILE_SELF_TEST_DONE, COLLECTIVE_SELF_TEST_DONE (R390), UCIE_MODULE_TRAIN_END and UCIE_FLIT_RX (R264). -/
def Obligations.BootBringsTheModuleToService : Prop :=
  ∀ (s : State) (p m key : Nat) (signer cert : List Byte),
    let e := s.env
    let d := s.dev
    let get (r : Reg) : Nat := rget d ⟨r, 0, 0, 0⟩
    let put (r : Reg) (k : Nat) (d : Dev) : Dev := rset d ⟨r, 0, 0, 0⟩ k
    let slot := s.nv.bootSlot
    let shown (nv : NonVol) : Dev := if identityUsable nv then put .SEC_ID_PRESENT 1 (put .SEC_ID_KEY_ID (keyId nv.idModulus) d) else d
    let booted := shown s.nv
    let failed := put .CFG_STATE 4 booted
    let made : NonVol := { s.nv with idModulus := key, idSealed := true, idSigner := signer, idCert := cert }
    let passes (n : Nat) : Prop :=
      let f := if n = 0 then s.nv.slotA else s.nv.slotB
      f.present = true ∧ s.nv.arbCount ≤ f.svn ∧ s.nv.arbCount ≤ f.maxArb ∧ s.nv.arbCount ≤ s.nv.rootRec.maxArb ∧
        s.nv.rootRec.selfSigned = true ∧ keyHash s.nv.rootRec.modulus = leBytes s.nv.rootHash 32
    let tile : RegKey := ⟨.TILE_STATE, p, 0, 0⟩
    let untrained := (get .CFG_UCIE_OFF).testBit m = false ∧ (get .CFG_UCIE_UP).testBit m = false
    let fails := tblGet d.ucieFails m 0
    let recent := d.ucieReplays.filter (fun x => s.clk.ns < x.2 + 1000) ++ [(m, s.clk.ns)]
    let mine := (recent.filter (fun x => x.1 = m)).length
    Runs s → p < 1440 → m < 8 →
    (get .CFG_STATE = 0 → passes slot → Gives .bootVerifyDone s (startCores e slot booted)) ∧
    (get .CFG_STATE = 0 → ¬ passes slot → passes (1 - slot) →
      Gives .bootVerifyDone s (startCores e (1 - slot) (put .SEC_FW_REVERTED 1 booted))) ∧
    (get .CFG_STATE = 0 → ¬ passes slot → ¬ passes (1 - slot) →
      Gives .bootVerifyDone s { failed with pins := { failed.pins with fault := true, alert := true } }) ∧
    (s.nv.idModulus = 0 → 2 ^ 3071 ≤ key → key < 2 ^ 3072 →
      exec (.identityKeyGenerated key signer cert) s = .next { s with nv := made, dev := shown made }) ∧
    (s.nv.idModulus ≠ 0 → exec (.identityKeyGenerated key signer cert) s = .next s) ∧
    (Serves s → rget d tile = 0 → Gives (.tileSelfTestDone p true) s (rset (zeroTile p d) tile 1) ∧
      Gives (.tileSelfTestDone p false) s (logError e { cls := 0x0705, level := 3, index := p, syn := p } (rset d tile 4))) ∧
    (Serves s → Gives .collectiveSelfTestDone s (put .CFG_RDY_COL 1 d)) ∧
    (Serves s → untrained → Gives (.ucieModuleTrainEnd m true) s (put .CFG_UCIE_UP (get .CFG_UCIE_UP ^^^ 2 ^ m)
      { d with ucieRetrain := putBit d.ucieRetrain m false, ucieFails := tblSet (fun k => k) d.ucieFails m 0 0 })) ∧
    (Serves s → untrained → d.ucieRetrain.testBit m = false → Gives (.ucieModuleTrainEnd m false) s (ucieOff e m d)) ∧
    (Serves s → untrained → d.ucieRetrain.testBit m = true → fails + 1 < 3 → Gives (.ucieModuleTrainEnd m false) s
      { d with ucieFails := tblSet (fun k => k) d.ucieFails m (fails + 1) 0 }) ∧
    (Serves s → untrained → d.ucieRetrain.testBit m = true → 3 ≤ fails + 1 → Gives (.ucieModuleTrainEnd m false) s
      (ucieOff e m { d with ucieFails := tblSet (fun k => k) d.ucieFails m (fails + 1) 0 })) ∧
    Gives (.ucieFlitRx m true) s d ∧
    ((get .CFG_UCIE_UP).testBit m = true → mine ≤ 16 → Gives (.ucieFlitRx m false) s { d with ucieReplays := recent }) ∧
    ((get .CFG_UCIE_UP).testBit m = true → 16 < mine → Gives (.ucieFlitRx m false) s (put .CFG_UCIE_UP (get .CFG_UCIE_UP ^^^ 2 ^ m)
      { d with ucieReplays := recent.filter (fun x => x.1 ≠ m), ucieRetrain := putBit d.ucieRetrain m true })) ∧
    (get .CFG_STATE = 1 → d.fwWait = 0 → Gives .secFwAlive s (stageBlock s.nv.cfgBlock (put .CFG_STATE 2 d)))

/-- CFG_STAGE, CFG_STAGE_CLEAR (R392), CFG_COMMIT and CFG_COMMIT_DONE (R393 to R395): the checks by code, the first that fails. -/
def Obligations.ConfigurationsAreStagedAndCommitted : Prop :=
  ∀ (s : State) (w : Nat) (v : Word) (rec : List Byte),
    let e := s.env
    let d := s.dev
    let get (r : Reg) : Nat := rget d ⟨r, 0, 0, 0⟩
    let put (r : Reg) (k : Nat) (d : Dev) : Dev := rset d ⟨r, 0, 0, 0⟩ k
    let refused (r : RegKey) : Dev := regAccess e (regOffset r) true d
    let isOpen := get .CFG_STATE = 2 ∧ get .CFG_COMMIT_BUSY = 0
    let b := stagedBlock d
    let slots := fieldAt b 0x1A 2
    let record := if get .SEC_CERT_ADDR = 0 then s.nv.ownerRec else rec
    let readable := get .SEC_CERT_ADDR = 0 ∨ inTabok (get .SEC_CERT_ADDR) 1024 = true
    let fails (k : Nat) : Prop :=
      (k = 1 ∧ get .CFG_STATE ≠ 2) ∨ (k = 2 ∧ popCount d.stageMask 256 ≠ 256) ∨ (k = 3 ∧ blockForm b = false) ∨
      (k = 4 ∧ fieldAt b 0x1FC 4 ≠ crc32c (b.take 0x1FC)) ∨ (k = 5 ∧ ownerKey s.nv record = none) ∨
      (k = 6 ∧ ∀ c, ownerKey s.nv record = some c → fieldAt b 0x278 8 ≠ c.keyId ∨ rsaOk c.modulus (b.take 0x280) (b.drop 0x280) = false) ∨
      (k = 7 ∧ fieldAt b 0x10 8 ≠ s.nv.serial) ∨ (k = 8 ∧ slots.testBit 6 = true ∧ slots % 64 ≠ get .CFG_SLOT_ID) ∨
      (k = 9 ∧ fieldAt b 0xC 4 < get .CFG_VER_FLOOR)
    let ended (k : Nat) : Dev := { put .CFG_COMMIT_BUSY 0 (put .CFG_COMMIT_RESULT k d) with stageMask := 0 }
    Serves s → w < 256 →
    (isOpen → Gives (.cfgStage w v) s { rset d ⟨.CFG_STAGE, w, 0, 0⟩ v.toNat with stageMask := putBit d.stageMask w true }) ∧
    (¬ isOpen → Gives (.cfgStage w v) s (refused ⟨.CFG_STAGE, w, 0, 0⟩)) ∧
    (isOpen → Gives .cfgStageClear s { d with stageMask := 0 }) ∧
    (¬ isOpen → Gives .cfgStageClear s (refused ⟨.CFG_STAGE_CLEAR, 0, 0, 0⟩)) ∧
    (get .CFG_COMMIT_BUSY = 0 → Gives .cfgCommit s (put .CFG_COMMIT_BUSY 1 d)) ∧
    (get .CFG_COMMIT_BUSY = 1 → Gives .cfgCommit s (refused ⟨.CFG_COMMIT, 0, 0, 0⟩)) ∧
    (∀ k, get .CFG_COMMIT_BUSY = 1 → readable → fails k → (∀ j, j < k → ¬ fails j) → Gives (.cfgCommitDone rec) s (ended k)) ∧
    (get .CFG_COMMIT_BUSY = 1 → readable → (∀ k, ¬ fails k) → ∃ t, exec (.cfgCommitDone rec) s = .next t ∧
      rget t.dev ⟨.CFG_COMMIT_RESULT, 0, 0, 0⟩ = 0 ∧ rget t.dev ⟨.CFG_COMMIT_BUSY, 0, 0, 0⟩ = 0 ∧ rget t.dev ⟨.CFG_STATE, 0, 0, 0⟩ = 3 ∧
      t.dev.pins.ready = true ∧ t.dev.stageMask = 0 ∧ t.nv.cfgBlock = b ∧ t.nv.ownerRec = record ∧ t.nv.verFloor = fieldAt b 0xC 4)

/-- SEC_ARB_ADVANCE (R401), SEC_OWNER_BURN, SEC_OWNER_REVOKE (R399), FUSE_OP_DONE, SEC_VERIFY_GO, VERIFY_DONE (R403, R367), SEC_ATT_GO and
ATT_REPORT_DONE (R396, R407; the salt of the signature is a free value, notes/assumptions/1.md, and the key that signs is the model's
choice, notes/assumptions/114.md). -/
def Obligations.FusesAndImagesAreJudged : Prop :=
  ∀ (s : State) (op : FuseOp) (img cert : List Byte) (r : VerifyReq) (q : Report),
    let e := s.env
    let d := s.dev
    let nv := s.nv
    let get (r : Reg) : Nat := rget d ⟨r, 0, 0, 0⟩
    let put (r : Reg) (k : Nat) (d : Dev) : Dev := rset d ⟨r, 0, 0, 0⟩ k
    let refused (r : Reg) (d : Dev) : Dev := regAccess e (regOffset ⟨r, 0, 0, 0⟩) true d
    let runs (i : Instr) (r : Reg) (op : FuseOp) (ok : Prop) : Prop :=
      (ok → d.fuseOp = none → Gives i s (put .SEC_FUSE_RESULT 1 { d with fuseOp := some op })) ∧
      (¬ ok ∨ d.fuseOp ≠ none → Gives i s (refused r (put .SEC_FUSE_RESULT 2 d)))
    let target := get .SEC_ARB_TARGET
    let slot := get .SEC_OWNER_SLOT
    let hash := hashBytes d .SEC_OWNER_HASH
    let cut := fuseCut op (Config.freeNat d.free) nv
    let req : VerifyReq := ⟨get .SEC_IMG_ADDR, get .SEC_CERT_ADDR, get .SEC_IMG_KIND, get .SEC_IMG_CTX⟩
    let asked := put .SEC_VERIFY_RESULT 1 d
    let ended := put .SEC_VERIFY_BUSY 0 { d with verify := none }
    let salt := leBytes (Config.freeNat d.free) 32
    let signed (y : Nat) : Prop := y < nv.idModulus ∧ pow65537 nv.idModulus y = beNat (pssEncode (sha256 q.body) salt)
    let bs (y : Nat) : List Byte := q.body ++ leBytes (keyId nv.idModulus) 8 ++ beBytes y 384
    let sent := { d with report := none, free := d.free + 2 }
    let busy := get .SEC_ATT_STATE = 1 ∨ d.report ≠ none
    Serves s →
    runs .secArbAdvance .SEC_ARB_ADVANCE (.advance target) (nv.arbCount < target ∧ target ≤ 64 ∧
      target ≤ (fwSlot nv (get .SEC_FW_ACTIVE)).svn ∧ get .SEC_FW_PENDING = 0) ∧
    runs .secOwnerBurn .SEC_OWNER_BURN (.burn slot hash) (get .CFG_STATE = 2 ∧ nv.ownerBurned.testBit slot = false ∧ ∃ x ∈ hash, x ≠ 0) ∧
    runs .secOwnerRevoke .SEC_OWNER_REVOKE (.revoke slot) (get .CFG_STATE = 2 ∧
      ∃ j < 4, slot < j ∧ nv.ownerBurned.testBit j = true ∧ nv.ownerRevoked.testBit j = false) ∧
    (d.fuseOp = some op → exec (.fuseOpDone true) s = .next { s with nv := fuseDone op nv, dev := put .SEC_FUSE_RESULT 0 { d with fuseOp := none } }) ∧
    (d.fuseOp = some op → exec (.fuseOpDone false) s = .next
      { s with nv := cut, dev := put .SEC_FUSE_RESULT 3 { d with fuseOp := none, free := d.free + 1 } }) ∧
    (get .SEC_VERIFY_BUSY = 1 → Gives .secVerifyGo s (refused .SEC_VERIFY_GO d)) ∧
    (get .SEC_VERIFY_BUSY = 0 → req.kind ≠ 3 ∨ d.packLoad = none →
      Gives .secVerifyGo s (put .SEC_VERIFY_BUSY 1 { asked with verify := some req })) ∧
    (get .SEC_VERIFY_BUSY = 0 → req.kind = 3 → d.packLoad ≠ none → Gives .secVerifyGo s (packRefused e 4 asked)) ∧
    (d.verify = some r → inTabok r.img img.length = true → inTabok r.cert 1024 = true → exec (.verifyDone img cert) s =
      .next { s with nv := (verified e r img cert ended).1, dev := inCycle d (verified e r img cert ended).2 }) ∧
    (busy → Gives .secAttGo s (refused .SEC_ATT_GO (put .SEC_ATT_STATE 3 d))) ∧
    (¬ busy → get .SEC_ID_PRESENT = 0 → Gives .secAttGo s (put .SEC_ATT_STATE 3 d)) ∧
    (¬ busy → get .SEC_ID_PRESENT = 1 → Gives .secAttGo s
      (put .SEC_ATT_STATE 1 { d with report := some { addr := rbase d ⟨.SEC_ATT_ADDR, 0, 0, 0⟩, body := reportBody e d } })) ∧
    (d.report = some q → inTabok q.addr (q.body.length + 392) = true → ∃ y, ((∃ z, signed z) → signed y) ∧ Gives .attReportDone s
      (put .SEC_ATT_LEN (q.body.length + 392) (put .SEC_ATT_STATE 2 { sent with lp := memWrite d.lp q.addr (bs y) })))

/-- SEC_FW_HANDOVER, HANDOVER_TIMEOUT, SEC_FW_ALIVE, ALIVE_TIMEOUT, SECURITY_LIVE_WRITE (R405), SEC_UC_GO, MICROCODE_LOAD_DONE and
SEC_CAL_APPLY (R404; free values, notes/assumptions/1.md; what of the calibration tables acts is the model's choice, 115.md). -/
def Obligations.ServicesAreReplacedLive : Prop :=
  ∀ (s : State) (p st v : Nat) (m : Meas) (rest : List (Nat × Nat × Meas)) (tables : List Byte),
    let e := s.env
    let d := s.dev
    let get (r : Reg) : Nat := rget d ⟨r, 0, 0, 0⟩
    let put (r : Reg) (k : Nat) (d : Dev) : Dev := rset d ⟨r, 0, 0, 0⟩ k
    let tile := get .SEC_UC_TILE
    let refusedUc := regAccess e (regOffset ⟨.SEC_UC_GO, 0, 0, 0⟩) true (put .SEC_UC_STATE 3 d)
    let mayLoad := tile < 1440 ∧ (tileState d tile = 1 ∨ tileState d tile = 3)
    let loaded := rset { d with ucLoad := rest, ucTiles := tblSet (fun k => k) d.ucTiles p m {} } ⟨.TILE_STATE, p, 0, 0⟩ st
    let res := Config.freeNat d.free % 2 ^ Reg.PWR_RESERVE_W.bits
    let cost := Config.freeNat (d.free + 1) % 2 ^ Reg.PWR_TOKEN_COST.bits
    Runs s →
    (get .SEC_FW_SWITCHING = 1 → d.fwWait = 0 →
      Gives .handoverTimeout s { d with fwWait := 1 } ∧ (Serves s → Gives .secFwHandover s { d with fwWait := 1 })) ∧
    (Serves s → d.fwWait = 1 → ∃ t, exec .secFwAlive s = .next t ∧ t.nv = { s.nv with bootSlot := 1 - get .SEC_FW_ACTIVE } ∧ t.dev.fwWait = 0 ∧
      rget t.dev ⟨.SEC_FW_ACTIVE, 0, 0, 0⟩ = 1 - get .SEC_FW_ACTIVE ∧ rget t.dev ⟨.SEC_FW_PENDING, 0, 0, 0⟩ = 0 ∧
      rget t.dev ⟨.SEC_FW_SWITCHING, 0, 0, 0⟩ = 0 ∧ (∀ x ∈ t.dev.meas, x.kind = 1 → x.pending = false)) ∧
    (Serves s → d.fwWait = 2 → Gives .secFwAlive s (put .SEC_FW_SWITCHING 0 { d with fwWait := 0 })) ∧
    (d.fwWait = 1 → Gives .aliveTimeout s (put .SEC_FW_REVERTED 1 { d with fwWait := 2 })) ∧
    (d.fwWait = 2 → Gives .aliveTimeout s { d with fwWait := 3, fwDead := true, pins := { d.pins with alert := true } }) ∧
    (get .SEC_FW_SWITCHING = 1 → d.fwDead = false → ∃ k, k ≠ get .LNK_LIVE ∧ k < 65536 ∧
      Gives .securityLiveWrite s (put .LNK_LIVE k { d with free := d.free + 1 })) ∧
    (Serves s → d.ucHeld = some m → mayLoad → Gives .secUcGo s
      (put .SEC_UC_STATE 1 (rset { d with ucLoad := d.ucLoad ++ [(tile, tileState d tile, m)] } ⟨.TILE_STATE, tile, 0, 0⟩ 5))) ∧
    (Serves s → d.ucHeld = none ∨ ¬ mayLoad → Gives .secUcGo s refusedUc) ∧
    (d.ucLoad = (p, st, m) :: rest → rest = [] → Gives .microcodeLoadDone s (put .SEC_UC_STATE 2 loaded)) ∧
    (d.ucLoad = (p, st, m) :: rest → rest ≠ [] → Gives .microcodeLoadDone s loaded) ∧
    (Serves s → d.calHeld = some (m, v, tables) → exec .secCalApply s = .next
      { s with nv := { s.nv with cal := { res := res, cost := cost, version := v, svn := m.version, tables := tables } },
               dev := { put .SEC_CAL_VER v (measure m { d with free := d.free + 2 }) with calNext := some (res, cost) } })

/-- TEST_MARK_SUSPECT, TEST_MARK_NOTE (R368), TEST_DRAIN (R361), TEST_PACK_LOAD, PACK_LOAD_DONE (R367), TEST_L_GO (R363; free values,
notes/assumptions/1.md), TEST_L_ABORT, LOVAGE_HEAT_TIMEOUT, LOVAGE_RUN_END (R365), TEST_L_TILE (R369), LOVAGE_TARGET_REACHED (R363; the 2 °C below the target are the model's choice, notes/assumptions/118.md). -/
def Obligations.TestsMarkDrainLoadAndRun : Prop :=
  ∀ (s : State) (k reason : Nat) (v : Word) (digests : List (BitVec 64)) (a cert : Nat),
    let e := s.env
    let d := s.dev
    let get (r : Reg) : Nat := rget d ⟨r, 0, 0, 0⟩
    let put (r : Reg) (x : Nat) (d : Dev) : Dev := rset d ⟨r, k, 0, 0⟩ x
    let refused (r : RegKey) : Dev := regAccess e (regOffset r) true d
    let cls := get .TEST_MARK_CLASS
    let st := rget d ⟨.TEST_L_STATE, k, 0, 0⟩
    let on := st = 1 ∨ st = 2
    let aborted (x : Nat) : Dev := logError e { cls := 0x0702, level := 3, index := lovageTile d k, syn := x } (put .TEST_L_REASON x (put .TEST_L_STATE 5 d))
    let stopped := rset (rset ((lovageRuns d).foldl (lovageAbort e 3) d) ⟨.TEST_DRAINED, 0, 0, 0⟩ 1) ⟨.LNK_ROUTE_EN, 0, 0, 0⟩ 0
    let ports := (List.range 4).foldl (fun d p => rset d ⟨.ETH_PORT_STATE, p, 0, 0⟩ 3) stopped
    let busy := d.packLoad ≠ none ∨ ∃ r, d.verify = some r ∧ r.kind = 3
    let h := hbmTake e a 64 { d with packLoad := none }
    let body := hbmTake e a (fieldAt h.1 0x10 8) h.2
    let signer := hbmTake e cert 1024 body.2
    let armed := storesFree (lovageTile d k) { d with lovPack := tblSet (fun k => k) d.lovPack k ((d.pack.map (·.pats)).getD []) [],
                                                      lovGo := (k, s.clk.ns) :: d.lovGo.filter (fun x => x.1 ≠ k) }
    let diff := firstDiff 0 ((tblGet d.lovPack k []).map (·.expect)) (digests.map (·.toNat))
    let hot := (rget d ⟨.TEST_L_TJ, k, 0, 0⟩ : Int) - 16 ≤ sensorAt d (lovageTile d k)
    Runs s → k < 16 →
    (Serves s → cls ∈ markClasses → Gives .testMarkSuspect s (markRecord e 2 d)) ∧
    (Serves s → cls ∉ markClasses → Gives .testMarkSuspect s (refused ⟨.TEST_MARK_SUSPECT, 0, 0, 0⟩)) ∧
    (Serves s → cls = 0x0703 ∨ cls = 0x0705 → Gives .testMarkNote s (markRecord e 0 d)) ∧
    (Serves s → cls ≠ 0x0703 → cls ≠ 0x0705 → Gives .testMarkNote s (refused ⟨.TEST_MARK_NOTE, 0, 0, 0⟩)) ∧
    (Serves s → (∀ c < 8, ctxState d c = 0) → Gives .testDrain s (sweepAll e { ports with pins := { ports.pins with fault := true } })) ∧
    (Serves s → (∃ c < 8, ctxState d c ≠ 0) → Gives .testDrain s (refused ⟨.TEST_DRAIN, 0, 0, 0⟩)) ∧
    (Serves s → ¬ busy → Gives .testPackLoad s { d with packLoad := some (rbase d ⟨.TEST_PACK_ADDR, 0, 0, 0⟩, rbase d ⟨.TEST_PACK_CERT, 0, 0, 0⟩) }) ∧
    (Serves s → busy → Gives .testPackLoad s (packRefused e 4 d)) ∧
    (d.packLoad = some (a, cert) → Gives .packLoadDone s (packDone e body.1 (verifyCode s.nv signer.2 3 body.1 signer.1) signer.2)) ∧
    (Serves s → lovageMay d k = true → Gives (.testLGo k) s (put .TEST_L_STATE 1 (put .TEST_L_REASON 0 (put .TEST_L_ELAPSED_MS 0 armed)))) ∧
    (Serves s → lovageMay d k = false → Gives (.testLGo k) s (refused ⟨.TEST_L_GO, k, 0, 0⟩)) ∧
    (Serves s → on → Gives (.testLAbort k reason) s (aborted reason)) ∧
    (Serves s → on → Gives (.testLTile k v) s (refused ⟨.TEST_L_TILE, k, 0, 0⟩)) ∧
    (Serves s → ¬ on → Gives (.testLTile k v) s (put .TEST_L_STATE 0 (put .TEST_L_TILE (v.toNat % 2048) d))) ∧
    (st = 1 → hot → Gives (.lovageTargetReached k) s (put .TEST_L_STATE 2 d)) ∧
    (st = 1 → ¬ hot → Gives (.lovageTargetReached k) s d) ∧
    (st = 1 → Gives (.lovageHeatTimeout k) s (aborted 5)) ∧
    (st = 2 → diff = none → Gives (.lovageRunEnd k digests) s (rset (put .TEST_L_STATE 3 d) ⟨.TILE_STATE, lovageTile d k, 0, 0⟩ 1)) ∧
    (∀ i, st = 2 → diff = some i → Gives (.lovageRunEnd k digests) s
      (logError e { cls := 0x0701, level := 3, index := lovageTile d k, syn := i % 2 ^ 32 + (digests.map (·.toNat)).getD i 0 * 2 ^ 64 }
        (put .TEST_L_STATE 4 (put .TEST_L_FAIL_PAT i d))))

/-- MONITOR_SAMPLE, MONITOR_PERIODIC_SAMPLE (R416), MON_CLEAR, MON_CONFIG_WRITE (R418), MON_SNAP_GO (R420), LOG_DRAIN_COPY (R422),
LOG_DRAIN_EN and LOG_RING_CONS (R427). -/
def Obligations.MonitorsAndTheLogDrain : Prop :=
  ∀ (s : State) (m off : Nat) (v : Word) (x : Sample) (xs : List Sample) (r : LogEnt),
    let e := s.env
    let d := s.dev
    let get (r : Reg) : Nat := rget d ⟨r, 0, 0, 0⟩
    let put (r : Reg) (x : Nat) (d : Dev) : Dev := rset d ⟨r, 0, 0, 0⟩ x
    let refused (r : Reg) (d : Dev) : Dev := regAccess e (regOffset ⟨r, 0, 0, 0⟩) true d
    let latched := { d with snap := some ⟨get .MON_SNAP_COUNT, snapFrame e 0 (get .MON_SNAP_COUNT) d⟩ }
    let word := writeListed e (0x600000 + 0x100 * m + off) v.toNat [] d
    let prod := get .LOG_RING_PROD
    let a := get .LOG_RING_BASE + prod % 2 ^ get .LOG_RING_LOG2 * 128
    let copied := { d with log := d.log.map (fun y => if y.index = r.index then { y with copied := true } else y), logLost := 0, lp := memWrite d.lp a (drainEntry e d.logLost r) }
    let l := bitsOf v.toNat 4 0
    let enables (d : Dev) : Dev := put .LOG_DRAIN_EN (b2n (v.toNat.testBit 8)) (put .LOG_IRQ_EN (b2n (v.toNat.testBit 9)) d)
    let cons := bitsOf v.toNat 31 16
    Runs s → m < 64 →
    (d.samples = x :: xs → Gives .monitorSample s ((List.range 64).foldl (monEvent e x) { d with samples := xs })) ∧
    (Serves s → Gives .monitorPeriodicSample s ((List.range 64).foldl (monPeriodic e) d)) ∧
    (Serves s → Gives (.monClear m) s (monClear m d)) ∧
    (Serves s → off % 4 = 0 → off < 0x100 → exec (.monConfigWrite m off v) s = .next { s with nv := word.1, dev := inCycle d word.2 }) ∧
    (Serves s → get .MON_SNAP_FRAMES ≠ 0 → d.snap = none → get .MON_SNAP_CLEAR = 0 → Gives .monSnapGo s latched) ∧
    (Serves s → get .MON_SNAP_FRAMES ≠ 0 → d.snap = none → get .MON_SNAP_CLEAR = 1 →
      Gives .monSnapGo s ((monsOn latched).foldl (fun d m => monClear m d) latched)) ∧
    (Serves s → get .MON_SNAP_FRAMES ≠ 0 → d.snap ≠ none → Gives .monSnapGo s (satAdd e ⟨.MON_SNAP_MISSED, 0, 0, 0⟩ 1 d)) ∧
    (logOldest d = some r → get .LOG_DRAIN_EN = 1 → drainFree d ≠ 0 → a + 128 ≤ 2 ^ 36 →
      Gives .logDrainCopy s (irqDrain e (put .LOG_RING_PROD (prod + 1) copied))) ∧
    (Serves s → l < 6 ∨ 16 < l → Gives (.logDrainEn v) s (refused .LOG_DRAIN_EN d)) ∧
    (Serves s → 6 ≤ l → l ≤ 16 → get .LOG_DRAIN_EN = 0 → v.toNat.testBit 8 = true →
      Gives (.logDrainEn v) s (enables (put .LOG_RING_PROD 0 (put .LOG_RING_CONS 0 (put .LOG_RING_LOG2 l d))))) ∧
    (Serves s → 6 ≤ l → l ≤ 16 → get .LOG_DRAIN_EN = 0 → v.toNat.testBit 8 = false → Gives (.logDrainEn v) s (enables (put .LOG_RING_LOG2 l d))) ∧
    (Serves s → 6 ≤ l → l ≤ 16 → get .LOG_DRAIN_EN = 1 → l = get .LOG_RING_LOG2 → Gives (.logDrainEn v) s (enables d)) ∧
    (Serves s → 6 ≤ l → l ≤ 16 → get .LOG_DRAIN_EN = 1 → l ≠ get .LOG_RING_LOG2 → Gives (.logDrainEn v) s (enables (refused .LOG_DRAIN_EN d))) ∧
    (Serves s → consOk prod (get .LOG_RING_CONS) cons = true → Gives (.logRingCons v) s (put .LOG_RING_CONS cons d)) ∧
    (Serves s → consOk prod (get .LOG_RING_CONS) cons = false → Gives (.logRingCons v) s (refused .LOG_RING_CONS d))

/-- The commands of R433, R434 and R435 and the boundary scan of R436. The values of GETSTATUS, GETMWL and GETMRL are free
(notes/assumptions/1.md), as is the rate of TCK (117.md). The order of the cells and what they capture, the release of the pins after
EXTEST, CLAMP and HIGHZ, and that the management port does nothing while they last, are the model's choices (10.md, 116.md). -/
def Obligations.ManagementAndTestPortsAnswer : Prop :=
  ∀ (s : State) (addr : BitVec 7) (shift : BoundaryScan) (op : BitVec 8) (len count : Nat) (bytes : List Byte),
    let d := s.dev
    let get (r : Reg) : Nat := rget d ⟨r, 0, 0, 0⟩
    let out (o : List Out) (d : Dev) : Dev := { d with outbox := d.outbox ++ o }
    let slot := if d.power = .running then get .CFG_SLOT_ID else d.inputs.slot
    let pid := s.nv.serial % 2 ^ 26 + slot % 64 * 2 ^ 26 + 2 ^ 32 + 0x1A57 * 2 ^ 33
    let at_ (a : Option Nat) : Dev := { d with i3c := { d.i3c with addr := a } }
    let allow (b : Bool) : Dev := { d with i3c := { d.i3c with hotJoinOn := b } }
    let instr (i : JtagInstr) (d : Dev) : Dev := { d with jtag := { d.jtag with instr := i } }
    let run : Dev := { d with free := d.free + 1, jtag := { d.jtag with tck := some (Config.freeNat d.free % 51) } }
    let scanned (d : Dev) : Dev := out [.word (captured d (Config.freeNat d.free))]
      { d with free := d.free + 1, jtag := { d.jtag with bsr := shift.toNat } }
    let tap (i : Instr) (x : Dev) : Prop := exec i s = .next (if pinsTaken d = true then pinsBack { s with dev := x } else { s with dev := x })
    let free_ := pinsTaken d = false
    let bypasses := op.toNat ∉ [0x00, 0x01, 0x02, 0x04, 0x05, 0x20]
    let free := out [.word (Config.freeNat d.free % 2 ^ 16)] { d with free := d.free + 1 }
    let reply := ((List.range 64).flatMap (fun w => leBytes (rget d ⟨.CFG_MBOX_OUT, w, 0, 0⟩) 4)).take (get .CFG_MBOX_OUT_LEN)
    let sent := leBytes (get .CFG_MBOX_OUT_LEN) 2 ++ reply
    (d.power = .inReset ∨ d.power = .running) →
    (free_ → d.i3c.addr = none → Gives (.entdaa addr) s (out [.word (pid * 2 ^ 16)] (at_ (some addr.toNat)))) ∧
    (free_ → Gives .rstdaa s (at_ none) ∧ Gives .enec s (allow true) ∧ Gives .disec s (allow false)) ∧
    (¬ free_ → Gives .rstdaa s d ∧ Gives (.mboxWrite len bytes) s d ∧ Gives (.mboxRead count) s d) ∧
    (free_ → d.i3c.addr = none → d.i3c.hotJoinOn = true → d.i3c.hotJoinMade = false →
      Gives .hotJoin s (out [.hotJoin] { d with i3c := { d.i3c with hotJoinMade := true } })) ∧
    (free_ → d.i3c.addr ≠ none → Gives .getpid s (out [.word pid] d) ∧ Gives .getbcr s (out [.word 0] d) ∧ Gives .getdcr s (out [.word 0] d) ∧
      Gives .getstatus s free ∧ Gives .getmwl s free ∧ Gives .getmrl s free) ∧
    (free_ → d.i3c.addr ≠ none → get .CFG_MBOX_OUT_FULL = 0 → Gives (.mboxRead count) s (out [.i3c (List.take count [0, 0])] d)) ∧
    (free_ → d.i3c.addr ≠ none → get .CFG_MBOX_OUT_FULL = 1 → count < get .CFG_MBOX_OUT_LEN + 2 →
      Gives (.mboxRead count) s (out [.i3c (sent.take count)] d)) ∧
    (free_ → d.i3c.addr ≠ none → get .CFG_MBOX_OUT_FULL = 1 → get .CFG_MBOX_OUT_LEN + 2 ≤ count →
      Gives (.mboxRead count) s (rset (out [.i3c (sent.take count)] d) ⟨.CFG_MBOX_OUT_FULL, 0, 0, 0⟩ 0)) ∧
    (free_ → d.i3c.addr ≠ none → get .CFG_MBOX_IN_FULL = 1 ∨ len = 0 ∨ 256 < len → Gives (.mboxWrite len bytes) s (out [.nack] d)) ∧
    Gives (.extest shift) s (scanned (instr .extest run)) ∧ Gives .clamp s (instr .clamp run) ∧ Gives .highz s (instr .highz run) ∧
    tap (.samplePreload shift) (scanned (instr .samplePreload run)) ∧
    tap .idcode (out [.word (if s.nv.stepping = 0 then 0x05B2A7AB else 0x15B2A7AB)] (instr .idcode run)) ∧
    (bypasses → tap (.bypass op) (instr .bypass run)) ∧
    tap .jtagTrstN { run with jtag := { d.jtag with instr := .idcode, tck := none } } ∧
    (Serves s → Gives .cfgMboxInAck s (rset d ⟨.CFG_MBOX_IN_FULL, 0, 0, 0⟩ 0)) ∧
    (Serves s → get .CFG_MBOX_OUT_FULL = 0 → Gives .cfgMboxOutPost s (rset d ⟨.CFG_MBOX_OUT_FULL, 0, 0, 0⟩ 1)) ∧
    (Serves s → get .CFG_MBOX_OUT_FULL = 1 → Gives .cfgMboxOutPost s (regAccess s.env (regOffset ⟨.CFG_MBOX_OUT_POST, 0, 0, 0⟩) true d))

/-- MBOX_WRITE (R434, R435). -/
def Obligations.MessagesEnterTheMailbox : Prop :=
  ∀ (s : State) (len : Nat) (bytes : List Byte),
    let get (d : Dev) (r : Reg) : Nat := rget d ⟨r, 0, 0, 0⟩
    let word (d : Dev) (w : Nat) : Nat := rget d ⟨.CFG_MBOX_IN, w, 0, 0⟩
    (s.dev.power = .inReset ∨ s.dev.power = .running) → pinsTaken s.dev = false → s.dev.i3c.addr ≠ none → get s.dev .CFG_MBOX_IN_FULL = 0 →
    1 ≤ len → len ≤ 256 → len ≤ bytes.length →
    ∃ t, exec (.mboxWrite len bytes) s = .next t ∧ get t.dev .CFG_MBOX_IN_FULL = 1 ∧ get t.dev .CFG_MBOX_IN_LEN = len ∧
      (∀ i < len, word t.dev (i / 4) / 256 ^ (i % 4) % 256 = (bytes.getD i 0).toNat) ∧
      (∀ w, (len + 3) / 4 ≤ w → word t.dev w = word s.dev w) ∧
      t.dev.outbox = s.dev.outbox ++ (if get s.dev .CFG_MBOX_IRQ_EN = 1 then [.irq (get s.dev .CFG_MBOX_IRQ_VEC)] else [])

/-- REGISTER_WRITE, PAIR_LOW_READ (R13, R266), REG_READ (R434), DBG_ACCESS (R436; TCK's rate is free, notes/assumptions/117.md, and the
pins come back as 116.md chooses). -/
def Obligations.RegistersAreReadAndWritten : Prop :=
  ∀ (s : State) (off width : Nat) (cmd : BitVec 8) (v : Word) (dr : BitVec 64),
    let e := s.env
    let d := s.dev
    let lies := off % 4 = 0 ∧ inBlock off = true
    let out (o : Out) (d : Dev) : Dev := { d with outbox := d.outbox ++ [o] }
    let on := d.power = .inReset ∨ d.power = .running
    let after (r : NonVol × Dev) : State := { s with nv := r.1, dev := inCycle d r.2 }
    let r := readPaired e d d.pairHigh off
    let i := readPaired e d d.pairHighI3c off
    let sent := out (.word (d.jtag.data + b2n d.jtag.refused * 2 ^ 59))
      { d with free := d.free + 1, jtag := { d.jtag with instr := .dbgAccess, tck := some (Config.freeNat d.free % 51) } }
    let ends (t : State) : State := if pinsTaken d = true ∧ pinsTaken t.dev = false then pinsBack t else t
    let allowed := rget d ⟨.CFG_JTAG_ALLOW, 0, 0, 0⟩ = 1
    let w := writeWord e (bitsOf dr.toNat 57 32) 4 (bitsOf dr.toNat 31 0) sent
    let x := readWord e (bitsOf dr.toNat 57 32) 4 sent
    let free_ := pinsTaken d = false
    (Serves s → lies → width = 4 → exec (.registerWrite off width v) s = .next (after (writeListed e off v.toNat [] d))) ∧
    (Serves s → ¬ (lies ∧ width = 4) → Gives (.registerWrite off width v) s (regAccess e off true d)) ∧
    (Serves s → lies → width = 4 → Gives (.pairLowRead off width) s (out (.word r.1) { d with pairHigh := r.2 })) ∧
    (Serves s → ¬ (lies ∧ width = 4) → Gives (.pairLowRead off width) s (out (.word 0) (regAccess e off false d))) ∧
    (on → free_ → d.i3c.addr ≠ none → cmd = 1 → i3cReaches off = true → off % 4 = 0 →
      Gives (.regRead off cmd) s (out (.i3c (leBytes i.1 4)) { d with pairHighI3c := i.2 })) ∧
    (on → free_ → d.i3c.addr ≠ none → cmd = 1 → i3cReaches off = false ∨ off % 4 ≠ 0 →
      Gives (.regRead off cmd) s (out (.i3c [0, 0, 0, 0]) d)) ∧
    (on → free_ → d.i3c.addr ≠ none → cmd ∉ ([1, 2, 3] : List (BitVec 8)) → Gives (.regRead off cmd) s (out .nack d)) ∧
    (on → ¬ allowed → exec (.dbgAccess dr) s = .next (ends (after (s.nv, { sent with jtag := { sent.jtag with refused := true, data := 0 } })))) ∧
    (on → allowed → dr.toNat.testBit 58 = true → exec (.dbgAccess dr) s =
      .next (ends (after (w.1, { w.2 with jtag := { w.2.jtag with refused := false } })))) ∧
    (on → allowed → dr.toNat.testBit 58 = false → exec (.dbgAccess dr) s =
      .next (ends (after (s.nv, { x.2 with jtag := { x.2.jtag with refused := false, data := x.1 } }))))

/-- R13 and R14 on CLK_RC (RO), the status bits at 0x280110 (W1C), RING_DB_IGNORED (SAT), CFG_VER_FLOOR (RWO), the triggers at 0x28012C
(WO), CLK_RC_SET (RW) and CLK_FT. -/
def Obligations.RegisterTypesAndPairs : Prop :=
  ∀ (s : State) (v lo hi : Word) (later : Clock),
    let get (d : Dev) (r : Reg) : Nat := rget d ⟨r, 0, 0, 0⟩
    let write (off : Nat) (x : Word) (s : State) : Host.Outcome State Fault Refusal := exec (.registerWrite off 4 x) s
    let reads (off x : Nat) : Prop := ∃ t, exec (.pairLowRead off 4) s = .next t ∧ t.dev.outbox = s.dev.outbox ++ [.word x]
    let cleared (d : Dev) (r : Reg) (bit : Nat) : Nat := if v.toNat.testBit bit then 0 else get d r
    Serves s →
    reads 0x280100 (s.dev.rc % 2 ^ 32) ∧ reads 0x28012C 0 ∧
    reads (regOffset ⟨.RING_DB_IGNORED, 0, 0, 0⟩) (get s.dev .RING_DB_IGNORED % 2 ^ 32) ∧
    reads (regOffset ⟨.CFG_VER_FLOOR, 0, 0, 0⟩) (get s.dev .CFG_VER_FLOOR % 2 ^ 32) ∧
    (∃ x, reads 0x280110 x ∧ bitsOf x 3 3 = get s.dev .CLK_STEP_LIMIT % 2 ∧ bitsOf x 4 4 = get s.dev .CLK_BAD_ADVANCE % 2 ∧
      bitsOf x 5 5 = get s.dev .CLK_BAD_SET % 2) ∧
    write 0x280100 v s = .next s ∧
    (∃ t, write 0x280110 v s = .next t ∧ get t.dev .CLK_STEP_LIMIT = cleared s.dev .CLK_STEP_LIMIT 3 ∧
      get t.dev .CLK_BAD_ADVANCE = cleared s.dev .CLK_BAD_ADVANCE 4 ∧ get t.dev .CLK_BAD_SET = cleared s.dev .CLK_BAD_SET 5) ∧
    (∃ t, write (regOffset ⟨.RING_DB_IGNORED, 0, 0, 0⟩) v s = .next t ∧
      get t.dev .RING_DB_IGNORED = if v = 0 then 0 else get s.dev .RING_DB_IGNORED) ∧
    (⟨.CFG_VER_FLOOR, 0, 0, 0⟩ ∉ s.dev.onceWritten → ∃ t, write (regOffset ⟨.CFG_VER_FLOOR, 0, 0, 0⟩) v s = .next t ∧
      get t.dev .CFG_VER_FLOOR = v.toNat ∧ ∀ u, Serves u → u.dev.onceWritten = t.dev.onceWritten →
        Gives (.registerWrite (regOffset ⟨.CFG_VER_FLOOR, 0, 0, 0⟩) 4 lo) u (regAccess u.env (regOffset ⟨.CFG_VER_FLOOR, 0, 0, 0⟩) true u.dev)) ∧
    (∃ t, write 0x280118 lo s = .next t ∧ get t.dev .CLK_RC_SET = get s.dev .CLK_RC_SET ∧
      ∃ u, write 0x28011C hi t = .next u ∧ get u.dev .CLK_RC_SET = lo.toNat + hi.toNat * 2 ^ 32) ∧
    (∃ t, exec (.pairLowRead 0x280108 4) s = .next t ∧ t.dev.outbox = s.dev.outbox ++ [.word (s.clk.ft % 2 ^ 32)] ∧
      ∃ u, exec (.pairLowRead 0x28010C 4) { t with clk := later } = .next u ∧
        u.dev.outbox = t.dev.outbox ++ [.word (s.clk.ft / 2 ^ 32 % 2 ^ 32)])
end

