-- ==== Sys2Proof/Laws/Tables.lean ====
section
/-! SUPPORT. Laws of tables and memories: a read after a write, the keys left alone, and the canonical form, which every
memory operation keeps. -/

namespace Sys2Proof.Machine

variable {κ ν : Type} [DecidableEq κ] [DecidableEq ν]

omit [DecidableEq ν] in
theorem tblGet_tblErase_same (t : List (κ × ν)) (k : κ) (dflt : ν) : tblGet (tblErase t k) k dflt = dflt := by
  induction t with
  | nil => rfl
  | cons e t ih =>
    by_cases h : e.1 = k
    · simpa [tblErase, h] using ih
    · simpa [tblErase, tblGet, h] using ih

omit [DecidableEq ν] in
theorem tblGet_tblErase_ne (t : List (κ × ν)) {k j : κ} (dflt : ν) (hne : j ≠ k) :
    tblGet (tblErase t k) j dflt = tblGet t j dflt := by
  induction t with
  | nil => rfl
  | cons e t ih =>
    by_cases h : e.1 = k
    · have hj : ¬k = j := fun hj => hne hj.symm
      simpa [tblErase, tblGet, h, hj] using ih
    · by_cases hj : e.1 = j <;> simp_all [tblErase, tblGet]

omit [DecidableEq ν] in
theorem tblGet_tblInsert_ne (ord : κ → Nat) (t : List (κ × ν)) {k j : κ} (v dflt : ν) (hne : j ≠ k) :
    tblGet (tblInsert ord t k v) j dflt = tblGet t j dflt := by
  induction t with
  | nil => simp [tblInsert, tblGet, Ne.symm hne]
  | cons e t ih => by_cases h : ord k < ord e.1 <;> simp [tblInsert, tblGet, h, Ne.symm hne, ih]

omit [DecidableEq ν] in
theorem tblGet_tblInsert_same (ord : κ → Nat) (t : List (κ × ν)) (k : κ) (v dflt : ν) (hk : ∀ e ∈ t, e.1 ≠ k) :
    tblGet (tblInsert ord t k v) k dflt = v := by
  induction t with
  | nil => simp [tblInsert, tblGet]
  | cons e t ih =>
    have he : e.1 ≠ k := hk e (by simp)
    by_cases h : ord k < ord e.1
    · simp [tblInsert, tblGet, h]
    · simp [tblInsert, tblGet, h, he, ih (fun x hx => hk x (by simp [hx]))]

omit [DecidableEq ν] in
theorem tblErase_ne (t : List (κ × ν)) (k : κ) : ∀ e ∈ tblErase t k, e.1 ≠ k := by
  simp [tblErase]

/-- A read of the key written gives the value written. -/
@[simp] theorem tblGet_tblSet_same (ord : κ → Nat) (t : List (κ × ν)) (k : κ) (v dflt : ν) :
    tblGet (tblSet ord t k v dflt) k dflt = v := by
  by_cases h : v = dflt
  · simp [tblSet, h, tblGet_tblErase_same]
  · simp [tblSet, h, tblGet_tblInsert_same ord _ k v dflt (tblErase_ne t k)]

/-- A read of another key gives what it gave before. -/
theorem tblGet_tblSet_ne (ord : κ → Nat) (t : List (κ × ν)) {k j : κ} (v dflt dflt' : ν) (hne : j ≠ k) :
    tblGet (tblSet ord t k v dflt) j dflt' = tblGet t j dflt' := by
  by_cases h : v = dflt
  · simp [tblSet, h, tblGet_tblErase_ne t dflt' hne]
  · simp [tblSet, h, tblGet_tblInsert_ne ord _ v dflt' hne, tblGet_tblErase_ne t dflt' hne]

/-- Both in one. -/
theorem tblGet_tblSet (ord : κ → Nat) (t : List (κ × ν)) (k j : κ) (v dflt : ν) :
    tblGet (tblSet ord t k v dflt) j dflt = if j = k then v else tblGet t j dflt := by
  by_cases h : j = k
  · subst h; simp
  · simp [h, tblGet_tblSet_ne ord t v dflt dflt h]

theorem memGet_memSet (m : List Host.Cell) (a x : Nat) (b : Byte) :
    memGet (memSet m a b) x = if x = a then b else memGet m x := tblGet_tblSet _ m a x b 0

/-- What a memory holds after bytes are written: those bytes, and everywhere else what it held. -/
theorem memGet_memWrite (m : List Host.Cell) (a x : Nat) (bs : List Byte) :
    memGet (memWrite m a bs) x = if a ≤ x ∧ x < a + bs.length then bs.getD (x - a) 0 else memGet m x := by
  induction bs generalizing m a with
  | nil =>
    have h : ¬(a ≤ x ∧ x < a + ([] : List Byte).length) := by simp
    rw [if_neg h, memWrite]
  | cons b bs ih =>
    rw [memWrite, ih, memGet_memSet]
    by_cases h1 : x = a
    · subst h1
      simp
    · by_cases h2 : a + 1 ≤ x ∧ x < a + 1 + bs.length
      · have h3 : a ≤ x ∧ x < a + (b :: bs).length := by simp; omega
        have h4 : x - a = (x - (a + 1)) + 1 := by omega
        rw [if_pos h2, if_pos h3, h4]; rfl
      · have h3 : ¬(a ≤ x ∧ x < a + (b :: bs).length) := by simp; omega
        rw [if_neg h2, if_neg h3, if_neg h1]

/-- The canonical form, written as a property of neighbours. -/
theorem memWf_cons (c : Host.Cell) (m : List Host.Cell) :
    memWf (c :: m) = true ↔ c.2 ≠ 0 ∧ (∀ x, m.head? = some x → c.1 < x.1) ∧ memWf m = true := by
  cases m with
  | nil => simp [memWf]
  | cons y m => simp [memWf, and_assoc]

theorem memWf_lt {c : Host.Cell} {m : List Host.Cell} (h : memWf (c :: m) = true) : ∀ e ∈ m, c.1 < e.1 := by
  induction m generalizing c with
  | nil => simp
  | cons y m ih =>
    obtain ⟨-, h2, h3⟩ := (memWf_cons c (y :: m)).1 h
    intro e he
    have hy := h2 y rfl
    rcases List.mem_cons.1 he with rfl | he
    · exact hy
    · exact lt_trans hy (ih h3 e he)

theorem memWf_tail {c : Host.Cell} {m : List Host.Cell} (h : memWf (c :: m) = true) : memWf m = true :=
  ((memWf_cons c m).1 h).2.2

theorem memWf_of_lt {c : Host.Cell} {m : List Host.Cell} (hc : c.2 ≠ 0) (hl : ∀ e ∈ m, c.1 < e.1) (hm : memWf m = true) :
    memWf (c :: m) = true :=
  (memWf_cons c m).2 ⟨hc, fun x hx => hl x (List.mem_of_head? hx), hm⟩

theorem memWf_erase {m : List Host.Cell} (a : Nat) (h : memWf m = true) : memWf (tblErase m a) = true := by
  induction m with
  | nil => rfl
  | cons c m ih =>
    have hm := ih (memWf_tail h)
    by_cases hc : c.1 = a
    · simpa [tblErase, hc] using hm
    · have : tblErase (c :: m) a = c :: tblErase m a := by simp [tblErase, hc]
      rw [this]
      refine memWf_of_lt ((memWf_cons c m).1 h).1 (fun e he => memWf_lt h e ?_) hm
      exact List.mem_of_mem_filter he

theorem mem_tblInsert (ord : κ → Nat) (t : List (κ × ν)) (k : κ) (v : ν) (e : κ × ν) :
    e ∈ tblInsert ord t k v ↔ e = (k, v) ∨ e ∈ t := by
  induction t with
  | nil => simp [tblInsert]
  | cons x t ih =>
    by_cases h : ord k < ord x.1
    · simp [tblInsert, h]
    · simp [tblInsert, h, ih]; tauto

theorem memWf_insert {m : List Host.Cell} (a : Nat) {b : Byte} (hb : b ≠ 0) (h : memWf m = true) (hk : ∀ e ∈ m, e.1 ≠ a) :
    memWf (tblInsert (fun k => k) m a b) = true := by
  induction m with
  | nil => simpa [tblInsert, memWf] using hb
  | cons c m ih =>
    by_cases hc : a < c.1
    · simp only [tblInsert, hc, if_true]
      refine memWf_of_lt hb (fun e he => ?_) h
      rcases List.mem_cons.1 he with rfl | he
      · exact hc
      · exact lt_trans hc (memWf_lt h e he)
    · have hne : c.1 ≠ a := hk c (by simp)
      have hca : c.1 < a := by omega
      simp only [tblInsert, hc, if_false]
      refine memWf_of_lt ((memWf_cons c m).1 h).1 (fun e he => ?_) (ih (memWf_tail h) (fun e he => hk e (by simp [he])))
      rcases (mem_tblInsert _ _ _ _ _).1 he with rfl | he
      · exact hca
      · exact memWf_lt h e he

/-- Every write of one byte keeps the canonical form. -/
theorem memWf_memSet {m : List Host.Cell} (a : Nat) (b : Byte) (h : memWf m = true) : memWf (memSet m a b) = true := by
  unfold memSet tblSet
  split
  · exact memWf_erase a h
  · exact memWf_insert a ‹_› (memWf_erase a h) (tblErase_ne m a)

/-- Every write of bytes keeps the canonical form. -/
theorem memWf_memWrite {m : List Host.Cell} (a : Nat) (bs : List Byte) (h : memWf m = true) :
    memWf (memWrite m a bs) = true := by
  induction bs generalizing m a with
  | nil => exact h
  | cons b bs ih => exact ih (a + 1) (memWf_memSet a b h)

/-- An element placed in a list joins its elements. -/
theorem mem_placeIn {α : Type} (le : α → α → Bool) (x y : α) (l : List α) : y ∈ placeIn le x l ↔ y = x ∨ y ∈ l := by
  induction l with
  | nil => simp [placeIn]
  | cons z l ih =>
    simp only [placeIn]
    split <;> simp_all <;> tauto

/-- Sorting keeps the elements. -/
@[simp] theorem mem_sortBy {α : Type} (le : α → α → Bool) (y : α) (l : List α) : y ∈ sortBy le l ↔ y ∈ l := by
  induction l with
  | nil => simp [sortBy]
  | cons x l ih =>
    have k : sortBy le (x :: l) = placeIn le x (sortBy le l) := rfl
    simp [k, mem_placeIn, ih]

end Sys2Proof.Machine
end

