-- ==== Sys2Proof/Laws/State.lean ====
section
/-! SUPPORT. One law for each field of the device and each of its named updates: every update but that of its own field
leaves it. Then what each reader sees after each update. Generated from the list of fields. -/

namespace Sys2Proof.Machine

@[simp] theorem rset_power (d : Dev) (k : RegKey) (v : Nat) : (rset d k v).power = d.power := rfl
@[simp] theorem rset_pins (d : Dev) (k : RegKey) (v : Nat) : (rset d k v).pins = d.pins := rfl
@[simp] theorem rset_outbox (d : Dev) (k : RegKey) (v : Nat) : (rset d k v).outbox = d.outbox := rfl
@[simp] theorem rset_hbm (d : Dev) (k : RegKey) (v : Nat) : (rset d k v).hbm = d.hbm := rfl
@[simp] theorem rset_ts (d : Dev) (k : RegKey) (v : Nat) : (rset d k v).ts = d.ts := rfl
@[simp] theorem rset_gs (d : Dev) (k : RegKey) (v : Nat) : (rset d k v).gs = d.gs := rfl
@[simp] theorem rset_tb (d : Dev) (k : RegKey) (v : Nat) : (rset d k v).tb = d.tb := rfl
@[simp] theorem rset_lp (d : Dev) (k : RegKey) (v : Nat) : (rset d k v).lp = d.lp := rfl
@[simp] theorem rset_tsUE (d : Dev) (k : RegKey) (v : Nat) : (rset d k v).tsUE = d.tsUE := rfl
@[simp] theorem rset_gsUE (d : Dev) (k : RegKey) (v : Nat) : (rset d k v).gsUE = d.gsUE := rfl
@[simp] theorem rset_tbUE (d : Dev) (k : RegKey) (v : Nat) : (rset d k v).tbUE = d.tbUE := rfl
@[simp] theorem rset_lineUE (d : Dev) (k : RegKey) (v : Nat) : (rset d k v).lineUE = d.lineUE := rfl
@[simp] theorem rset_wcb (d : Dev) (k : RegKey) (v : Nat) : (rset d k v).wcb = d.wcb := rfl
@[simp] theorem rset_hbmWr (d : Dev) (k : RegKey) (v : Nat) : (rset d k v).hbmWr = d.hbmWr := rfl
@[simp] theorem rset_migs (d : Dev) (k : RegKey) (v : Nat) : (rset d k v).migs = d.migs := rfl
@[simp] theorem rset_patrolCe (d : Dev) (k : RegKey) (v : Nat) : (rset d k v).patrolCe = d.patrolCe := rfl
@[simp] theorem rset_slips (d : Dev) (k : RegKey) (v : Nat) : (rset d k v).slips = d.slips := rfl
@[simp] theorem rset_patrolOver (d : Dev) (k : RegKey) (v : Nat) : (rset d k v).patrolOver = d.patrolOver := rfl
@[simp] theorem rset_strms (d : Dev) (k : RegKey) (v : Nat) : (rset d k v).strms = d.strms := rfl
@[simp] theorem rset_tiles (d : Dev) (k : RegKey) (v : Nat) : (rset d k v).tiles = d.tiles := rfl
@[simp] theorem rset_chans (d : Dev) (k : RegKey) (v : Nat) : (rset d k v).chans = d.chans := rfl
@[simp] theorem rset_arrivals (d : Dev) (k : RegKey) (v : Nat) : (rset d k v).arrivals = d.arrivals := rfl
@[simp] theorem rset_answers (d : Dev) (k : RegKey) (v : Nat) : (rset d k v).answers = d.answers := rfl
@[simp] theorem rset_links (d : Dev) (k : RegKey) (v : Nat) : (rset d k v).links = d.links := rfl
@[simp] theorem rset_tags (d : Dev) (k : RegKey) (v : Nat) : (rset d k v).tags = d.tags := rfl
@[simp] theorem rset_hoistUps (d : Dev) (k : RegKey) (v : Nat) : (rset d k v).hoistUps = d.hoistUps := rfl
@[simp] theorem rset_hoistArrived (d : Dev) (k : RegKey) (v : Nat) : (rset d k v).hoistArrived = d.hoistArrived := rfl
@[simp] theorem rset_linkMask (d : Dev) (k : RegKey) (v : Nat) : (rset d k v).linkMask = d.linkMask := rfl
@[simp] theorem rset_ethMask (d : Dev) (k : RegKey) (v : Nat) : (rset d k v).ethMask = d.ethMask := rfl
@[simp] theorem rset_cols (d : Dev) (k : RegKey) (v : Nat) : (rset d k v).cols = d.cols := rfl
@[simp] theorem rset_colNext (d : Dev) (k : RegKey) (v : Nat) : (rset d k v).colNext = d.colNext := rfl
@[simp] theorem rset_early (d : Dev) (k : RegKey) (v : Nat) : (rset d k v).early = d.early := rfl
@[simp] theorem rset_qps (d : Dev) (k : RegKey) (v : Nat) : (rset d k v).qps = d.qps := rfl
@[simp] theorem rset_ethRem (d : Dev) (k : RegKey) (v : Nat) : (rset d k v).ethRem = d.ethRem := rfl
@[simp] theorem rset_pfc (d : Dev) (k : RegKey) (v : Nat) : (rset d k v).pfc = d.pfc := rfl
@[simp] theorem rset_ctxs (d : Dev) (k : RegKey) (v : Nat) : (rset d k v).ctxs = d.ctxs := rfl
@[simp] theorem rset_gridX (d : Dev) (k : RegKey) (v : Nat) : (rset d k v).gridX = d.gridX := rfl
@[simp] theorem rset_rc (d : Dev) (k : RegKey) (v : Nat) : (rset d k v).rc = d.rc := rfl
@[simp] theorem rset_armed (d : Dev) (k : RegKey) (v : Nat) : (rset d k v).armed = d.armed := rfl
@[simp] theorem rset_rcStopped (d : Dev) (k : RegKey) (v : Nat) : (rset d k v).rcStopped = d.rcStopped := rfl
@[simp] theorem rset_lineTags (d : Dev) (k : RegKey) (v : Nat) : (rset d k v).lineTags = d.lineTags := rfl
@[simp] theorem rset_shadowBases (d : Dev) (k : RegKey) (v : Nat) : (rset d k v).shadowBases = d.shadowBases := rfl
@[simp] theorem rset_log (d : Dev) (k : RegKey) (v : Nat) : (rset d k v).log = d.log := rfl
@[simp] theorem rset_logNext (d : Dev) (k : RegKey) (v : Nat) : (rset d k v).logNext = d.logNext := rfl
@[simp] theorem rset_notes (d : Dev) (k : RegKey) (v : Nat) : (rset d k v).notes = d.notes := rfl
@[simp] theorem rset_logLost (d : Dev) (k : RegKey) (v : Nat) : (rset d k v).logLost = d.logLost := rfl
@[simp] theorem rset_samples (d : Dev) (k : RegKey) (v : Nat) : (rset d k v).samples = d.samples := rfl
@[simp] theorem rset_monDiv (d : Dev) (k : RegKey) (v : Nat) : (rset d k v).monDiv = d.monDiv := rfl
@[simp] theorem rset_snap (d : Dev) (k : RegKey) (v : Nat) : (rset d k v).snap = d.snap := rfl
@[simp] theorem rset_placeDue (d : Dev) (k : RegKey) (v : Nat) : (rset d k v).placeDue = d.placeDue := rfl
@[simp] theorem rset_mapLog (d : Dev) (k : RegKey) (v : Nat) : (rset d k v).mapLog = d.mapLog := rfl
@[simp] theorem rset_undo (d : Dev) (k : RegKey) (v : Nat) : (rset d k v).undo = d.undo := rfl
@[simp] theorem rset_fatals (d : Dev) (k : RegKey) (v : Nat) : (rset d k v).fatals = d.fatals := rfl
@[simp] theorem rset_fwDead (d : Dev) (k : RegKey) (v : Nat) : (rset d k v).fwDead = d.fwDead := rfl
@[simp] theorem rset_sensors (d : Dev) (k : RegKey) (v : Nat) : (rset d k v).sensors = d.sensors := rfl
@[simp] theorem rset_kTok (d : Dev) (k : RegKey) (v : Nat) : (rset d k v).kTok = d.kTok := rfl
@[simp] theorem rset_kOver (d : Dev) (k : RegKey) (v : Nat) : (rset d k v).kOver = d.kOver := rfl
@[simp] theorem rset_kTherm (d : Dev) (k : RegKey) (v : Nat) : (rset d k v).kTherm = d.kTherm := rfl
@[simp] theorem rset_mated (d : Dev) (k : RegKey) (v : Nat) : (rset d k v).mated = d.mated := rfl
@[simp] theorem rset_inputs (d : Dev) (k : RegKey) (v : Nat) : (rset d k v).inputs = d.inputs := rfl
@[simp] theorem rset_calNext (d : Dev) (k : RegKey) (v : Nat) : (rset d k v).calNext = d.calNext := rfl
@[simp] theorem rset_stageMask (d : Dev) (k : RegKey) (v : Nat) : (rset d k v).stageMask = d.stageMask := rfl
@[simp] theorem rset_ethMacs (d : Dev) (k : RegKey) (v : Nat) : (rset d k v).ethMacs = d.ethMacs := rfl
@[simp] theorem rset_meas (d : Dev) (k : RegKey) (v : Nat) : (rset d k v).meas = d.meas := rfl
@[simp] theorem rset_ucHeld (d : Dev) (k : RegKey) (v : Nat) : (rset d k v).ucHeld = d.ucHeld := rfl
@[simp] theorem rset_calHeld (d : Dev) (k : RegKey) (v : Nat) : (rset d k v).calHeld = d.calHeld := rfl
@[simp] theorem rset_ucTiles (d : Dev) (k : RegKey) (v : Nat) : (rset d k v).ucTiles = d.ucTiles := rfl
@[simp] theorem rset_ucLoad (d : Dev) (k : RegKey) (v : Nat) : (rset d k v).ucLoad = d.ucLoad := rfl
@[simp] theorem rset_fuseOp (d : Dev) (k : RegKey) (v : Nat) : (rset d k v).fuseOp = d.fuseOp := rfl
@[simp] theorem rset_verify (d : Dev) (k : RegKey) (v : Nat) : (rset d k v).verify = d.verify := rfl
@[simp] theorem rset_report (d : Dev) (k : RegKey) (v : Nat) : (rset d k v).report = d.report := rfl
@[simp] theorem rset_fwWait (d : Dev) (k : RegKey) (v : Nat) : (rset d k v).fwWait = d.fwWait := rfl
@[simp] theorem rset_packLoad (d : Dev) (k : RegKey) (v : Nat) : (rset d k v).packLoad = d.packLoad := rfl
@[simp] theorem rset_pack (d : Dev) (k : RegKey) (v : Nat) : (rset d k v).pack = d.pack := rfl
@[simp] theorem rset_lovPack (d : Dev) (k : RegKey) (v : Nat) : (rset d k v).lovPack = d.lovPack := rfl
@[simp] theorem rset_lovGo (d : Dev) (k : RegKey) (v : Nat) : (rset d k v).lovGo = d.lovGo := rfl
@[simp] theorem rset_ucieRetrain (d : Dev) (k : RegKey) (v : Nat) : (rset d k v).ucieRetrain = d.ucieRetrain := rfl
@[simp] theorem rset_ucieFails (d : Dev) (k : RegKey) (v : Nat) : (rset d k v).ucieFails = d.ucieFails := rfl
@[simp] theorem rset_ucieReplays (d : Dev) (k : RegKey) (v : Nat) : (rset d k v).ucieReplays = d.ucieReplays := rfl
@[simp] theorem rset_pairLow (d : Dev) (k : RegKey) (v : Nat) : (rset d k v).pairLow = d.pairLow := rfl
@[simp] theorem rset_pairHigh (d : Dev) (k : RegKey) (v : Nat) : (rset d k v).pairHigh = d.pairHigh := rfl
@[simp] theorem rset_pairHighI3c (d : Dev) (k : RegKey) (v : Nat) : (rset d k v).pairHighI3c = d.pairHighI3c := rfl
@[simp] theorem rset_onceWritten (d : Dev) (k : RegKey) (v : Nat) : (rset d k v).onceWritten = d.onceWritten := rfl
@[simp] theorem rset_i3c (d : Dev) (k : RegKey) (v : Nat) : (rset d k v).i3c = d.i3c := rfl
@[simp] theorem rset_jtag (d : Dev) (k : RegKey) (v : Nat) : (rset d k v).jtag = d.jtag := rfl
@[simp] theorem rset_irqLog (d : Dev) (k : RegKey) (v : Nat) : (rset d k v).irqLog = d.irqLog := rfl
@[simp] theorem rset_irqLogAt (d : Dev) (k : RegKey) (v : Nat) : (rset d k v).irqLogAt = d.irqLogAt := rfl
@[simp] theorem rset_free (d : Dev) (k : RegKey) (v : Nat) : (rset d k v).free = d.free := rfl

@[simp] theorem setStrm_power (d : Dev) (p h c : Nat) (s : Strm) : (setStrm d p h c s).power = d.power := rfl
@[simp] theorem setStrm_pins (d : Dev) (p h c : Nat) (s : Strm) : (setStrm d p h c s).pins = d.pins := rfl
@[simp] theorem setStrm_outbox (d : Dev) (p h c : Nat) (s : Strm) : (setStrm d p h c s).outbox = d.outbox := rfl
@[simp] theorem setStrm_regs (d : Dev) (p h c : Nat) (s : Strm) : (setStrm d p h c s).regs = d.regs := rfl
@[simp] theorem setStrm_hbm (d : Dev) (p h c : Nat) (s : Strm) : (setStrm d p h c s).hbm = d.hbm := rfl
@[simp] theorem setStrm_ts (d : Dev) (p h c : Nat) (s : Strm) : (setStrm d p h c s).ts = d.ts := rfl
@[simp] theorem setStrm_gs (d : Dev) (p h c : Nat) (s : Strm) : (setStrm d p h c s).gs = d.gs := rfl
@[simp] theorem setStrm_tb (d : Dev) (p h c : Nat) (s : Strm) : (setStrm d p h c s).tb = d.tb := rfl
@[simp] theorem setStrm_lp (d : Dev) (p h c : Nat) (s : Strm) : (setStrm d p h c s).lp = d.lp := rfl
@[simp] theorem setStrm_tsUE (d : Dev) (p h c : Nat) (s : Strm) : (setStrm d p h c s).tsUE = d.tsUE := rfl
@[simp] theorem setStrm_gsUE (d : Dev) (p h c : Nat) (s : Strm) : (setStrm d p h c s).gsUE = d.gsUE := rfl
@[simp] theorem setStrm_tbUE (d : Dev) (p h c : Nat) (s : Strm) : (setStrm d p h c s).tbUE = d.tbUE := rfl
@[simp] theorem setStrm_lineUE (d : Dev) (p h c : Nat) (s : Strm) : (setStrm d p h c s).lineUE = d.lineUE := rfl
@[simp] theorem setStrm_wcb (d : Dev) (p h c : Nat) (s : Strm) : (setStrm d p h c s).wcb = d.wcb := rfl
@[simp] theorem setStrm_hbmWr (d : Dev) (p h c : Nat) (s : Strm) : (setStrm d p h c s).hbmWr = d.hbmWr := rfl
@[simp] theorem setStrm_migs (d : Dev) (p h c : Nat) (s : Strm) : (setStrm d p h c s).migs = d.migs := rfl
@[simp] theorem setStrm_patrolCe (d : Dev) (p h c : Nat) (s : Strm) : (setStrm d p h c s).patrolCe = d.patrolCe := rfl
@[simp] theorem setStrm_slips (d : Dev) (p h c : Nat) (s : Strm) : (setStrm d p h c s).slips = d.slips := rfl
@[simp] theorem setStrm_patrolOver (d : Dev) (p h c : Nat) (s : Strm) : (setStrm d p h c s).patrolOver = d.patrolOver := rfl
@[simp] theorem setStrm_tiles (d : Dev) (p h c : Nat) (s : Strm) : (setStrm d p h c s).tiles = d.tiles := rfl
@[simp] theorem setStrm_chans (d : Dev) (p h c : Nat) (s : Strm) : (setStrm d p h c s).chans = d.chans := rfl
@[simp] theorem setStrm_arrivals (d : Dev) (p h c : Nat) (s : Strm) : (setStrm d p h c s).arrivals = d.arrivals := rfl
@[simp] theorem setStrm_answers (d : Dev) (p h c : Nat) (s : Strm) : (setStrm d p h c s).answers = d.answers := rfl
@[simp] theorem setStrm_links (d : Dev) (p h c : Nat) (s : Strm) : (setStrm d p h c s).links = d.links := rfl
@[simp] theorem setStrm_tags (d : Dev) (p h c : Nat) (s : Strm) : (setStrm d p h c s).tags = d.tags := rfl
@[simp] theorem setStrm_hoistUps (d : Dev) (p h c : Nat) (s : Strm) : (setStrm d p h c s).hoistUps = d.hoistUps := rfl
@[simp] theorem setStrm_hoistArrived (d : Dev) (p h c : Nat) (s : Strm) : (setStrm d p h c s).hoistArrived = d.hoistArrived := rfl
@[simp] theorem setStrm_linkMask (d : Dev) (p h c : Nat) (s : Strm) : (setStrm d p h c s).linkMask = d.linkMask := rfl
@[simp] theorem setStrm_ethMask (d : Dev) (p h c : Nat) (s : Strm) : (setStrm d p h c s).ethMask = d.ethMask := rfl
@[simp] theorem setStrm_cols (d : Dev) (p h c : Nat) (s : Strm) : (setStrm d p h c s).cols = d.cols := rfl
@[simp] theorem setStrm_colNext (d : Dev) (p h c : Nat) (s : Strm) : (setStrm d p h c s).colNext = d.colNext := rfl
@[simp] theorem setStrm_early (d : Dev) (p h c : Nat) (s : Strm) : (setStrm d p h c s).early = d.early := rfl
@[simp] theorem setStrm_qps (d : Dev) (p h c : Nat) (s : Strm) : (setStrm d p h c s).qps = d.qps := rfl
@[simp] theorem setStrm_ethRem (d : Dev) (p h c : Nat) (s : Strm) : (setStrm d p h c s).ethRem = d.ethRem := rfl
@[simp] theorem setStrm_pfc (d : Dev) (p h c : Nat) (s : Strm) : (setStrm d p h c s).pfc = d.pfc := rfl
@[simp] theorem setStrm_ctxs (d : Dev) (p h c : Nat) (s : Strm) : (setStrm d p h c s).ctxs = d.ctxs := rfl
@[simp] theorem setStrm_gridX (d : Dev) (p h c : Nat) (s : Strm) : (setStrm d p h c s).gridX = d.gridX := rfl
@[simp] theorem setStrm_rc (d : Dev) (p h c : Nat) (s : Strm) : (setStrm d p h c s).rc = d.rc := rfl
@[simp] theorem setStrm_armed (d : Dev) (p h c : Nat) (s : Strm) : (setStrm d p h c s).armed = d.armed := rfl
@[simp] theorem setStrm_rcStopped (d : Dev) (p h c : Nat) (s : Strm) : (setStrm d p h c s).rcStopped = d.rcStopped := rfl
@[simp] theorem setStrm_lineTags (d : Dev) (p h c : Nat) (s : Strm) : (setStrm d p h c s).lineTags = d.lineTags := rfl
@[simp] theorem setStrm_shadowBases (d : Dev) (p h c : Nat) (s : Strm) : (setStrm d p h c s).shadowBases = d.shadowBases := rfl
@[simp] theorem setStrm_log (d : Dev) (p h c : Nat) (s : Strm) : (setStrm d p h c s).log = d.log := rfl
@[simp] theorem setStrm_logNext (d : Dev) (p h c : Nat) (s : Strm) : (setStrm d p h c s).logNext = d.logNext := rfl
@[simp] theorem setStrm_notes (d : Dev) (p h c : Nat) (s : Strm) : (setStrm d p h c s).notes = d.notes := rfl
@[simp] theorem setStrm_logLost (d : Dev) (p h c : Nat) (s : Strm) : (setStrm d p h c s).logLost = d.logLost := rfl
@[simp] theorem setStrm_samples (d : Dev) (p h c : Nat) (s : Strm) : (setStrm d p h c s).samples = d.samples := rfl
@[simp] theorem setStrm_monDiv (d : Dev) (p h c : Nat) (s : Strm) : (setStrm d p h c s).monDiv = d.monDiv := rfl
@[simp] theorem setStrm_snap (d : Dev) (p h c : Nat) (s : Strm) : (setStrm d p h c s).snap = d.snap := rfl
@[simp] theorem setStrm_placeDue (d : Dev) (p h c : Nat) (s : Strm) : (setStrm d p h c s).placeDue = d.placeDue := rfl
@[simp] theorem setStrm_mapLog (d : Dev) (p h c : Nat) (s : Strm) : (setStrm d p h c s).mapLog = d.mapLog := rfl
@[simp] theorem setStrm_undo (d : Dev) (p h c : Nat) (s : Strm) : (setStrm d p h c s).undo = d.undo := rfl
@[simp] theorem setStrm_fatals (d : Dev) (p h c : Nat) (s : Strm) : (setStrm d p h c s).fatals = d.fatals := rfl
@[simp] theorem setStrm_fwDead (d : Dev) (p h c : Nat) (s : Strm) : (setStrm d p h c s).fwDead = d.fwDead := rfl
@[simp] theorem setStrm_sensors (d : Dev) (p h c : Nat) (s : Strm) : (setStrm d p h c s).sensors = d.sensors := rfl
@[simp] theorem setStrm_kTok (d : Dev) (p h c : Nat) (s : Strm) : (setStrm d p h c s).kTok = d.kTok := rfl
@[simp] theorem setStrm_kOver (d : Dev) (p h c : Nat) (s : Strm) : (setStrm d p h c s).kOver = d.kOver := rfl
@[simp] theorem setStrm_kTherm (d : Dev) (p h c : Nat) (s : Strm) : (setStrm d p h c s).kTherm = d.kTherm := rfl
@[simp] theorem setStrm_mated (d : Dev) (p h c : Nat) (s : Strm) : (setStrm d p h c s).mated = d.mated := rfl
@[simp] theorem setStrm_inputs (d : Dev) (p h c : Nat) (s : Strm) : (setStrm d p h c s).inputs = d.inputs := rfl
@[simp] theorem setStrm_calNext (d : Dev) (p h c : Nat) (s : Strm) : (setStrm d p h c s).calNext = d.calNext := rfl
@[simp] theorem setStrm_stageMask (d : Dev) (p h c : Nat) (s : Strm) : (setStrm d p h c s).stageMask = d.stageMask := rfl
@[simp] theorem setStrm_ethMacs (d : Dev) (p h c : Nat) (s : Strm) : (setStrm d p h c s).ethMacs = d.ethMacs := rfl
@[simp] theorem setStrm_meas (d : Dev) (p h c : Nat) (s : Strm) : (setStrm d p h c s).meas = d.meas := rfl
@[simp] theorem setStrm_ucHeld (d : Dev) (p h c : Nat) (s : Strm) : (setStrm d p h c s).ucHeld = d.ucHeld := rfl
@[simp] theorem setStrm_calHeld (d : Dev) (p h c : Nat) (s : Strm) : (setStrm d p h c s).calHeld = d.calHeld := rfl
@[simp] theorem setStrm_ucTiles (d : Dev) (p h c : Nat) (s : Strm) : (setStrm d p h c s).ucTiles = d.ucTiles := rfl
@[simp] theorem setStrm_ucLoad (d : Dev) (p h c : Nat) (s : Strm) : (setStrm d p h c s).ucLoad = d.ucLoad := rfl
@[simp] theorem setStrm_fuseOp (d : Dev) (p h c : Nat) (s : Strm) : (setStrm d p h c s).fuseOp = d.fuseOp := rfl
@[simp] theorem setStrm_verify (d : Dev) (p h c : Nat) (s : Strm) : (setStrm d p h c s).verify = d.verify := rfl
@[simp] theorem setStrm_report (d : Dev) (p h c : Nat) (s : Strm) : (setStrm d p h c s).report = d.report := rfl
@[simp] theorem setStrm_fwWait (d : Dev) (p h c : Nat) (s : Strm) : (setStrm d p h c s).fwWait = d.fwWait := rfl
@[simp] theorem setStrm_packLoad (d : Dev) (p h c : Nat) (s : Strm) : (setStrm d p h c s).packLoad = d.packLoad := rfl
@[simp] theorem setStrm_pack (d : Dev) (p h c : Nat) (s : Strm) : (setStrm d p h c s).pack = d.pack := rfl
@[simp] theorem setStrm_lovPack (d : Dev) (p h c : Nat) (s : Strm) : (setStrm d p h c s).lovPack = d.lovPack := rfl
@[simp] theorem setStrm_lovGo (d : Dev) (p h c : Nat) (s : Strm) : (setStrm d p h c s).lovGo = d.lovGo := rfl
@[simp] theorem setStrm_ucieRetrain (d : Dev) (p h c : Nat) (s : Strm) : (setStrm d p h c s).ucieRetrain = d.ucieRetrain := rfl
@[simp] theorem setStrm_ucieFails (d : Dev) (p h c : Nat) (s : Strm) : (setStrm d p h c s).ucieFails = d.ucieFails := rfl
@[simp] theorem setStrm_ucieReplays (d : Dev) (p h c : Nat) (s : Strm) : (setStrm d p h c s).ucieReplays = d.ucieReplays := rfl
@[simp] theorem setStrm_pairLow (d : Dev) (p h c : Nat) (s : Strm) : (setStrm d p h c s).pairLow = d.pairLow := rfl
@[simp] theorem setStrm_pairHigh (d : Dev) (p h c : Nat) (s : Strm) : (setStrm d p h c s).pairHigh = d.pairHigh := rfl
@[simp] theorem setStrm_pairHighI3c (d : Dev) (p h c : Nat) (s : Strm) : (setStrm d p h c s).pairHighI3c = d.pairHighI3c := rfl
@[simp] theorem setStrm_onceWritten (d : Dev) (p h c : Nat) (s : Strm) : (setStrm d p h c s).onceWritten = d.onceWritten := rfl
@[simp] theorem setStrm_i3c (d : Dev) (p h c : Nat) (s : Strm) : (setStrm d p h c s).i3c = d.i3c := rfl
@[simp] theorem setStrm_jtag (d : Dev) (p h c : Nat) (s : Strm) : (setStrm d p h c s).jtag = d.jtag := rfl
@[simp] theorem setStrm_irqLog (d : Dev) (p h c : Nat) (s : Strm) : (setStrm d p h c s).irqLog = d.irqLog := rfl
@[simp] theorem setStrm_irqLogAt (d : Dev) (p h c : Nat) (s : Strm) : (setStrm d p h c s).irqLogAt = d.irqLogAt := rfl
@[simp] theorem setStrm_free (d : Dev) (p h c : Nat) (s : Strm) : (setStrm d p h c s).free = d.free := rfl

@[simp] theorem setTile_power (d : Dev) (p : Nat) (t : TileSt) : (setTile d p t).power = d.power := rfl
@[simp] theorem setTile_pins (d : Dev) (p : Nat) (t : TileSt) : (setTile d p t).pins = d.pins := rfl
@[simp] theorem setTile_outbox (d : Dev) (p : Nat) (t : TileSt) : (setTile d p t).outbox = d.outbox := rfl
@[simp] theorem setTile_regs (d : Dev) (p : Nat) (t : TileSt) : (setTile d p t).regs = d.regs := rfl
@[simp] theorem setTile_hbm (d : Dev) (p : Nat) (t : TileSt) : (setTile d p t).hbm = d.hbm := rfl
@[simp] theorem setTile_ts (d : Dev) (p : Nat) (t : TileSt) : (setTile d p t).ts = d.ts := rfl
@[simp] theorem setTile_gs (d : Dev) (p : Nat) (t : TileSt) : (setTile d p t).gs = d.gs := rfl
@[simp] theorem setTile_tb (d : Dev) (p : Nat) (t : TileSt) : (setTile d p t).tb = d.tb := rfl
@[simp] theorem setTile_lp (d : Dev) (p : Nat) (t : TileSt) : (setTile d p t).lp = d.lp := rfl
@[simp] theorem setTile_tsUE (d : Dev) (p : Nat) (t : TileSt) : (setTile d p t).tsUE = d.tsUE := rfl
@[simp] theorem setTile_gsUE (d : Dev) (p : Nat) (t : TileSt) : (setTile d p t).gsUE = d.gsUE := rfl
@[simp] theorem setTile_tbUE (d : Dev) (p : Nat) (t : TileSt) : (setTile d p t).tbUE = d.tbUE := rfl
@[simp] theorem setTile_lineUE (d : Dev) (p : Nat) (t : TileSt) : (setTile d p t).lineUE = d.lineUE := rfl
@[simp] theorem setTile_wcb (d : Dev) (p : Nat) (t : TileSt) : (setTile d p t).wcb = d.wcb := rfl
@[simp] theorem setTile_hbmWr (d : Dev) (p : Nat) (t : TileSt) : (setTile d p t).hbmWr = d.hbmWr := rfl
@[simp] theorem setTile_migs (d : Dev) (p : Nat) (t : TileSt) : (setTile d p t).migs = d.migs := rfl
@[simp] theorem setTile_patrolCe (d : Dev) (p : Nat) (t : TileSt) : (setTile d p t).patrolCe = d.patrolCe := rfl
@[simp] theorem setTile_slips (d : Dev) (p : Nat) (t : TileSt) : (setTile d p t).slips = d.slips := rfl
@[simp] theorem setTile_patrolOver (d : Dev) (p : Nat) (t : TileSt) : (setTile d p t).patrolOver = d.patrolOver := rfl
@[simp] theorem setTile_strms (d : Dev) (p : Nat) (t : TileSt) : (setTile d p t).strms = d.strms := rfl
@[simp] theorem setTile_chans (d : Dev) (p : Nat) (t : TileSt) : (setTile d p t).chans = d.chans := rfl
@[simp] theorem setTile_arrivals (d : Dev) (p : Nat) (t : TileSt) : (setTile d p t).arrivals = d.arrivals := rfl
@[simp] theorem setTile_answers (d : Dev) (p : Nat) (t : TileSt) : (setTile d p t).answers = d.answers := rfl
@[simp] theorem setTile_links (d : Dev) (p : Nat) (t : TileSt) : (setTile d p t).links = d.links := rfl
@[simp] theorem setTile_tags (d : Dev) (p : Nat) (t : TileSt) : (setTile d p t).tags = d.tags := rfl
@[simp] theorem setTile_hoistUps (d : Dev) (p : Nat) (t : TileSt) : (setTile d p t).hoistUps = d.hoistUps := rfl
@[simp] theorem setTile_hoistArrived (d : Dev) (p : Nat) (t : TileSt) : (setTile d p t).hoistArrived = d.hoistArrived := rfl
@[simp] theorem setTile_linkMask (d : Dev) (p : Nat) (t : TileSt) : (setTile d p t).linkMask = d.linkMask := rfl
@[simp] theorem setTile_ethMask (d : Dev) (p : Nat) (t : TileSt) : (setTile d p t).ethMask = d.ethMask := rfl
@[simp] theorem setTile_cols (d : Dev) (p : Nat) (t : TileSt) : (setTile d p t).cols = d.cols := rfl
@[simp] theorem setTile_colNext (d : Dev) (p : Nat) (t : TileSt) : (setTile d p t).colNext = d.colNext := rfl
@[simp] theorem setTile_early (d : Dev) (p : Nat) (t : TileSt) : (setTile d p t).early = d.early := rfl
@[simp] theorem setTile_qps (d : Dev) (p : Nat) (t : TileSt) : (setTile d p t).qps = d.qps := rfl
@[simp] theorem setTile_ethRem (d : Dev) (p : Nat) (t : TileSt) : (setTile d p t).ethRem = d.ethRem := rfl
@[simp] theorem setTile_pfc (d : Dev) (p : Nat) (t : TileSt) : (setTile d p t).pfc = d.pfc := rfl
@[simp] theorem setTile_ctxs (d : Dev) (p : Nat) (t : TileSt) : (setTile d p t).ctxs = d.ctxs := rfl
@[simp] theorem setTile_gridX (d : Dev) (p : Nat) (t : TileSt) : (setTile d p t).gridX = d.gridX := rfl
@[simp] theorem setTile_rc (d : Dev) (p : Nat) (t : TileSt) : (setTile d p t).rc = d.rc := rfl
@[simp] theorem setTile_armed (d : Dev) (p : Nat) (t : TileSt) : (setTile d p t).armed = d.armed := rfl
@[simp] theorem setTile_rcStopped (d : Dev) (p : Nat) (t : TileSt) : (setTile d p t).rcStopped = d.rcStopped := rfl
@[simp] theorem setTile_lineTags (d : Dev) (p : Nat) (t : TileSt) : (setTile d p t).lineTags = d.lineTags := rfl
@[simp] theorem setTile_shadowBases (d : Dev) (p : Nat) (t : TileSt) : (setTile d p t).shadowBases = d.shadowBases := rfl
@[simp] theorem setTile_log (d : Dev) (p : Nat) (t : TileSt) : (setTile d p t).log = d.log := rfl
@[simp] theorem setTile_logNext (d : Dev) (p : Nat) (t : TileSt) : (setTile d p t).logNext = d.logNext := rfl
@[simp] theorem setTile_notes (d : Dev) (p : Nat) (t : TileSt) : (setTile d p t).notes = d.notes := rfl
@[simp] theorem setTile_logLost (d : Dev) (p : Nat) (t : TileSt) : (setTile d p t).logLost = d.logLost := rfl
@[simp] theorem setTile_samples (d : Dev) (p : Nat) (t : TileSt) : (setTile d p t).samples = d.samples := rfl
@[simp] theorem setTile_monDiv (d : Dev) (p : Nat) (t : TileSt) : (setTile d p t).monDiv = d.monDiv := rfl
@[simp] theorem setTile_snap (d : Dev) (p : Nat) (t : TileSt) : (setTile d p t).snap = d.snap := rfl
@[simp] theorem setTile_placeDue (d : Dev) (p : Nat) (t : TileSt) : (setTile d p t).placeDue = d.placeDue := rfl
@[simp] theorem setTile_mapLog (d : Dev) (p : Nat) (t : TileSt) : (setTile d p t).mapLog = d.mapLog := rfl
@[simp] theorem setTile_undo (d : Dev) (p : Nat) (t : TileSt) : (setTile d p t).undo = d.undo := rfl
@[simp] theorem setTile_fatals (d : Dev) (p : Nat) (t : TileSt) : (setTile d p t).fatals = d.fatals := rfl
@[simp] theorem setTile_fwDead (d : Dev) (p : Nat) (t : TileSt) : (setTile d p t).fwDead = d.fwDead := rfl
@[simp] theorem setTile_sensors (d : Dev) (p : Nat) (t : TileSt) : (setTile d p t).sensors = d.sensors := rfl
@[simp] theorem setTile_kTok (d : Dev) (p : Nat) (t : TileSt) : (setTile d p t).kTok = d.kTok := rfl
@[simp] theorem setTile_kOver (d : Dev) (p : Nat) (t : TileSt) : (setTile d p t).kOver = d.kOver := rfl
@[simp] theorem setTile_kTherm (d : Dev) (p : Nat) (t : TileSt) : (setTile d p t).kTherm = d.kTherm := rfl
@[simp] theorem setTile_mated (d : Dev) (p : Nat) (t : TileSt) : (setTile d p t).mated = d.mated := rfl
@[simp] theorem setTile_inputs (d : Dev) (p : Nat) (t : TileSt) : (setTile d p t).inputs = d.inputs := rfl
@[simp] theorem setTile_calNext (d : Dev) (p : Nat) (t : TileSt) : (setTile d p t).calNext = d.calNext := rfl
@[simp] theorem setTile_stageMask (d : Dev) (p : Nat) (t : TileSt) : (setTile d p t).stageMask = d.stageMask := rfl
@[simp] theorem setTile_ethMacs (d : Dev) (p : Nat) (t : TileSt) : (setTile d p t).ethMacs = d.ethMacs := rfl
@[simp] theorem setTile_meas (d : Dev) (p : Nat) (t : TileSt) : (setTile d p t).meas = d.meas := rfl
@[simp] theorem setTile_ucHeld (d : Dev) (p : Nat) (t : TileSt) : (setTile d p t).ucHeld = d.ucHeld := rfl
@[simp] theorem setTile_calHeld (d : Dev) (p : Nat) (t : TileSt) : (setTile d p t).calHeld = d.calHeld := rfl
@[simp] theorem setTile_ucTiles (d : Dev) (p : Nat) (t : TileSt) : (setTile d p t).ucTiles = d.ucTiles := rfl
@[simp] theorem setTile_ucLoad (d : Dev) (p : Nat) (t : TileSt) : (setTile d p t).ucLoad = d.ucLoad := rfl
@[simp] theorem setTile_fuseOp (d : Dev) (p : Nat) (t : TileSt) : (setTile d p t).fuseOp = d.fuseOp := rfl
@[simp] theorem setTile_verify (d : Dev) (p : Nat) (t : TileSt) : (setTile d p t).verify = d.verify := rfl
@[simp] theorem setTile_report (d : Dev) (p : Nat) (t : TileSt) : (setTile d p t).report = d.report := rfl
@[simp] theorem setTile_fwWait (d : Dev) (p : Nat) (t : TileSt) : (setTile d p t).fwWait = d.fwWait := rfl
@[simp] theorem setTile_packLoad (d : Dev) (p : Nat) (t : TileSt) : (setTile d p t).packLoad = d.packLoad := rfl
@[simp] theorem setTile_pack (d : Dev) (p : Nat) (t : TileSt) : (setTile d p t).pack = d.pack := rfl
@[simp] theorem setTile_lovPack (d : Dev) (p : Nat) (t : TileSt) : (setTile d p t).lovPack = d.lovPack := rfl
@[simp] theorem setTile_lovGo (d : Dev) (p : Nat) (t : TileSt) : (setTile d p t).lovGo = d.lovGo := rfl
@[simp] theorem setTile_ucieRetrain (d : Dev) (p : Nat) (t : TileSt) : (setTile d p t).ucieRetrain = d.ucieRetrain := rfl
@[simp] theorem setTile_ucieFails (d : Dev) (p : Nat) (t : TileSt) : (setTile d p t).ucieFails = d.ucieFails := rfl
@[simp] theorem setTile_ucieReplays (d : Dev) (p : Nat) (t : TileSt) : (setTile d p t).ucieReplays = d.ucieReplays := rfl
@[simp] theorem setTile_pairLow (d : Dev) (p : Nat) (t : TileSt) : (setTile d p t).pairLow = d.pairLow := rfl
@[simp] theorem setTile_pairHigh (d : Dev) (p : Nat) (t : TileSt) : (setTile d p t).pairHigh = d.pairHigh := rfl
@[simp] theorem setTile_pairHighI3c (d : Dev) (p : Nat) (t : TileSt) : (setTile d p t).pairHighI3c = d.pairHighI3c := rfl
@[simp] theorem setTile_onceWritten (d : Dev) (p : Nat) (t : TileSt) : (setTile d p t).onceWritten = d.onceWritten := rfl
@[simp] theorem setTile_i3c (d : Dev) (p : Nat) (t : TileSt) : (setTile d p t).i3c = d.i3c := rfl
@[simp] theorem setTile_jtag (d : Dev) (p : Nat) (t : TileSt) : (setTile d p t).jtag = d.jtag := rfl
@[simp] theorem setTile_irqLog (d : Dev) (p : Nat) (t : TileSt) : (setTile d p t).irqLog = d.irqLog := rfl
@[simp] theorem setTile_irqLogAt (d : Dev) (p : Nat) (t : TileSt) : (setTile d p t).irqLogAt = d.irqLogAt := rfl
@[simp] theorem setTile_free (d : Dev) (p : Nat) (t : TileSt) : (setTile d p t).free = d.free := rfl

@[simp] theorem setChan_power (d : Dev) (p n : Nat) (ch : Chan) : (setChan d p n ch).power = d.power := rfl
@[simp] theorem setChan_pins (d : Dev) (p n : Nat) (ch : Chan) : (setChan d p n ch).pins = d.pins := rfl
@[simp] theorem setChan_outbox (d : Dev) (p n : Nat) (ch : Chan) : (setChan d p n ch).outbox = d.outbox := rfl
@[simp] theorem setChan_regs (d : Dev) (p n : Nat) (ch : Chan) : (setChan d p n ch).regs = d.regs := rfl
@[simp] theorem setChan_hbm (d : Dev) (p n : Nat) (ch : Chan) : (setChan d p n ch).hbm = d.hbm := rfl
@[simp] theorem setChan_ts (d : Dev) (p n : Nat) (ch : Chan) : (setChan d p n ch).ts = d.ts := rfl
@[simp] theorem setChan_gs (d : Dev) (p n : Nat) (ch : Chan) : (setChan d p n ch).gs = d.gs := rfl
@[simp] theorem setChan_tb (d : Dev) (p n : Nat) (ch : Chan) : (setChan d p n ch).tb = d.tb := rfl
@[simp] theorem setChan_lp (d : Dev) (p n : Nat) (ch : Chan) : (setChan d p n ch).lp = d.lp := rfl
@[simp] theorem setChan_tsUE (d : Dev) (p n : Nat) (ch : Chan) : (setChan d p n ch).tsUE = d.tsUE := rfl
@[simp] theorem setChan_gsUE (d : Dev) (p n : Nat) (ch : Chan) : (setChan d p n ch).gsUE = d.gsUE := rfl
@[simp] theorem setChan_tbUE (d : Dev) (p n : Nat) (ch : Chan) : (setChan d p n ch).tbUE = d.tbUE := rfl
@[simp] theorem setChan_lineUE (d : Dev) (p n : Nat) (ch : Chan) : (setChan d p n ch).lineUE = d.lineUE := rfl
@[simp] theorem setChan_wcb (d : Dev) (p n : Nat) (ch : Chan) : (setChan d p n ch).wcb = d.wcb := rfl
@[simp] theorem setChan_hbmWr (d : Dev) (p n : Nat) (ch : Chan) : (setChan d p n ch).hbmWr = d.hbmWr := rfl
@[simp] theorem setChan_migs (d : Dev) (p n : Nat) (ch : Chan) : (setChan d p n ch).migs = d.migs := rfl
@[simp] theorem setChan_patrolCe (d : Dev) (p n : Nat) (ch : Chan) : (setChan d p n ch).patrolCe = d.patrolCe := rfl
@[simp] theorem setChan_slips (d : Dev) (p n : Nat) (ch : Chan) : (setChan d p n ch).slips = d.slips := rfl
@[simp] theorem setChan_patrolOver (d : Dev) (p n : Nat) (ch : Chan) : (setChan d p n ch).patrolOver = d.patrolOver := rfl
@[simp] theorem setChan_strms (d : Dev) (p n : Nat) (ch : Chan) : (setChan d p n ch).strms = d.strms := rfl
@[simp] theorem setChan_tiles (d : Dev) (p n : Nat) (ch : Chan) : (setChan d p n ch).tiles = d.tiles := rfl
@[simp] theorem setChan_arrivals (d : Dev) (p n : Nat) (ch : Chan) : (setChan d p n ch).arrivals = d.arrivals := rfl
@[simp] theorem setChan_answers (d : Dev) (p n : Nat) (ch : Chan) : (setChan d p n ch).answers = d.answers := rfl
@[simp] theorem setChan_links (d : Dev) (p n : Nat) (ch : Chan) : (setChan d p n ch).links = d.links := rfl
@[simp] theorem setChan_tags (d : Dev) (p n : Nat) (ch : Chan) : (setChan d p n ch).tags = d.tags := rfl
@[simp] theorem setChan_hoistUps (d : Dev) (p n : Nat) (ch : Chan) : (setChan d p n ch).hoistUps = d.hoistUps := rfl
@[simp] theorem setChan_hoistArrived (d : Dev) (p n : Nat) (ch : Chan) : (setChan d p n ch).hoistArrived = d.hoistArrived := rfl
@[simp] theorem setChan_linkMask (d : Dev) (p n : Nat) (ch : Chan) : (setChan d p n ch).linkMask = d.linkMask := rfl
@[simp] theorem setChan_ethMask (d : Dev) (p n : Nat) (ch : Chan) : (setChan d p n ch).ethMask = d.ethMask := rfl
@[simp] theorem setChan_cols (d : Dev) (p n : Nat) (ch : Chan) : (setChan d p n ch).cols = d.cols := rfl
@[simp] theorem setChan_colNext (d : Dev) (p n : Nat) (ch : Chan) : (setChan d p n ch).colNext = d.colNext := rfl
@[simp] theorem setChan_early (d : Dev) (p n : Nat) (ch : Chan) : (setChan d p n ch).early = d.early := rfl
@[simp] theorem setChan_qps (d : Dev) (p n : Nat) (ch : Chan) : (setChan d p n ch).qps = d.qps := rfl
@[simp] theorem setChan_ethRem (d : Dev) (p n : Nat) (ch : Chan) : (setChan d p n ch).ethRem = d.ethRem := rfl
@[simp] theorem setChan_pfc (d : Dev) (p n : Nat) (ch : Chan) : (setChan d p n ch).pfc = d.pfc := rfl
@[simp] theorem setChan_ctxs (d : Dev) (p n : Nat) (ch : Chan) : (setChan d p n ch).ctxs = d.ctxs := rfl
@[simp] theorem setChan_gridX (d : Dev) (p n : Nat) (ch : Chan) : (setChan d p n ch).gridX = d.gridX := rfl
@[simp] theorem setChan_rc (d : Dev) (p n : Nat) (ch : Chan) : (setChan d p n ch).rc = d.rc := rfl
@[simp] theorem setChan_armed (d : Dev) (p n : Nat) (ch : Chan) : (setChan d p n ch).armed = d.armed := rfl
@[simp] theorem setChan_rcStopped (d : Dev) (p n : Nat) (ch : Chan) : (setChan d p n ch).rcStopped = d.rcStopped := rfl
@[simp] theorem setChan_lineTags (d : Dev) (p n : Nat) (ch : Chan) : (setChan d p n ch).lineTags = d.lineTags := rfl
@[simp] theorem setChan_shadowBases (d : Dev) (p n : Nat) (ch : Chan) : (setChan d p n ch).shadowBases = d.shadowBases := rfl
@[simp] theorem setChan_log (d : Dev) (p n : Nat) (ch : Chan) : (setChan d p n ch).log = d.log := rfl
@[simp] theorem setChan_logNext (d : Dev) (p n : Nat) (ch : Chan) : (setChan d p n ch).logNext = d.logNext := rfl
@[simp] theorem setChan_notes (d : Dev) (p n : Nat) (ch : Chan) : (setChan d p n ch).notes = d.notes := rfl
@[simp] theorem setChan_logLost (d : Dev) (p n : Nat) (ch : Chan) : (setChan d p n ch).logLost = d.logLost := rfl
@[simp] theorem setChan_samples (d : Dev) (p n : Nat) (ch : Chan) : (setChan d p n ch).samples = d.samples := rfl
@[simp] theorem setChan_monDiv (d : Dev) (p n : Nat) (ch : Chan) : (setChan d p n ch).monDiv = d.monDiv := rfl
@[simp] theorem setChan_snap (d : Dev) (p n : Nat) (ch : Chan) : (setChan d p n ch).snap = d.snap := rfl
@[simp] theorem setChan_placeDue (d : Dev) (p n : Nat) (ch : Chan) : (setChan d p n ch).placeDue = d.placeDue := rfl
@[simp] theorem setChan_mapLog (d : Dev) (p n : Nat) (ch : Chan) : (setChan d p n ch).mapLog = d.mapLog := rfl
@[simp] theorem setChan_undo (d : Dev) (p n : Nat) (ch : Chan) : (setChan d p n ch).undo = d.undo := rfl
@[simp] theorem setChan_fatals (d : Dev) (p n : Nat) (ch : Chan) : (setChan d p n ch).fatals = d.fatals := rfl
@[simp] theorem setChan_fwDead (d : Dev) (p n : Nat) (ch : Chan) : (setChan d p n ch).fwDead = d.fwDead := rfl
@[simp] theorem setChan_sensors (d : Dev) (p n : Nat) (ch : Chan) : (setChan d p n ch).sensors = d.sensors := rfl
@[simp] theorem setChan_kTok (d : Dev) (p n : Nat) (ch : Chan) : (setChan d p n ch).kTok = d.kTok := rfl
@[simp] theorem setChan_kOver (d : Dev) (p n : Nat) (ch : Chan) : (setChan d p n ch).kOver = d.kOver := rfl
@[simp] theorem setChan_kTherm (d : Dev) (p n : Nat) (ch : Chan) : (setChan d p n ch).kTherm = d.kTherm := rfl
@[simp] theorem setChan_mated (d : Dev) (p n : Nat) (ch : Chan) : (setChan d p n ch).mated = d.mated := rfl
@[simp] theorem setChan_inputs (d : Dev) (p n : Nat) (ch : Chan) : (setChan d p n ch).inputs = d.inputs := rfl
@[simp] theorem setChan_calNext (d : Dev) (p n : Nat) (ch : Chan) : (setChan d p n ch).calNext = d.calNext := rfl
@[simp] theorem setChan_stageMask (d : Dev) (p n : Nat) (ch : Chan) : (setChan d p n ch).stageMask = d.stageMask := rfl
@[simp] theorem setChan_ethMacs (d : Dev) (p n : Nat) (ch : Chan) : (setChan d p n ch).ethMacs = d.ethMacs := rfl
@[simp] theorem setChan_meas (d : Dev) (p n : Nat) (ch : Chan) : (setChan d p n ch).meas = d.meas := rfl
@[simp] theorem setChan_ucHeld (d : Dev) (p n : Nat) (ch : Chan) : (setChan d p n ch).ucHeld = d.ucHeld := rfl
@[simp] theorem setChan_calHeld (d : Dev) (p n : Nat) (ch : Chan) : (setChan d p n ch).calHeld = d.calHeld := rfl
@[simp] theorem setChan_ucTiles (d : Dev) (p n : Nat) (ch : Chan) : (setChan d p n ch).ucTiles = d.ucTiles := rfl
@[simp] theorem setChan_ucLoad (d : Dev) (p n : Nat) (ch : Chan) : (setChan d p n ch).ucLoad = d.ucLoad := rfl
@[simp] theorem setChan_fuseOp (d : Dev) (p n : Nat) (ch : Chan) : (setChan d p n ch).fuseOp = d.fuseOp := rfl
@[simp] theorem setChan_verify (d : Dev) (p n : Nat) (ch : Chan) : (setChan d p n ch).verify = d.verify := rfl
@[simp] theorem setChan_report (d : Dev) (p n : Nat) (ch : Chan) : (setChan d p n ch).report = d.report := rfl
@[simp] theorem setChan_fwWait (d : Dev) (p n : Nat) (ch : Chan) : (setChan d p n ch).fwWait = d.fwWait := rfl
@[simp] theorem setChan_packLoad (d : Dev) (p n : Nat) (ch : Chan) : (setChan d p n ch).packLoad = d.packLoad := rfl
@[simp] theorem setChan_pack (d : Dev) (p n : Nat) (ch : Chan) : (setChan d p n ch).pack = d.pack := rfl
@[simp] theorem setChan_lovPack (d : Dev) (p n : Nat) (ch : Chan) : (setChan d p n ch).lovPack = d.lovPack := rfl
@[simp] theorem setChan_lovGo (d : Dev) (p n : Nat) (ch : Chan) : (setChan d p n ch).lovGo = d.lovGo := rfl
@[simp] theorem setChan_ucieRetrain (d : Dev) (p n : Nat) (ch : Chan) : (setChan d p n ch).ucieRetrain = d.ucieRetrain := rfl
@[simp] theorem setChan_ucieFails (d : Dev) (p n : Nat) (ch : Chan) : (setChan d p n ch).ucieFails = d.ucieFails := rfl
@[simp] theorem setChan_ucieReplays (d : Dev) (p n : Nat) (ch : Chan) : (setChan d p n ch).ucieReplays = d.ucieReplays := rfl
@[simp] theorem setChan_pairLow (d : Dev) (p n : Nat) (ch : Chan) : (setChan d p n ch).pairLow = d.pairLow := rfl
@[simp] theorem setChan_pairHigh (d : Dev) (p n : Nat) (ch : Chan) : (setChan d p n ch).pairHigh = d.pairHigh := rfl
@[simp] theorem setChan_pairHighI3c (d : Dev) (p n : Nat) (ch : Chan) : (setChan d p n ch).pairHighI3c = d.pairHighI3c := rfl
@[simp] theorem setChan_onceWritten (d : Dev) (p n : Nat) (ch : Chan) : (setChan d p n ch).onceWritten = d.onceWritten := rfl
@[simp] theorem setChan_i3c (d : Dev) (p n : Nat) (ch : Chan) : (setChan d p n ch).i3c = d.i3c := rfl
@[simp] theorem setChan_jtag (d : Dev) (p n : Nat) (ch : Chan) : (setChan d p n ch).jtag = d.jtag := rfl
@[simp] theorem setChan_irqLog (d : Dev) (p n : Nat) (ch : Chan) : (setChan d p n ch).irqLog = d.irqLog := rfl
@[simp] theorem setChan_irqLogAt (d : Dev) (p n : Nat) (ch : Chan) : (setChan d p n ch).irqLogAt = d.irqLogAt := rfl
@[simp] theorem setChan_free (d : Dev) (p n : Nat) (ch : Chan) : (setChan d p n ch).free = d.free := rfl

@[simp] theorem setCtx_power (d : Dev) (c : Nat) (x : Ctx) : (setCtx d c x).power = d.power := rfl
@[simp] theorem setCtx_pins (d : Dev) (c : Nat) (x : Ctx) : (setCtx d c x).pins = d.pins := rfl
@[simp] theorem setCtx_outbox (d : Dev) (c : Nat) (x : Ctx) : (setCtx d c x).outbox = d.outbox := rfl
@[simp] theorem setCtx_regs (d : Dev) (c : Nat) (x : Ctx) : (setCtx d c x).regs = d.regs := rfl
@[simp] theorem setCtx_hbm (d : Dev) (c : Nat) (x : Ctx) : (setCtx d c x).hbm = d.hbm := rfl
@[simp] theorem setCtx_ts (d : Dev) (c : Nat) (x : Ctx) : (setCtx d c x).ts = d.ts := rfl
@[simp] theorem setCtx_gs (d : Dev) (c : Nat) (x : Ctx) : (setCtx d c x).gs = d.gs := rfl
@[simp] theorem setCtx_tb (d : Dev) (c : Nat) (x : Ctx) : (setCtx d c x).tb = d.tb := rfl
@[simp] theorem setCtx_lp (d : Dev) (c : Nat) (x : Ctx) : (setCtx d c x).lp = d.lp := rfl
@[simp] theorem setCtx_tsUE (d : Dev) (c : Nat) (x : Ctx) : (setCtx d c x).tsUE = d.tsUE := rfl
@[simp] theorem setCtx_gsUE (d : Dev) (c : Nat) (x : Ctx) : (setCtx d c x).gsUE = d.gsUE := rfl
@[simp] theorem setCtx_tbUE (d : Dev) (c : Nat) (x : Ctx) : (setCtx d c x).tbUE = d.tbUE := rfl
@[simp] theorem setCtx_lineUE (d : Dev) (c : Nat) (x : Ctx) : (setCtx d c x).lineUE = d.lineUE := rfl
@[simp] theorem setCtx_wcb (d : Dev) (c : Nat) (x : Ctx) : (setCtx d c x).wcb = d.wcb := rfl
@[simp] theorem setCtx_hbmWr (d : Dev) (c : Nat) (x : Ctx) : (setCtx d c x).hbmWr = d.hbmWr := rfl
@[simp] theorem setCtx_migs (d : Dev) (c : Nat) (x : Ctx) : (setCtx d c x).migs = d.migs := rfl
@[simp] theorem setCtx_patrolCe (d : Dev) (c : Nat) (x : Ctx) : (setCtx d c x).patrolCe = d.patrolCe := rfl
@[simp] theorem setCtx_slips (d : Dev) (c : Nat) (x : Ctx) : (setCtx d c x).slips = d.slips := rfl
@[simp] theorem setCtx_patrolOver (d : Dev) (c : Nat) (x : Ctx) : (setCtx d c x).patrolOver = d.patrolOver := rfl
@[simp] theorem setCtx_strms (d : Dev) (c : Nat) (x : Ctx) : (setCtx d c x).strms = d.strms := rfl
@[simp] theorem setCtx_tiles (d : Dev) (c : Nat) (x : Ctx) : (setCtx d c x).tiles = d.tiles := rfl
@[simp] theorem setCtx_chans (d : Dev) (c : Nat) (x : Ctx) : (setCtx d c x).chans = d.chans := rfl
@[simp] theorem setCtx_arrivals (d : Dev) (c : Nat) (x : Ctx) : (setCtx d c x).arrivals = d.arrivals := rfl
@[simp] theorem setCtx_answers (d : Dev) (c : Nat) (x : Ctx) : (setCtx d c x).answers = d.answers := rfl
@[simp] theorem setCtx_links (d : Dev) (c : Nat) (x : Ctx) : (setCtx d c x).links = d.links := rfl
@[simp] theorem setCtx_tags (d : Dev) (c : Nat) (x : Ctx) : (setCtx d c x).tags = d.tags := rfl
@[simp] theorem setCtx_hoistUps (d : Dev) (c : Nat) (x : Ctx) : (setCtx d c x).hoistUps = d.hoistUps := rfl
@[simp] theorem setCtx_hoistArrived (d : Dev) (c : Nat) (x : Ctx) : (setCtx d c x).hoistArrived = d.hoistArrived := rfl
@[simp] theorem setCtx_linkMask (d : Dev) (c : Nat) (x : Ctx) : (setCtx d c x).linkMask = d.linkMask := rfl
@[simp] theorem setCtx_ethMask (d : Dev) (c : Nat) (x : Ctx) : (setCtx d c x).ethMask = d.ethMask := rfl
@[simp] theorem setCtx_cols (d : Dev) (c : Nat) (x : Ctx) : (setCtx d c x).cols = d.cols := rfl
@[simp] theorem setCtx_colNext (d : Dev) (c : Nat) (x : Ctx) : (setCtx d c x).colNext = d.colNext := rfl
@[simp] theorem setCtx_early (d : Dev) (c : Nat) (x : Ctx) : (setCtx d c x).early = d.early := rfl
@[simp] theorem setCtx_qps (d : Dev) (c : Nat) (x : Ctx) : (setCtx d c x).qps = d.qps := rfl
@[simp] theorem setCtx_ethRem (d : Dev) (c : Nat) (x : Ctx) : (setCtx d c x).ethRem = d.ethRem := rfl
@[simp] theorem setCtx_pfc (d : Dev) (c : Nat) (x : Ctx) : (setCtx d c x).pfc = d.pfc := rfl
@[simp] theorem setCtx_gridX (d : Dev) (c : Nat) (x : Ctx) : (setCtx d c x).gridX = d.gridX := rfl
@[simp] theorem setCtx_rc (d : Dev) (c : Nat) (x : Ctx) : (setCtx d c x).rc = d.rc := rfl
@[simp] theorem setCtx_armed (d : Dev) (c : Nat) (x : Ctx) : (setCtx d c x).armed = d.armed := rfl
@[simp] theorem setCtx_rcStopped (d : Dev) (c : Nat) (x : Ctx) : (setCtx d c x).rcStopped = d.rcStopped := rfl
@[simp] theorem setCtx_lineTags (d : Dev) (c : Nat) (x : Ctx) : (setCtx d c x).lineTags = d.lineTags := rfl
@[simp] theorem setCtx_shadowBases (d : Dev) (c : Nat) (x : Ctx) : (setCtx d c x).shadowBases = d.shadowBases := rfl
@[simp] theorem setCtx_log (d : Dev) (c : Nat) (x : Ctx) : (setCtx d c x).log = d.log := rfl
@[simp] theorem setCtx_logNext (d : Dev) (c : Nat) (x : Ctx) : (setCtx d c x).logNext = d.logNext := rfl
@[simp] theorem setCtx_notes (d : Dev) (c : Nat) (x : Ctx) : (setCtx d c x).notes = d.notes := rfl
@[simp] theorem setCtx_logLost (d : Dev) (c : Nat) (x : Ctx) : (setCtx d c x).logLost = d.logLost := rfl
@[simp] theorem setCtx_samples (d : Dev) (c : Nat) (x : Ctx) : (setCtx d c x).samples = d.samples := rfl
@[simp] theorem setCtx_monDiv (d : Dev) (c : Nat) (x : Ctx) : (setCtx d c x).monDiv = d.monDiv := rfl
@[simp] theorem setCtx_snap (d : Dev) (c : Nat) (x : Ctx) : (setCtx d c x).snap = d.snap := rfl
@[simp] theorem setCtx_placeDue (d : Dev) (c : Nat) (x : Ctx) : (setCtx d c x).placeDue = d.placeDue := rfl
@[simp] theorem setCtx_mapLog (d : Dev) (c : Nat) (x : Ctx) : (setCtx d c x).mapLog = d.mapLog := rfl
@[simp] theorem setCtx_undo (d : Dev) (c : Nat) (x : Ctx) : (setCtx d c x).undo = d.undo := rfl
@[simp] theorem setCtx_fatals (d : Dev) (c : Nat) (x : Ctx) : (setCtx d c x).fatals = d.fatals := rfl
@[simp] theorem setCtx_fwDead (d : Dev) (c : Nat) (x : Ctx) : (setCtx d c x).fwDead = d.fwDead := rfl
@[simp] theorem setCtx_sensors (d : Dev) (c : Nat) (x : Ctx) : (setCtx d c x).sensors = d.sensors := rfl
@[simp] theorem setCtx_kTok (d : Dev) (c : Nat) (x : Ctx) : (setCtx d c x).kTok = d.kTok := rfl
@[simp] theorem setCtx_kOver (d : Dev) (c : Nat) (x : Ctx) : (setCtx d c x).kOver = d.kOver := rfl
@[simp] theorem setCtx_kTherm (d : Dev) (c : Nat) (x : Ctx) : (setCtx d c x).kTherm = d.kTherm := rfl
@[simp] theorem setCtx_mated (d : Dev) (c : Nat) (x : Ctx) : (setCtx d c x).mated = d.mated := rfl
@[simp] theorem setCtx_inputs (d : Dev) (c : Nat) (x : Ctx) : (setCtx d c x).inputs = d.inputs := rfl
@[simp] theorem setCtx_calNext (d : Dev) (c : Nat) (x : Ctx) : (setCtx d c x).calNext = d.calNext := rfl
@[simp] theorem setCtx_stageMask (d : Dev) (c : Nat) (x : Ctx) : (setCtx d c x).stageMask = d.stageMask := rfl
@[simp] theorem setCtx_ethMacs (d : Dev) (c : Nat) (x : Ctx) : (setCtx d c x).ethMacs = d.ethMacs := rfl
@[simp] theorem setCtx_meas (d : Dev) (c : Nat) (x : Ctx) : (setCtx d c x).meas = d.meas := rfl
@[simp] theorem setCtx_ucHeld (d : Dev) (c : Nat) (x : Ctx) : (setCtx d c x).ucHeld = d.ucHeld := rfl
@[simp] theorem setCtx_calHeld (d : Dev) (c : Nat) (x : Ctx) : (setCtx d c x).calHeld = d.calHeld := rfl
@[simp] theorem setCtx_ucTiles (d : Dev) (c : Nat) (x : Ctx) : (setCtx d c x).ucTiles = d.ucTiles := rfl
@[simp] theorem setCtx_ucLoad (d : Dev) (c : Nat) (x : Ctx) : (setCtx d c x).ucLoad = d.ucLoad := rfl
@[simp] theorem setCtx_fuseOp (d : Dev) (c : Nat) (x : Ctx) : (setCtx d c x).fuseOp = d.fuseOp := rfl
@[simp] theorem setCtx_verify (d : Dev) (c : Nat) (x : Ctx) : (setCtx d c x).verify = d.verify := rfl
@[simp] theorem setCtx_report (d : Dev) (c : Nat) (x : Ctx) : (setCtx d c x).report = d.report := rfl
@[simp] theorem setCtx_fwWait (d : Dev) (c : Nat) (x : Ctx) : (setCtx d c x).fwWait = d.fwWait := rfl
@[simp] theorem setCtx_packLoad (d : Dev) (c : Nat) (x : Ctx) : (setCtx d c x).packLoad = d.packLoad := rfl
@[simp] theorem setCtx_pack (d : Dev) (c : Nat) (x : Ctx) : (setCtx d c x).pack = d.pack := rfl
@[simp] theorem setCtx_lovPack (d : Dev) (c : Nat) (x : Ctx) : (setCtx d c x).lovPack = d.lovPack := rfl
@[simp] theorem setCtx_lovGo (d : Dev) (c : Nat) (x : Ctx) : (setCtx d c x).lovGo = d.lovGo := rfl
@[simp] theorem setCtx_ucieRetrain (d : Dev) (c : Nat) (x : Ctx) : (setCtx d c x).ucieRetrain = d.ucieRetrain := rfl
@[simp] theorem setCtx_ucieFails (d : Dev) (c : Nat) (x : Ctx) : (setCtx d c x).ucieFails = d.ucieFails := rfl
@[simp] theorem setCtx_ucieReplays (d : Dev) (c : Nat) (x : Ctx) : (setCtx d c x).ucieReplays = d.ucieReplays := rfl
@[simp] theorem setCtx_pairLow (d : Dev) (c : Nat) (x : Ctx) : (setCtx d c x).pairLow = d.pairLow := rfl
@[simp] theorem setCtx_pairHigh (d : Dev) (c : Nat) (x : Ctx) : (setCtx d c x).pairHigh = d.pairHigh := rfl
@[simp] theorem setCtx_pairHighI3c (d : Dev) (c : Nat) (x : Ctx) : (setCtx d c x).pairHighI3c = d.pairHighI3c := rfl
@[simp] theorem setCtx_onceWritten (d : Dev) (c : Nat) (x : Ctx) : (setCtx d c x).onceWritten = d.onceWritten := rfl
@[simp] theorem setCtx_i3c (d : Dev) (c : Nat) (x : Ctx) : (setCtx d c x).i3c = d.i3c := rfl
@[simp] theorem setCtx_jtag (d : Dev) (c : Nat) (x : Ctx) : (setCtx d c x).jtag = d.jtag := rfl
@[simp] theorem setCtx_irqLog (d : Dev) (c : Nat) (x : Ctx) : (setCtx d c x).irqLog = d.irqLog := rfl
@[simp] theorem setCtx_irqLogAt (d : Dev) (c : Nat) (x : Ctx) : (setCtx d c x).irqLogAt = d.irqLogAt := rfl
@[simp] theorem setCtx_free (d : Dev) (c : Nat) (x : Ctx) : (setCtx d c x).free = d.free := rfl

@[simp] theorem setLink_power (d : Dev) (n : Nat) (l : Link) : (setLink d n l).power = d.power := rfl
@[simp] theorem setLink_pins (d : Dev) (n : Nat) (l : Link) : (setLink d n l).pins = d.pins := rfl
@[simp] theorem setLink_outbox (d : Dev) (n : Nat) (l : Link) : (setLink d n l).outbox = d.outbox := rfl
@[simp] theorem setLink_regs (d : Dev) (n : Nat) (l : Link) : (setLink d n l).regs = d.regs := rfl
@[simp] theorem setLink_hbm (d : Dev) (n : Nat) (l : Link) : (setLink d n l).hbm = d.hbm := rfl
@[simp] theorem setLink_ts (d : Dev) (n : Nat) (l : Link) : (setLink d n l).ts = d.ts := rfl
@[simp] theorem setLink_gs (d : Dev) (n : Nat) (l : Link) : (setLink d n l).gs = d.gs := rfl
@[simp] theorem setLink_tb (d : Dev) (n : Nat) (l : Link) : (setLink d n l).tb = d.tb := rfl
@[simp] theorem setLink_lp (d : Dev) (n : Nat) (l : Link) : (setLink d n l).lp = d.lp := rfl
@[simp] theorem setLink_tsUE (d : Dev) (n : Nat) (l : Link) : (setLink d n l).tsUE = d.tsUE := rfl
@[simp] theorem setLink_gsUE (d : Dev) (n : Nat) (l : Link) : (setLink d n l).gsUE = d.gsUE := rfl
@[simp] theorem setLink_tbUE (d : Dev) (n : Nat) (l : Link) : (setLink d n l).tbUE = d.tbUE := rfl
@[simp] theorem setLink_lineUE (d : Dev) (n : Nat) (l : Link) : (setLink d n l).lineUE = d.lineUE := rfl
@[simp] theorem setLink_wcb (d : Dev) (n : Nat) (l : Link) : (setLink d n l).wcb = d.wcb := rfl
@[simp] theorem setLink_hbmWr (d : Dev) (n : Nat) (l : Link) : (setLink d n l).hbmWr = d.hbmWr := rfl
@[simp] theorem setLink_migs (d : Dev) (n : Nat) (l : Link) : (setLink d n l).migs = d.migs := rfl
@[simp] theorem setLink_patrolCe (d : Dev) (n : Nat) (l : Link) : (setLink d n l).patrolCe = d.patrolCe := rfl
@[simp] theorem setLink_slips (d : Dev) (n : Nat) (l : Link) : (setLink d n l).slips = d.slips := rfl
@[simp] theorem setLink_patrolOver (d : Dev) (n : Nat) (l : Link) : (setLink d n l).patrolOver = d.patrolOver := rfl
@[simp] theorem setLink_strms (d : Dev) (n : Nat) (l : Link) : (setLink d n l).strms = d.strms := rfl
@[simp] theorem setLink_tiles (d : Dev) (n : Nat) (l : Link) : (setLink d n l).tiles = d.tiles := rfl
@[simp] theorem setLink_chans (d : Dev) (n : Nat) (l : Link) : (setLink d n l).chans = d.chans := rfl
@[simp] theorem setLink_arrivals (d : Dev) (n : Nat) (l : Link) : (setLink d n l).arrivals = d.arrivals := rfl
@[simp] theorem setLink_answers (d : Dev) (n : Nat) (l : Link) : (setLink d n l).answers = d.answers := rfl
@[simp] theorem setLink_tags (d : Dev) (n : Nat) (l : Link) : (setLink d n l).tags = d.tags := rfl
@[simp] theorem setLink_hoistUps (d : Dev) (n : Nat) (l : Link) : (setLink d n l).hoistUps = d.hoistUps := rfl
@[simp] theorem setLink_hoistArrived (d : Dev) (n : Nat) (l : Link) : (setLink d n l).hoistArrived = d.hoistArrived := rfl
@[simp] theorem setLink_linkMask (d : Dev) (n : Nat) (l : Link) : (setLink d n l).linkMask = d.linkMask := rfl
@[simp] theorem setLink_ethMask (d : Dev) (n : Nat) (l : Link) : (setLink d n l).ethMask = d.ethMask := rfl
@[simp] theorem setLink_cols (d : Dev) (n : Nat) (l : Link) : (setLink d n l).cols = d.cols := rfl
@[simp] theorem setLink_colNext (d : Dev) (n : Nat) (l : Link) : (setLink d n l).colNext = d.colNext := rfl
@[simp] theorem setLink_early (d : Dev) (n : Nat) (l : Link) : (setLink d n l).early = d.early := rfl
@[simp] theorem setLink_qps (d : Dev) (n : Nat) (l : Link) : (setLink d n l).qps = d.qps := rfl
@[simp] theorem setLink_ethRem (d : Dev) (n : Nat) (l : Link) : (setLink d n l).ethRem = d.ethRem := rfl
@[simp] theorem setLink_pfc (d : Dev) (n : Nat) (l : Link) : (setLink d n l).pfc = d.pfc := rfl
@[simp] theorem setLink_ctxs (d : Dev) (n : Nat) (l : Link) : (setLink d n l).ctxs = d.ctxs := rfl
@[simp] theorem setLink_gridX (d : Dev) (n : Nat) (l : Link) : (setLink d n l).gridX = d.gridX := rfl
@[simp] theorem setLink_rc (d : Dev) (n : Nat) (l : Link) : (setLink d n l).rc = d.rc := rfl
@[simp] theorem setLink_armed (d : Dev) (n : Nat) (l : Link) : (setLink d n l).armed = d.armed := rfl
@[simp] theorem setLink_rcStopped (d : Dev) (n : Nat) (l : Link) : (setLink d n l).rcStopped = d.rcStopped := rfl
@[simp] theorem setLink_lineTags (d : Dev) (n : Nat) (l : Link) : (setLink d n l).lineTags = d.lineTags := rfl
@[simp] theorem setLink_shadowBases (d : Dev) (n : Nat) (l : Link) : (setLink d n l).shadowBases = d.shadowBases := rfl
@[simp] theorem setLink_log (d : Dev) (n : Nat) (l : Link) : (setLink d n l).log = d.log := rfl
@[simp] theorem setLink_logNext (d : Dev) (n : Nat) (l : Link) : (setLink d n l).logNext = d.logNext := rfl
@[simp] theorem setLink_notes (d : Dev) (n : Nat) (l : Link) : (setLink d n l).notes = d.notes := rfl
@[simp] theorem setLink_logLost (d : Dev) (n : Nat) (l : Link) : (setLink d n l).logLost = d.logLost := rfl
@[simp] theorem setLink_samples (d : Dev) (n : Nat) (l : Link) : (setLink d n l).samples = d.samples := rfl
@[simp] theorem setLink_monDiv (d : Dev) (n : Nat) (l : Link) : (setLink d n l).monDiv = d.monDiv := rfl
@[simp] theorem setLink_snap (d : Dev) (n : Nat) (l : Link) : (setLink d n l).snap = d.snap := rfl
@[simp] theorem setLink_placeDue (d : Dev) (n : Nat) (l : Link) : (setLink d n l).placeDue = d.placeDue := rfl
@[simp] theorem setLink_mapLog (d : Dev) (n : Nat) (l : Link) : (setLink d n l).mapLog = d.mapLog := rfl
@[simp] theorem setLink_undo (d : Dev) (n : Nat) (l : Link) : (setLink d n l).undo = d.undo := rfl
@[simp] theorem setLink_fatals (d : Dev) (n : Nat) (l : Link) : (setLink d n l).fatals = d.fatals := rfl
@[simp] theorem setLink_fwDead (d : Dev) (n : Nat) (l : Link) : (setLink d n l).fwDead = d.fwDead := rfl
@[simp] theorem setLink_sensors (d : Dev) (n : Nat) (l : Link) : (setLink d n l).sensors = d.sensors := rfl
@[simp] theorem setLink_kTok (d : Dev) (n : Nat) (l : Link) : (setLink d n l).kTok = d.kTok := rfl
@[simp] theorem setLink_kOver (d : Dev) (n : Nat) (l : Link) : (setLink d n l).kOver = d.kOver := rfl
@[simp] theorem setLink_kTherm (d : Dev) (n : Nat) (l : Link) : (setLink d n l).kTherm = d.kTherm := rfl
@[simp] theorem setLink_mated (d : Dev) (n : Nat) (l : Link) : (setLink d n l).mated = d.mated := rfl
@[simp] theorem setLink_inputs (d : Dev) (n : Nat) (l : Link) : (setLink d n l).inputs = d.inputs := rfl
@[simp] theorem setLink_calNext (d : Dev) (n : Nat) (l : Link) : (setLink d n l).calNext = d.calNext := rfl
@[simp] theorem setLink_stageMask (d : Dev) (n : Nat) (l : Link) : (setLink d n l).stageMask = d.stageMask := rfl
@[simp] theorem setLink_ethMacs (d : Dev) (n : Nat) (l : Link) : (setLink d n l).ethMacs = d.ethMacs := rfl
@[simp] theorem setLink_meas (d : Dev) (n : Nat) (l : Link) : (setLink d n l).meas = d.meas := rfl
@[simp] theorem setLink_ucHeld (d : Dev) (n : Nat) (l : Link) : (setLink d n l).ucHeld = d.ucHeld := rfl
@[simp] theorem setLink_calHeld (d : Dev) (n : Nat) (l : Link) : (setLink d n l).calHeld = d.calHeld := rfl
@[simp] theorem setLink_ucTiles (d : Dev) (n : Nat) (l : Link) : (setLink d n l).ucTiles = d.ucTiles := rfl
@[simp] theorem setLink_ucLoad (d : Dev) (n : Nat) (l : Link) : (setLink d n l).ucLoad = d.ucLoad := rfl
@[simp] theorem setLink_fuseOp (d : Dev) (n : Nat) (l : Link) : (setLink d n l).fuseOp = d.fuseOp := rfl
@[simp] theorem setLink_verify (d : Dev) (n : Nat) (l : Link) : (setLink d n l).verify = d.verify := rfl
@[simp] theorem setLink_report (d : Dev) (n : Nat) (l : Link) : (setLink d n l).report = d.report := rfl
@[simp] theorem setLink_fwWait (d : Dev) (n : Nat) (l : Link) : (setLink d n l).fwWait = d.fwWait := rfl
@[simp] theorem setLink_packLoad (d : Dev) (n : Nat) (l : Link) : (setLink d n l).packLoad = d.packLoad := rfl
@[simp] theorem setLink_pack (d : Dev) (n : Nat) (l : Link) : (setLink d n l).pack = d.pack := rfl
@[simp] theorem setLink_lovPack (d : Dev) (n : Nat) (l : Link) : (setLink d n l).lovPack = d.lovPack := rfl
@[simp] theorem setLink_lovGo (d : Dev) (n : Nat) (l : Link) : (setLink d n l).lovGo = d.lovGo := rfl
@[simp] theorem setLink_ucieRetrain (d : Dev) (n : Nat) (l : Link) : (setLink d n l).ucieRetrain = d.ucieRetrain := rfl
@[simp] theorem setLink_ucieFails (d : Dev) (n : Nat) (l : Link) : (setLink d n l).ucieFails = d.ucieFails := rfl
@[simp] theorem setLink_ucieReplays (d : Dev) (n : Nat) (l : Link) : (setLink d n l).ucieReplays = d.ucieReplays := rfl
@[simp] theorem setLink_pairLow (d : Dev) (n : Nat) (l : Link) : (setLink d n l).pairLow = d.pairLow := rfl
@[simp] theorem setLink_pairHigh (d : Dev) (n : Nat) (l : Link) : (setLink d n l).pairHigh = d.pairHigh := rfl
@[simp] theorem setLink_pairHighI3c (d : Dev) (n : Nat) (l : Link) : (setLink d n l).pairHighI3c = d.pairHighI3c := rfl
@[simp] theorem setLink_onceWritten (d : Dev) (n : Nat) (l : Link) : (setLink d n l).onceWritten = d.onceWritten := rfl
@[simp] theorem setLink_i3c (d : Dev) (n : Nat) (l : Link) : (setLink d n l).i3c = d.i3c := rfl
@[simp] theorem setLink_jtag (d : Dev) (n : Nat) (l : Link) : (setLink d n l).jtag = d.jtag := rfl
@[simp] theorem setLink_irqLog (d : Dev) (n : Nat) (l : Link) : (setLink d n l).irqLog = d.irqLog := rfl
@[simp] theorem setLink_irqLogAt (d : Dev) (n : Nat) (l : Link) : (setLink d n l).irqLogAt = d.irqLogAt := rfl
@[simp] theorem setLink_free (d : Dev) (n : Nat) (l : Link) : (setLink d n l).free = d.free := rfl

@[simp] theorem setQp_power (port qp : Nat) (q : Qp) (d : Dev) : (setQp port qp q d).power = d.power := rfl
@[simp] theorem setQp_pins (port qp : Nat) (q : Qp) (d : Dev) : (setQp port qp q d).pins = d.pins := rfl
@[simp] theorem setQp_outbox (port qp : Nat) (q : Qp) (d : Dev) : (setQp port qp q d).outbox = d.outbox := rfl
@[simp] theorem setQp_regs (port qp : Nat) (q : Qp) (d : Dev) : (setQp port qp q d).regs = d.regs := rfl
@[simp] theorem setQp_hbm (port qp : Nat) (q : Qp) (d : Dev) : (setQp port qp q d).hbm = d.hbm := rfl
@[simp] theorem setQp_ts (port qp : Nat) (q : Qp) (d : Dev) : (setQp port qp q d).ts = d.ts := rfl
@[simp] theorem setQp_gs (port qp : Nat) (q : Qp) (d : Dev) : (setQp port qp q d).gs = d.gs := rfl
@[simp] theorem setQp_tb (port qp : Nat) (q : Qp) (d : Dev) : (setQp port qp q d).tb = d.tb := rfl
@[simp] theorem setQp_lp (port qp : Nat) (q : Qp) (d : Dev) : (setQp port qp q d).lp = d.lp := rfl
@[simp] theorem setQp_tsUE (port qp : Nat) (q : Qp) (d : Dev) : (setQp port qp q d).tsUE = d.tsUE := rfl
@[simp] theorem setQp_gsUE (port qp : Nat) (q : Qp) (d : Dev) : (setQp port qp q d).gsUE = d.gsUE := rfl
@[simp] theorem setQp_tbUE (port qp : Nat) (q : Qp) (d : Dev) : (setQp port qp q d).tbUE = d.tbUE := rfl
@[simp] theorem setQp_lineUE (port qp : Nat) (q : Qp) (d : Dev) : (setQp port qp q d).lineUE = d.lineUE := rfl
@[simp] theorem setQp_wcb (port qp : Nat) (q : Qp) (d : Dev) : (setQp port qp q d).wcb = d.wcb := rfl
@[simp] theorem setQp_hbmWr (port qp : Nat) (q : Qp) (d : Dev) : (setQp port qp q d).hbmWr = d.hbmWr := rfl
@[simp] theorem setQp_migs (port qp : Nat) (q : Qp) (d : Dev) : (setQp port qp q d).migs = d.migs := rfl
@[simp] theorem setQp_patrolCe (port qp : Nat) (q : Qp) (d : Dev) : (setQp port qp q d).patrolCe = d.patrolCe := rfl
@[simp] theorem setQp_slips (port qp : Nat) (q : Qp) (d : Dev) : (setQp port qp q d).slips = d.slips := rfl
@[simp] theorem setQp_patrolOver (port qp : Nat) (q : Qp) (d : Dev) : (setQp port qp q d).patrolOver = d.patrolOver := rfl
@[simp] theorem setQp_strms (port qp : Nat) (q : Qp) (d : Dev) : (setQp port qp q d).strms = d.strms := rfl
@[simp] theorem setQp_tiles (port qp : Nat) (q : Qp) (d : Dev) : (setQp port qp q d).tiles = d.tiles := rfl
@[simp] theorem setQp_chans (port qp : Nat) (q : Qp) (d : Dev) : (setQp port qp q d).chans = d.chans := rfl
@[simp] theorem setQp_arrivals (port qp : Nat) (q : Qp) (d : Dev) : (setQp port qp q d).arrivals = d.arrivals := rfl
@[simp] theorem setQp_answers (port qp : Nat) (q : Qp) (d : Dev) : (setQp port qp q d).answers = d.answers := rfl
@[simp] theorem setQp_links (port qp : Nat) (q : Qp) (d : Dev) : (setQp port qp q d).links = d.links := rfl
@[simp] theorem setQp_tags (port qp : Nat) (q : Qp) (d : Dev) : (setQp port qp q d).tags = d.tags := rfl
@[simp] theorem setQp_hoistUps (port qp : Nat) (q : Qp) (d : Dev) : (setQp port qp q d).hoistUps = d.hoistUps := rfl
@[simp] theorem setQp_hoistArrived (port qp : Nat) (q : Qp) (d : Dev) : (setQp port qp q d).hoistArrived = d.hoistArrived := rfl
@[simp] theorem setQp_linkMask (port qp : Nat) (q : Qp) (d : Dev) : (setQp port qp q d).linkMask = d.linkMask := rfl
@[simp] theorem setQp_ethMask (port qp : Nat) (q : Qp) (d : Dev) : (setQp port qp q d).ethMask = d.ethMask := rfl
@[simp] theorem setQp_cols (port qp : Nat) (q : Qp) (d : Dev) : (setQp port qp q d).cols = d.cols := rfl
@[simp] theorem setQp_colNext (port qp : Nat) (q : Qp) (d : Dev) : (setQp port qp q d).colNext = d.colNext := rfl
@[simp] theorem setQp_early (port qp : Nat) (q : Qp) (d : Dev) : (setQp port qp q d).early = d.early := rfl
@[simp] theorem setQp_ethRem (port qp : Nat) (q : Qp) (d : Dev) : (setQp port qp q d).ethRem = d.ethRem := rfl
@[simp] theorem setQp_pfc (port qp : Nat) (q : Qp) (d : Dev) : (setQp port qp q d).pfc = d.pfc := rfl
@[simp] theorem setQp_ctxs (port qp : Nat) (q : Qp) (d : Dev) : (setQp port qp q d).ctxs = d.ctxs := rfl
@[simp] theorem setQp_gridX (port qp : Nat) (q : Qp) (d : Dev) : (setQp port qp q d).gridX = d.gridX := rfl
@[simp] theorem setQp_rc (port qp : Nat) (q : Qp) (d : Dev) : (setQp port qp q d).rc = d.rc := rfl
@[simp] theorem setQp_armed (port qp : Nat) (q : Qp) (d : Dev) : (setQp port qp q d).armed = d.armed := rfl
@[simp] theorem setQp_rcStopped (port qp : Nat) (q : Qp) (d : Dev) : (setQp port qp q d).rcStopped = d.rcStopped := rfl
@[simp] theorem setQp_lineTags (port qp : Nat) (q : Qp) (d : Dev) : (setQp port qp q d).lineTags = d.lineTags := rfl
@[simp] theorem setQp_shadowBases (port qp : Nat) (q : Qp) (d : Dev) : (setQp port qp q d).shadowBases = d.shadowBases := rfl
@[simp] theorem setQp_log (port qp : Nat) (q : Qp) (d : Dev) : (setQp port qp q d).log = d.log := rfl
@[simp] theorem setQp_logNext (port qp : Nat) (q : Qp) (d : Dev) : (setQp port qp q d).logNext = d.logNext := rfl
@[simp] theorem setQp_notes (port qp : Nat) (q : Qp) (d : Dev) : (setQp port qp q d).notes = d.notes := rfl
@[simp] theorem setQp_logLost (port qp : Nat) (q : Qp) (d : Dev) : (setQp port qp q d).logLost = d.logLost := rfl
@[simp] theorem setQp_samples (port qp : Nat) (q : Qp) (d : Dev) : (setQp port qp q d).samples = d.samples := rfl
@[simp] theorem setQp_monDiv (port qp : Nat) (q : Qp) (d : Dev) : (setQp port qp q d).monDiv = d.monDiv := rfl
@[simp] theorem setQp_snap (port qp : Nat) (q : Qp) (d : Dev) : (setQp port qp q d).snap = d.snap := rfl
@[simp] theorem setQp_placeDue (port qp : Nat) (q : Qp) (d : Dev) : (setQp port qp q d).placeDue = d.placeDue := rfl
@[simp] theorem setQp_mapLog (port qp : Nat) (q : Qp) (d : Dev) : (setQp port qp q d).mapLog = d.mapLog := rfl
@[simp] theorem setQp_undo (port qp : Nat) (q : Qp) (d : Dev) : (setQp port qp q d).undo = d.undo := rfl
@[simp] theorem setQp_fatals (port qp : Nat) (q : Qp) (d : Dev) : (setQp port qp q d).fatals = d.fatals := rfl
@[simp] theorem setQp_fwDead (port qp : Nat) (q : Qp) (d : Dev) : (setQp port qp q d).fwDead = d.fwDead := rfl
@[simp] theorem setQp_sensors (port qp : Nat) (q : Qp) (d : Dev) : (setQp port qp q d).sensors = d.sensors := rfl
@[simp] theorem setQp_kTok (port qp : Nat) (q : Qp) (d : Dev) : (setQp port qp q d).kTok = d.kTok := rfl
@[simp] theorem setQp_kOver (port qp : Nat) (q : Qp) (d : Dev) : (setQp port qp q d).kOver = d.kOver := rfl
@[simp] theorem setQp_kTherm (port qp : Nat) (q : Qp) (d : Dev) : (setQp port qp q d).kTherm = d.kTherm := rfl
@[simp] theorem setQp_mated (port qp : Nat) (q : Qp) (d : Dev) : (setQp port qp q d).mated = d.mated := rfl
@[simp] theorem setQp_inputs (port qp : Nat) (q : Qp) (d : Dev) : (setQp port qp q d).inputs = d.inputs := rfl
@[simp] theorem setQp_calNext (port qp : Nat) (q : Qp) (d : Dev) : (setQp port qp q d).calNext = d.calNext := rfl
@[simp] theorem setQp_stageMask (port qp : Nat) (q : Qp) (d : Dev) : (setQp port qp q d).stageMask = d.stageMask := rfl
@[simp] theorem setQp_ethMacs (port qp : Nat) (q : Qp) (d : Dev) : (setQp port qp q d).ethMacs = d.ethMacs := rfl
@[simp] theorem setQp_meas (port qp : Nat) (q : Qp) (d : Dev) : (setQp port qp q d).meas = d.meas := rfl
@[simp] theorem setQp_ucHeld (port qp : Nat) (q : Qp) (d : Dev) : (setQp port qp q d).ucHeld = d.ucHeld := rfl
@[simp] theorem setQp_calHeld (port qp : Nat) (q : Qp) (d : Dev) : (setQp port qp q d).calHeld = d.calHeld := rfl
@[simp] theorem setQp_ucTiles (port qp : Nat) (q : Qp) (d : Dev) : (setQp port qp q d).ucTiles = d.ucTiles := rfl
@[simp] theorem setQp_ucLoad (port qp : Nat) (q : Qp) (d : Dev) : (setQp port qp q d).ucLoad = d.ucLoad := rfl
@[simp] theorem setQp_fuseOp (port qp : Nat) (q : Qp) (d : Dev) : (setQp port qp q d).fuseOp = d.fuseOp := rfl
@[simp] theorem setQp_verify (port qp : Nat) (q : Qp) (d : Dev) : (setQp port qp q d).verify = d.verify := rfl
@[simp] theorem setQp_report (port qp : Nat) (q : Qp) (d : Dev) : (setQp port qp q d).report = d.report := rfl
@[simp] theorem setQp_fwWait (port qp : Nat) (q : Qp) (d : Dev) : (setQp port qp q d).fwWait = d.fwWait := rfl
@[simp] theorem setQp_packLoad (port qp : Nat) (q : Qp) (d : Dev) : (setQp port qp q d).packLoad = d.packLoad := rfl
@[simp] theorem setQp_pack (port qp : Nat) (q : Qp) (d : Dev) : (setQp port qp q d).pack = d.pack := rfl
@[simp] theorem setQp_lovPack (port qp : Nat) (q : Qp) (d : Dev) : (setQp port qp q d).lovPack = d.lovPack := rfl
@[simp] theorem setQp_lovGo (port qp : Nat) (q : Qp) (d : Dev) : (setQp port qp q d).lovGo = d.lovGo := rfl
@[simp] theorem setQp_ucieRetrain (port qp : Nat) (q : Qp) (d : Dev) : (setQp port qp q d).ucieRetrain = d.ucieRetrain := rfl
@[simp] theorem setQp_ucieFails (port qp : Nat) (q : Qp) (d : Dev) : (setQp port qp q d).ucieFails = d.ucieFails := rfl
@[simp] theorem setQp_ucieReplays (port qp : Nat) (q : Qp) (d : Dev) : (setQp port qp q d).ucieReplays = d.ucieReplays := rfl
@[simp] theorem setQp_pairLow (port qp : Nat) (q : Qp) (d : Dev) : (setQp port qp q d).pairLow = d.pairLow := rfl
@[simp] theorem setQp_pairHigh (port qp : Nat) (q : Qp) (d : Dev) : (setQp port qp q d).pairHigh = d.pairHigh := rfl
@[simp] theorem setQp_pairHighI3c (port qp : Nat) (q : Qp) (d : Dev) : (setQp port qp q d).pairHighI3c = d.pairHighI3c := rfl
@[simp] theorem setQp_onceWritten (port qp : Nat) (q : Qp) (d : Dev) : (setQp port qp q d).onceWritten = d.onceWritten := rfl
@[simp] theorem setQp_i3c (port qp : Nat) (q : Qp) (d : Dev) : (setQp port qp q d).i3c = d.i3c := rfl
@[simp] theorem setQp_jtag (port qp : Nat) (q : Qp) (d : Dev) : (setQp port qp q d).jtag = d.jtag := rfl
@[simp] theorem setQp_irqLog (port qp : Nat) (q : Qp) (d : Dev) : (setQp port qp q d).irqLog = d.irqLog := rfl
@[simp] theorem setQp_irqLogAt (port qp : Nat) (q : Qp) (d : Dev) : (setQp port qp q d).irqLogAt = d.irqLogAt := rfl
@[simp] theorem setQp_free (port qp : Nat) (q : Qp) (d : Dev) : (setQp port qp q d).free = d.free := rfl

@[simp] theorem updCtx_eq (d : Dev) (c : Nat) (f : Ctx → Ctx) : updCtx d c f = setCtx d c (f (getCtx d c)) := rfl
@[simp] theorem updLink_eq (d : Dev) (n : Nat) (f : Link → Link) : updLink d n f = setLink d n (f (getLink d n)) := rfl
@[simp] theorem rbit_eq (d : Dev) (k : RegKey) : rbit d k = rset d k 1 := rfl

@[simp] theorem getStrm_rset (d : Dev) (k : RegKey) (v : Nat) (p' h' c' : Nat) : getStrm (rset d k v) p' h' c' = getStrm d p' h' c' := rfl
@[simp] theorem getTile_rset (d : Dev) (k : RegKey) (v : Nat) (p' : Nat) : getTile (rset d k v) p' = getTile d p' := rfl
@[simp] theorem getChan_rset (d : Dev) (k : RegKey) (v : Nat) (p' n' : Nat) : getChan (rset d k v) p' n' = getChan d p' n' := rfl
@[simp] theorem getCtx_rset (d : Dev) (k : RegKey) (v : Nat) (c' : Nat) : getCtx (rset d k v) c' = getCtx d c' := rfl
@[simp] theorem getLink_rset (d : Dev) (k : RegKey) (v : Nat) (n' : Nat) : getLink (rset d k v) n' = getLink d n' := rfl
@[simp] theorem getQp_rset (d : Dev) (k : RegKey) (v : Nat) (port' qp' : Nat) : getQp (rset d k v) port' qp' = getQp d port' qp' := rfl

@[simp] theorem rget_setStrm (d : Dev) (p h c : Nat) (s : Strm) (j : RegKey) : rget (setStrm d p h c s) j = rget d j := rfl
@[simp] theorem getTile_setStrm (d : Dev) (p h c : Nat) (s : Strm) (p' : Nat) : getTile (setStrm d p h c s) p' = getTile d p' := rfl
@[simp] theorem getChan_setStrm (d : Dev) (p h c : Nat) (s : Strm) (p' n' : Nat) : getChan (setStrm d p h c s) p' n' = getChan d p' n' := rfl
@[simp] theorem getCtx_setStrm (d : Dev) (p h c : Nat) (s : Strm) (c' : Nat) : getCtx (setStrm d p h c s) c' = getCtx d c' := rfl
@[simp] theorem getLink_setStrm (d : Dev) (p h c : Nat) (s : Strm) (n' : Nat) : getLink (setStrm d p h c s) n' = getLink d n' := rfl
@[simp] theorem getQp_setStrm (d : Dev) (p h c : Nat) (s : Strm) (port' qp' : Nat) : getQp (setStrm d p h c s) port' qp' = getQp d port' qp' := rfl

@[simp] theorem rget_setTile (d : Dev) (p : Nat) (t : TileSt) (j : RegKey) : rget (setTile d p t) j = rget d j := rfl
@[simp] theorem getStrm_setTile (d : Dev) (p : Nat) (t : TileSt) (p' h' c' : Nat) : getStrm (setTile d p t) p' h' c' = getStrm d p' h' c' := rfl
@[simp] theorem getChan_setTile (d : Dev) (p : Nat) (t : TileSt) (p' n' : Nat) : getChan (setTile d p t) p' n' = getChan d p' n' := rfl
@[simp] theorem getCtx_setTile (d : Dev) (p : Nat) (t : TileSt) (c' : Nat) : getCtx (setTile d p t) c' = getCtx d c' := rfl
@[simp] theorem getLink_setTile (d : Dev) (p : Nat) (t : TileSt) (n' : Nat) : getLink (setTile d p t) n' = getLink d n' := rfl
@[simp] theorem getQp_setTile (d : Dev) (p : Nat) (t : TileSt) (port' qp' : Nat) : getQp (setTile d p t) port' qp' = getQp d port' qp' := rfl

@[simp] theorem rget_setChan (d : Dev) (p n : Nat) (ch : Chan) (j : RegKey) : rget (setChan d p n ch) j = rget d j := rfl
@[simp] theorem getStrm_setChan (d : Dev) (p n : Nat) (ch : Chan) (p' h' c' : Nat) : getStrm (setChan d p n ch) p' h' c' = getStrm d p' h' c' := rfl
@[simp] theorem getTile_setChan (d : Dev) (p n : Nat) (ch : Chan) (p' : Nat) : getTile (setChan d p n ch) p' = getTile d p' := rfl
@[simp] theorem getCtx_setChan (d : Dev) (p n : Nat) (ch : Chan) (c' : Nat) : getCtx (setChan d p n ch) c' = getCtx d c' := rfl
@[simp] theorem getLink_setChan (d : Dev) (p n : Nat) (ch : Chan) (n' : Nat) : getLink (setChan d p n ch) n' = getLink d n' := rfl
@[simp] theorem getQp_setChan (d : Dev) (p n : Nat) (ch : Chan) (port' qp' : Nat) : getQp (setChan d p n ch) port' qp' = getQp d port' qp' := rfl

@[simp] theorem rget_setCtx (d : Dev) (c : Nat) (x : Ctx) (j : RegKey) : rget (setCtx d c x) j = rget d j := rfl
@[simp] theorem getStrm_setCtx (d : Dev) (c : Nat) (x : Ctx) (p' h' c' : Nat) : getStrm (setCtx d c x) p' h' c' = getStrm d p' h' c' := rfl
@[simp] theorem getTile_setCtx (d : Dev) (c : Nat) (x : Ctx) (p' : Nat) : getTile (setCtx d c x) p' = getTile d p' := rfl
@[simp] theorem getChan_setCtx (d : Dev) (c : Nat) (x : Ctx) (p' n' : Nat) : getChan (setCtx d c x) p' n' = getChan d p' n' := rfl
@[simp] theorem getLink_setCtx (d : Dev) (c : Nat) (x : Ctx) (n' : Nat) : getLink (setCtx d c x) n' = getLink d n' := rfl
@[simp] theorem getQp_setCtx (d : Dev) (c : Nat) (x : Ctx) (port' qp' : Nat) : getQp (setCtx d c x) port' qp' = getQp d port' qp' := rfl

@[simp] theorem rget_setLink (d : Dev) (n : Nat) (l : Link) (j : RegKey) : rget (setLink d n l) j = rget d j := rfl
@[simp] theorem getStrm_setLink (d : Dev) (n : Nat) (l : Link) (p' h' c' : Nat) : getStrm (setLink d n l) p' h' c' = getStrm d p' h' c' := rfl
@[simp] theorem getTile_setLink (d : Dev) (n : Nat) (l : Link) (p' : Nat) : getTile (setLink d n l) p' = getTile d p' := rfl
@[simp] theorem getChan_setLink (d : Dev) (n : Nat) (l : Link) (p' n' : Nat) : getChan (setLink d n l) p' n' = getChan d p' n' := rfl
@[simp] theorem getCtx_setLink (d : Dev) (n : Nat) (l : Link) (c' : Nat) : getCtx (setLink d n l) c' = getCtx d c' := rfl
@[simp] theorem getQp_setLink (d : Dev) (n : Nat) (l : Link) (port' qp' : Nat) : getQp (setLink d n l) port' qp' = getQp d port' qp' := rfl

@[simp] theorem rget_setQp (port qp : Nat) (q : Qp) (d : Dev) (j : RegKey) : rget (setQp port qp q d) j = rget d j := rfl
@[simp] theorem getStrm_setQp (port qp : Nat) (q : Qp) (d : Dev) (p' h' c' : Nat) : getStrm (setQp port qp q d) p' h' c' = getStrm d p' h' c' := rfl
@[simp] theorem getTile_setQp (port qp : Nat) (q : Qp) (d : Dev) (p' : Nat) : getTile (setQp port qp q d) p' = getTile d p' := rfl
@[simp] theorem getChan_setQp (port qp : Nat) (q : Qp) (d : Dev) (p' n' : Nat) : getChan (setQp port qp q d) p' n' = getChan d p' n' := rfl
@[simp] theorem getCtx_setQp (port qp : Nat) (q : Qp) (d : Dev) (c' : Nat) : getCtx (setQp port qp q d) c' = getCtx d c' := rfl
@[simp] theorem getLink_setQp (port qp : Nat) (q : Qp) (d : Dev) (n' : Nat) : getLink (setQp port qp q d) n' = getLink d n' := rfl

/-- A register after a write of a register. -/
theorem rget_rset (d : Dev) (k j : RegKey) (v : Nat) :
    rget (rset d k v) j = if j = k then v % 2 ^ k.reg.bits else rget d j := by
  by_cases h : j = k
  · subst h; simp [rget, rset]
  · simp [rget, rset, h, tblGet_tblSet_ne _ _ _ _ _ h]

@[simp] theorem rget_rset_same (d : Dev) (k : RegKey) (v : Nat) : rget (rset d k v) k = v % 2 ^ k.reg.bits := by
  simp [rget_rset]

/-- A register holds no more bits than its field has. -/
theorem rget_lt (d : Dev) (k : RegKey) : rget d k < 2 ^ k.reg.bits := Nat.mod_lt _ (Nat.two_pow_pos _)

theorem rget_rset_ne (d : Dev) {k j : RegKey} (v : Nat) (h : j ≠ k) : rget (rset d k v) j = rget d j := by
  simp [rget_rset, h]

@[simp] theorem getStrm_setStrm_same (d : Dev) (p h c : Nat) (s : Strm) : getStrm (setStrm d p h c s) p h c = s := by
  simp [getStrm, setStrm]

theorem getStrm_setStrm_ne (d : Dev) {p h c p' h' c' : Nat} (s : Strm) (hne : strmKey p' h' c' ≠ strmKey p h c) :
    getStrm (setStrm d p h c s) p' h' c' = getStrm d p' h' c' := by
  simp [getStrm, setStrm, tblGet_tblSet_ne _ _ _ _ _ hne]

@[simp] theorem getTile_setTile_same (d : Dev) (p : Nat) (t : TileSt) : getTile (setTile d p t) p = t := by
  simp [getTile, setTile]

theorem getTile_setTile_ne (d : Dev) {p p' : Nat} (t : TileSt) (h : p' ≠ p) : getTile (setTile d p t) p' = getTile d p' := by
  simp [getTile, setTile, tblGet_tblSet_ne _ _ _ _ _ h]

@[simp] theorem getChan_setChan_same (d : Dev) (p n : Nat) (ch : Chan) : getChan (setChan d p n ch) p n = ch := by
  simp [getChan, setChan]

@[simp] theorem getCtx_setCtx_same (d : Dev) (c : Nat) (x : Ctx) : getCtx (setCtx d c x) c = x := by
  simp [getCtx, setCtx]

theorem getCtx_setCtx_ne (d : Dev) {c c' : Nat} (x : Ctx) (h : c' ≠ c) : getCtx (setCtx d c x) c' = getCtx d c' := by
  simp [getCtx, setCtx, tblGet_tblSet_ne _ _ _ _ _ h]

@[simp] theorem getLink_setLink_same (d : Dev) (n : Nat) (l : Link) : getLink (setLink d n l) n = l := by
  simp [getLink, setLink]

theorem getLink_setLink_ne (d : Dev) {n n' : Nat} (l : Link) (h : n' ≠ n) : getLink (setLink d n l) n' = getLink d n' := by
  simp [getLink, setLink, tblGet_tblSet_ne _ _ _ _ _ h]

@[simp] theorem getQp_setQp_same (port qp : Nat) (q : Qp) (d : Dev) : getQp (setQp port qp q d) port qp = q := by
  simp [getQp, setQp]

/-- Streams of different places have different keys. -/
theorem strmKey_inj {p h c p' h' c' : Nat} (hh : h < 2) (hc : c < 8) (hh' : h' < 2) (hc' : c' < 8)
    (e : strmKey p h c = strmKey p' h' c') : p = p' ∧ h = h' ∧ c = c' := by
  unfold strmKey at e; omega

end Sys2Proof.Machine
end

