-- ==== Sys2Proof/Laws/Cycle.lean ====
section
/-! SUPPORT. The order of a cycle's records (R347, R421), once: what putting them in order can change is the log, the numbers
by which contexts name records, and CLK_CTX_PEND_LOG; nothing, where the cycle raised no record. -/

namespace Sys2Proof.Machine

/-- The devices agree on everything but the order of records. -/
def SameButOrder (d d' : Dev) : Prop := d' = { d with regs := d'.regs, log := d'.log, ctxs := d'.ctxs }

theorem SameButOrder.trans {a b c : Dev} (h : SameButOrder a b) (k : SameButOrder b c) : SameButOrder a c := by
  unfold SameButOrder at h k ⊢; rw [h] at k; exact k

theorem sameButOrder_renamed (m : List (Nat × Nat)) (l : List Nat) (d : Dev) : SameButOrder d (l.foldl (renamedPend m) d) := by
  induction l generalizing d with
  | nil => rfl
  | cons c l ih =>
    have h : SameButOrder d (renamedPend m d c) := by unfold renamedPend; split <;> rfl
    exact h.trans (ih (renamedPend m d c))

/-- Putting the records of a cycle in order changes nothing but their order and their numbers. -/
theorem sameButOrder_inCycle (d d' : Dev) : SameButOrder d' (inCycle d d') := by
  unfold inCycle; dsimp only
  split
  · rfl
  · unfold sortRecords; dsimp only
    refine SameButOrder.trans ?_ (sameButOrder_renamed _ (List.range 8) _)
    rfl

/-- A cycle that raised no record leaves everything. -/
theorem inCycle_of_logNext {d d' : Dev} (h : d'.logNext = d.logNext) : inCycle d d' = d' := by
  have hn : (d'.logNext + 2 ^ 32 - d.logNext % 2 ^ 32) % 2 ^ 32 = 0 := by rw [h]; omega
  unfold inCycle; dsimp only
  rw [hn, if_pos (by omega)]

@[simp] theorem inCycle_self (d : Dev) : inCycle d d = d := inCycle_of_logNext rfl

/-- So does one that raised one record. -/
theorem inCycle_of_one {d d' : Dev} (h : (d'.logNext + 2 ^ 32 - d.logNext % 2 ^ 32) % 2 ^ 32 = 1) : inCycle d d' = d' := by
  unfold inCycle; dsimp only
  rw [h, if_pos (Nat.le_refl 1)]

@[simp] theorem inCycle_power (d d' : Dev) : (inCycle d d').power = d'.power := by rw [sameButOrder_inCycle d d']
@[simp] theorem inCycle_pins (d d' : Dev) : (inCycle d d').pins = d'.pins := by rw [sameButOrder_inCycle d d']
@[simp] theorem inCycle_outbox (d d' : Dev) : (inCycle d d').outbox = d'.outbox := by rw [sameButOrder_inCycle d d']
@[simp] theorem inCycle_hbm (d d' : Dev) : (inCycle d d').hbm = d'.hbm := by rw [sameButOrder_inCycle d d']
@[simp] theorem inCycle_ts (d d' : Dev) : (inCycle d d').ts = d'.ts := by rw [sameButOrder_inCycle d d']
@[simp] theorem inCycle_gs (d d' : Dev) : (inCycle d d').gs = d'.gs := by rw [sameButOrder_inCycle d d']
@[simp] theorem inCycle_tb (d d' : Dev) : (inCycle d d').tb = d'.tb := by rw [sameButOrder_inCycle d d']
@[simp] theorem inCycle_lp (d d' : Dev) : (inCycle d d').lp = d'.lp := by rw [sameButOrder_inCycle d d']
@[simp] theorem inCycle_tsUE (d d' : Dev) : (inCycle d d').tsUE = d'.tsUE := by rw [sameButOrder_inCycle d d']
@[simp] theorem inCycle_gsUE (d d' : Dev) : (inCycle d d').gsUE = d'.gsUE := by rw [sameButOrder_inCycle d d']
@[simp] theorem inCycle_tbUE (d d' : Dev) : (inCycle d d').tbUE = d'.tbUE := by rw [sameButOrder_inCycle d d']
@[simp] theorem inCycle_lineUE (d d' : Dev) : (inCycle d d').lineUE = d'.lineUE := by rw [sameButOrder_inCycle d d']
@[simp] theorem inCycle_wcb (d d' : Dev) : (inCycle d d').wcb = d'.wcb := by rw [sameButOrder_inCycle d d']
@[simp] theorem inCycle_hbmWr (d d' : Dev) : (inCycle d d').hbmWr = d'.hbmWr := by rw [sameButOrder_inCycle d d']
@[simp] theorem inCycle_migs (d d' : Dev) : (inCycle d d').migs = d'.migs := by rw [sameButOrder_inCycle d d']
@[simp] theorem inCycle_patrolCe (d d' : Dev) : (inCycle d d').patrolCe = d'.patrolCe := by rw [sameButOrder_inCycle d d']
@[simp] theorem inCycle_slips (d d' : Dev) : (inCycle d d').slips = d'.slips := by rw [sameButOrder_inCycle d d']
@[simp] theorem inCycle_patrolOver (d d' : Dev) : (inCycle d d').patrolOver = d'.patrolOver := by rw [sameButOrder_inCycle d d']
@[simp] theorem inCycle_strms (d d' : Dev) : (inCycle d d').strms = d'.strms := by rw [sameButOrder_inCycle d d']
@[simp] theorem inCycle_tiles (d d' : Dev) : (inCycle d d').tiles = d'.tiles := by rw [sameButOrder_inCycle d d']
@[simp] theorem inCycle_chans (d d' : Dev) : (inCycle d d').chans = d'.chans := by rw [sameButOrder_inCycle d d']
@[simp] theorem inCycle_arrivals (d d' : Dev) : (inCycle d d').arrivals = d'.arrivals := by rw [sameButOrder_inCycle d d']
@[simp] theorem inCycle_answers (d d' : Dev) : (inCycle d d').answers = d'.answers := by rw [sameButOrder_inCycle d d']
@[simp] theorem inCycle_links (d d' : Dev) : (inCycle d d').links = d'.links := by rw [sameButOrder_inCycle d d']
@[simp] theorem inCycle_tags (d d' : Dev) : (inCycle d d').tags = d'.tags := by rw [sameButOrder_inCycle d d']
@[simp] theorem inCycle_hoistUps (d d' : Dev) : (inCycle d d').hoistUps = d'.hoistUps := by rw [sameButOrder_inCycle d d']
@[simp] theorem inCycle_hoistArrived (d d' : Dev) : (inCycle d d').hoistArrived = d'.hoistArrived := by rw [sameButOrder_inCycle d d']
@[simp] theorem inCycle_linkMask (d d' : Dev) : (inCycle d d').linkMask = d'.linkMask := by rw [sameButOrder_inCycle d d']
@[simp] theorem inCycle_ethMask (d d' : Dev) : (inCycle d d').ethMask = d'.ethMask := by rw [sameButOrder_inCycle d d']
@[simp] theorem inCycle_cols (d d' : Dev) : (inCycle d d').cols = d'.cols := by rw [sameButOrder_inCycle d d']
@[simp] theorem inCycle_colNext (d d' : Dev) : (inCycle d d').colNext = d'.colNext := by rw [sameButOrder_inCycle d d']
@[simp] theorem inCycle_early (d d' : Dev) : (inCycle d d').early = d'.early := by rw [sameButOrder_inCycle d d']
@[simp] theorem inCycle_qps (d d' : Dev) : (inCycle d d').qps = d'.qps := by rw [sameButOrder_inCycle d d']
@[simp] theorem inCycle_ethRem (d d' : Dev) : (inCycle d d').ethRem = d'.ethRem := by rw [sameButOrder_inCycle d d']
@[simp] theorem inCycle_pfc (d d' : Dev) : (inCycle d d').pfc = d'.pfc := by rw [sameButOrder_inCycle d d']
@[simp] theorem inCycle_gridX (d d' : Dev) : (inCycle d d').gridX = d'.gridX := by rw [sameButOrder_inCycle d d']
@[simp] theorem inCycle_rc (d d' : Dev) : (inCycle d d').rc = d'.rc := by rw [sameButOrder_inCycle d d']
@[simp] theorem inCycle_armed (d d' : Dev) : (inCycle d d').armed = d'.armed := by rw [sameButOrder_inCycle d d']
@[simp] theorem inCycle_rcStopped (d d' : Dev) : (inCycle d d').rcStopped = d'.rcStopped := by rw [sameButOrder_inCycle d d']
@[simp] theorem inCycle_lineTags (d d' : Dev) : (inCycle d d').lineTags = d'.lineTags := by rw [sameButOrder_inCycle d d']
@[simp] theorem inCycle_shadowBases (d d' : Dev) : (inCycle d d').shadowBases = d'.shadowBases := by rw [sameButOrder_inCycle d d']
@[simp] theorem inCycle_logNext (d d' : Dev) : (inCycle d d').logNext = d'.logNext := by rw [sameButOrder_inCycle d d']
@[simp] theorem inCycle_notes (d d' : Dev) : (inCycle d d').notes = d'.notes := by rw [sameButOrder_inCycle d d']
@[simp] theorem inCycle_logLost (d d' : Dev) : (inCycle d d').logLost = d'.logLost := by rw [sameButOrder_inCycle d d']
@[simp] theorem inCycle_samples (d d' : Dev) : (inCycle d d').samples = d'.samples := by rw [sameButOrder_inCycle d d']
@[simp] theorem inCycle_monDiv (d d' : Dev) : (inCycle d d').monDiv = d'.monDiv := by rw [sameButOrder_inCycle d d']
@[simp] theorem inCycle_snap (d d' : Dev) : (inCycle d d').snap = d'.snap := by rw [sameButOrder_inCycle d d']
@[simp] theorem inCycle_placeDue (d d' : Dev) : (inCycle d d').placeDue = d'.placeDue := by rw [sameButOrder_inCycle d d']
@[simp] theorem inCycle_mapLog (d d' : Dev) : (inCycle d d').mapLog = d'.mapLog := by rw [sameButOrder_inCycle d d']
@[simp] theorem inCycle_undo (d d' : Dev) : (inCycle d d').undo = d'.undo := by rw [sameButOrder_inCycle d d']
@[simp] theorem inCycle_fatals (d d' : Dev) : (inCycle d d').fatals = d'.fatals := by rw [sameButOrder_inCycle d d']
@[simp] theorem inCycle_fwDead (d d' : Dev) : (inCycle d d').fwDead = d'.fwDead := by rw [sameButOrder_inCycle d d']
@[simp] theorem inCycle_sensors (d d' : Dev) : (inCycle d d').sensors = d'.sensors := by rw [sameButOrder_inCycle d d']
@[simp] theorem inCycle_kTok (d d' : Dev) : (inCycle d d').kTok = d'.kTok := by rw [sameButOrder_inCycle d d']
@[simp] theorem inCycle_kOver (d d' : Dev) : (inCycle d d').kOver = d'.kOver := by rw [sameButOrder_inCycle d d']
@[simp] theorem inCycle_kTherm (d d' : Dev) : (inCycle d d').kTherm = d'.kTherm := by rw [sameButOrder_inCycle d d']
@[simp] theorem inCycle_mated (d d' : Dev) : (inCycle d d').mated = d'.mated := by rw [sameButOrder_inCycle d d']
@[simp] theorem inCycle_inputs (d d' : Dev) : (inCycle d d').inputs = d'.inputs := by rw [sameButOrder_inCycle d d']
@[simp] theorem inCycle_calNext (d d' : Dev) : (inCycle d d').calNext = d'.calNext := by rw [sameButOrder_inCycle d d']
@[simp] theorem inCycle_stageMask (d d' : Dev) : (inCycle d d').stageMask = d'.stageMask := by rw [sameButOrder_inCycle d d']
@[simp] theorem inCycle_ethMacs (d d' : Dev) : (inCycle d d').ethMacs = d'.ethMacs := by rw [sameButOrder_inCycle d d']
@[simp] theorem inCycle_meas (d d' : Dev) : (inCycle d d').meas = d'.meas := by rw [sameButOrder_inCycle d d']
@[simp] theorem inCycle_ucHeld (d d' : Dev) : (inCycle d d').ucHeld = d'.ucHeld := by rw [sameButOrder_inCycle d d']
@[simp] theorem inCycle_calHeld (d d' : Dev) : (inCycle d d').calHeld = d'.calHeld := by rw [sameButOrder_inCycle d d']
@[simp] theorem inCycle_ucTiles (d d' : Dev) : (inCycle d d').ucTiles = d'.ucTiles := by rw [sameButOrder_inCycle d d']
@[simp] theorem inCycle_ucLoad (d d' : Dev) : (inCycle d d').ucLoad = d'.ucLoad := by rw [sameButOrder_inCycle d d']
@[simp] theorem inCycle_fuseOp (d d' : Dev) : (inCycle d d').fuseOp = d'.fuseOp := by rw [sameButOrder_inCycle d d']
@[simp] theorem inCycle_verify (d d' : Dev) : (inCycle d d').verify = d'.verify := by rw [sameButOrder_inCycle d d']
@[simp] theorem inCycle_report (d d' : Dev) : (inCycle d d').report = d'.report := by rw [sameButOrder_inCycle d d']
@[simp] theorem inCycle_fwWait (d d' : Dev) : (inCycle d d').fwWait = d'.fwWait := by rw [sameButOrder_inCycle d d']
@[simp] theorem inCycle_packLoad (d d' : Dev) : (inCycle d d').packLoad = d'.packLoad := by rw [sameButOrder_inCycle d d']
@[simp] theorem inCycle_pack (d d' : Dev) : (inCycle d d').pack = d'.pack := by rw [sameButOrder_inCycle d d']
@[simp] theorem inCycle_lovPack (d d' : Dev) : (inCycle d d').lovPack = d'.lovPack := by rw [sameButOrder_inCycle d d']
@[simp] theorem inCycle_lovGo (d d' : Dev) : (inCycle d d').lovGo = d'.lovGo := by rw [sameButOrder_inCycle d d']
@[simp] theorem inCycle_ucieRetrain (d d' : Dev) : (inCycle d d').ucieRetrain = d'.ucieRetrain := by rw [sameButOrder_inCycle d d']
@[simp] theorem inCycle_ucieFails (d d' : Dev) : (inCycle d d').ucieFails = d'.ucieFails := by rw [sameButOrder_inCycle d d']
@[simp] theorem inCycle_ucieReplays (d d' : Dev) : (inCycle d d').ucieReplays = d'.ucieReplays := by rw [sameButOrder_inCycle d d']
@[simp] theorem inCycle_pairLow (d d' : Dev) : (inCycle d d').pairLow = d'.pairLow := by rw [sameButOrder_inCycle d d']
@[simp] theorem inCycle_pairHigh (d d' : Dev) : (inCycle d d').pairHigh = d'.pairHigh := by rw [sameButOrder_inCycle d d']
@[simp] theorem inCycle_pairHighI3c (d d' : Dev) : (inCycle d d').pairHighI3c = d'.pairHighI3c := by rw [sameButOrder_inCycle d d']
@[simp] theorem inCycle_onceWritten (d d' : Dev) : (inCycle d d').onceWritten = d'.onceWritten := by rw [sameButOrder_inCycle d d']
@[simp] theorem inCycle_i3c (d d' : Dev) : (inCycle d d').i3c = d'.i3c := by rw [sameButOrder_inCycle d d']
@[simp] theorem inCycle_jtag (d d' : Dev) : (inCycle d d').jtag = d'.jtag := by rw [sameButOrder_inCycle d d']
@[simp] theorem inCycle_irqLog (d d' : Dev) : (inCycle d d').irqLog = d'.irqLog := by rw [sameButOrder_inCycle d d']
@[simp] theorem inCycle_irqLogAt (d d' : Dev) : (inCycle d d').irqLogAt = d'.irqLogAt := by rw [sameButOrder_inCycle d d']
@[simp] theorem inCycle_free (d d' : Dev) : (inCycle d d').free = d'.free := by rw [sameButOrder_inCycle d d']

@[simp] theorem getStrm_inCycle (d d' : Dev) (p h c : Nat) : getStrm (inCycle d d') p h c = getStrm d' p h c := by
  unfold getStrm; rw [inCycle_strms]
@[simp] theorem getTile_inCycle (d d' : Dev) (p : Nat) : getTile (inCycle d d') p = getTile d' p := by
  unfold getTile; rw [inCycle_tiles]
@[simp] theorem getChan_inCycle (d d' : Dev) (p n : Nat) : getChan (inCycle d d') p n = getChan d' p n := by
  unfold getChan; rw [inCycle_chans]
@[simp] theorem getLink_inCycle (d d' : Dev) (n : Nat) : getLink (inCycle d d') n = getLink d' n := by
  unfold getLink; rw [inCycle_links]
@[simp] theorem getQp_inCycle (d d' : Dev) (port qp : Nat) : getQp (inCycle d d') port qp = getQp d' port qp := by
  unfold getQp; rw [inCycle_qps]

theorem rget_renamed (m : List (Nat × Nat)) (l : List Nat) (d : Dev) (k : RegKey) (hk : k.reg ≠ .CLK_CTX_PEND_LOG) :
    rget (l.foldl (renamedPend m) d) k = rget d k := by
  induction l generalizing d with
  | nil => rfl
  | cons c l ih =>
    refine (ih (renamedPend m d c)).trans ?_
    unfold renamedPend; split
    · rfl
    · refine rget_rset_ne d _ ?_
      rintro rfl; exact hk rfl

/-- Every register but CLK_CTX_PEND_LOG keeps its value as a cycle's records are put in order. -/
theorem rget_inCycle (d d' : Dev) {k : RegKey} (hk : k.reg ≠ .CLK_CTX_PEND_LOG) : rget (inCycle d d') k = rget d' k := by
  unfold inCycle; dsimp only
  split
  · rfl
  · unfold sortRecords; dsimp only
    rw [rget_renamed _ _ _ _ hk]; rfl

end Sys2Proof.Machine
end

