-- ==== Sys2Proof/Laws/Errors.lean ====
section
/-! SUPPORT. What recording an error can change, once: counters, the log, event queues, halts, flags and pins. Every other
field of the device stays, whatever the error. -/

namespace Sys2Proof.Machine

/-- The devices agree on everything but what recording an error may change. -/
def SameButLog (d d' : Dev) : Prop :=
  d' = { d with regs := d'.regs, log := d'.log, logNext := d'.logNext, logLost := d'.logLost, ctxs := d'.ctxs, tiles := d'.tiles, notes := d'.notes, fatals := d'.fatals, pins := d'.pins, free := d'.free }

theorem SameButLog.refl (d : Dev) : SameButLog d d := rfl

theorem SameButLog.trans {a b c : Dev} (h : SameButLog a b) (k : SameButLog b c) : SameButLog a c := by
  unfold SameButLog at h k ⊢; rw [h] at k; exact k

theorem SameButLog.power {d d' : Dev} (h : SameButLog d d') : d'.power = d.power := by unfold SameButLog at h; rw [h]
theorem SameButLog.outbox {d d' : Dev} (h : SameButLog d d') : d'.outbox = d.outbox := by unfold SameButLog at h; rw [h]
theorem SameButLog.hbm {d d' : Dev} (h : SameButLog d d') : d'.hbm = d.hbm := by unfold SameButLog at h; rw [h]
theorem SameButLog.ts {d d' : Dev} (h : SameButLog d d') : d'.ts = d.ts := by unfold SameButLog at h; rw [h]
theorem SameButLog.gs {d d' : Dev} (h : SameButLog d d') : d'.gs = d.gs := by unfold SameButLog at h; rw [h]
theorem SameButLog.tb {d d' : Dev} (h : SameButLog d d') : d'.tb = d.tb := by unfold SameButLog at h; rw [h]
theorem SameButLog.lp {d d' : Dev} (h : SameButLog d d') : d'.lp = d.lp := by unfold SameButLog at h; rw [h]
theorem SameButLog.tsUE {d d' : Dev} (h : SameButLog d d') : d'.tsUE = d.tsUE := by unfold SameButLog at h; rw [h]
theorem SameButLog.gsUE {d d' : Dev} (h : SameButLog d d') : d'.gsUE = d.gsUE := by unfold SameButLog at h; rw [h]
theorem SameButLog.tbUE {d d' : Dev} (h : SameButLog d d') : d'.tbUE = d.tbUE := by unfold SameButLog at h; rw [h]
theorem SameButLog.lineUE {d d' : Dev} (h : SameButLog d d') : d'.lineUE = d.lineUE := by unfold SameButLog at h; rw [h]
theorem SameButLog.wcb {d d' : Dev} (h : SameButLog d d') : d'.wcb = d.wcb := by unfold SameButLog at h; rw [h]
theorem SameButLog.hbmWr {d d' : Dev} (h : SameButLog d d') : d'.hbmWr = d.hbmWr := by unfold SameButLog at h; rw [h]
theorem SameButLog.migs {d d' : Dev} (h : SameButLog d d') : d'.migs = d.migs := by unfold SameButLog at h; rw [h]
theorem SameButLog.patrolCe {d d' : Dev} (h : SameButLog d d') : d'.patrolCe = d.patrolCe := by unfold SameButLog at h; rw [h]
theorem SameButLog.slips {d d' : Dev} (h : SameButLog d d') : d'.slips = d.slips := by unfold SameButLog at h; rw [h]
theorem SameButLog.patrolOver {d d' : Dev} (h : SameButLog d d') : d'.patrolOver = d.patrolOver := by unfold SameButLog at h; rw [h]
theorem SameButLog.strms {d d' : Dev} (h : SameButLog d d') : d'.strms = d.strms := by unfold SameButLog at h; rw [h]
theorem SameButLog.chans {d d' : Dev} (h : SameButLog d d') : d'.chans = d.chans := by unfold SameButLog at h; rw [h]
theorem SameButLog.arrivals {d d' : Dev} (h : SameButLog d d') : d'.arrivals = d.arrivals := by unfold SameButLog at h; rw [h]
theorem SameButLog.answers {d d' : Dev} (h : SameButLog d d') : d'.answers = d.answers := by unfold SameButLog at h; rw [h]
theorem SameButLog.links {d d' : Dev} (h : SameButLog d d') : d'.links = d.links := by unfold SameButLog at h; rw [h]
theorem SameButLog.tags {d d' : Dev} (h : SameButLog d d') : d'.tags = d.tags := by unfold SameButLog at h; rw [h]
theorem SameButLog.hoistUps {d d' : Dev} (h : SameButLog d d') : d'.hoistUps = d.hoistUps := by unfold SameButLog at h; rw [h]
theorem SameButLog.hoistArrived {d d' : Dev} (h : SameButLog d d') : d'.hoistArrived = d.hoistArrived := by unfold SameButLog at h; rw [h]
theorem SameButLog.linkMask {d d' : Dev} (h : SameButLog d d') : d'.linkMask = d.linkMask := by unfold SameButLog at h; rw [h]
theorem SameButLog.ethMask {d d' : Dev} (h : SameButLog d d') : d'.ethMask = d.ethMask := by unfold SameButLog at h; rw [h]
theorem SameButLog.cols {d d' : Dev} (h : SameButLog d d') : d'.cols = d.cols := by unfold SameButLog at h; rw [h]
theorem SameButLog.colNext {d d' : Dev} (h : SameButLog d d') : d'.colNext = d.colNext := by unfold SameButLog at h; rw [h]
theorem SameButLog.early {d d' : Dev} (h : SameButLog d d') : d'.early = d.early := by unfold SameButLog at h; rw [h]
theorem SameButLog.qps {d d' : Dev} (h : SameButLog d d') : d'.qps = d.qps := by unfold SameButLog at h; rw [h]
theorem SameButLog.ethRem {d d' : Dev} (h : SameButLog d d') : d'.ethRem = d.ethRem := by unfold SameButLog at h; rw [h]
theorem SameButLog.pfc {d d' : Dev} (h : SameButLog d d') : d'.pfc = d.pfc := by unfold SameButLog at h; rw [h]
theorem SameButLog.gridX {d d' : Dev} (h : SameButLog d d') : d'.gridX = d.gridX := by unfold SameButLog at h; rw [h]
theorem SameButLog.rc {d d' : Dev} (h : SameButLog d d') : d'.rc = d.rc := by unfold SameButLog at h; rw [h]
theorem SameButLog.armed {d d' : Dev} (h : SameButLog d d') : d'.armed = d.armed := by unfold SameButLog at h; rw [h]
theorem SameButLog.rcStopped {d d' : Dev} (h : SameButLog d d') : d'.rcStopped = d.rcStopped := by unfold SameButLog at h; rw [h]
theorem SameButLog.lineTags {d d' : Dev} (h : SameButLog d d') : d'.lineTags = d.lineTags := by unfold SameButLog at h; rw [h]
theorem SameButLog.shadowBases {d d' : Dev} (h : SameButLog d d') : d'.shadowBases = d.shadowBases := by unfold SameButLog at h; rw [h]
theorem SameButLog.samples {d d' : Dev} (h : SameButLog d d') : d'.samples = d.samples := by unfold SameButLog at h; rw [h]
theorem SameButLog.monDiv {d d' : Dev} (h : SameButLog d d') : d'.monDiv = d.monDiv := by unfold SameButLog at h; rw [h]
theorem SameButLog.snap {d d' : Dev} (h : SameButLog d d') : d'.snap = d.snap := by unfold SameButLog at h; rw [h]
theorem SameButLog.placeDue {d d' : Dev} (h : SameButLog d d') : d'.placeDue = d.placeDue := by unfold SameButLog at h; rw [h]
theorem SameButLog.mapLog {d d' : Dev} (h : SameButLog d d') : d'.mapLog = d.mapLog := by unfold SameButLog at h; rw [h]
theorem SameButLog.undo {d d' : Dev} (h : SameButLog d d') : d'.undo = d.undo := by unfold SameButLog at h; rw [h]
theorem SameButLog.fwDead {d d' : Dev} (h : SameButLog d d') : d'.fwDead = d.fwDead := by unfold SameButLog at h; rw [h]
theorem SameButLog.sensors {d d' : Dev} (h : SameButLog d d') : d'.sensors = d.sensors := by unfold SameButLog at h; rw [h]
theorem SameButLog.kTok {d d' : Dev} (h : SameButLog d d') : d'.kTok = d.kTok := by unfold SameButLog at h; rw [h]
theorem SameButLog.kOver {d d' : Dev} (h : SameButLog d d') : d'.kOver = d.kOver := by unfold SameButLog at h; rw [h]
theorem SameButLog.kTherm {d d' : Dev} (h : SameButLog d d') : d'.kTherm = d.kTherm := by unfold SameButLog at h; rw [h]
theorem SameButLog.mated {d d' : Dev} (h : SameButLog d d') : d'.mated = d.mated := by unfold SameButLog at h; rw [h]
theorem SameButLog.inputs {d d' : Dev} (h : SameButLog d d') : d'.inputs = d.inputs := by unfold SameButLog at h; rw [h]
theorem SameButLog.calNext {d d' : Dev} (h : SameButLog d d') : d'.calNext = d.calNext := by unfold SameButLog at h; rw [h]
theorem SameButLog.stageMask {d d' : Dev} (h : SameButLog d d') : d'.stageMask = d.stageMask := by unfold SameButLog at h; rw [h]
theorem SameButLog.ethMacs {d d' : Dev} (h : SameButLog d d') : d'.ethMacs = d.ethMacs := by unfold SameButLog at h; rw [h]
theorem SameButLog.meas {d d' : Dev} (h : SameButLog d d') : d'.meas = d.meas := by unfold SameButLog at h; rw [h]
theorem SameButLog.ucHeld {d d' : Dev} (h : SameButLog d d') : d'.ucHeld = d.ucHeld := by unfold SameButLog at h; rw [h]
theorem SameButLog.calHeld {d d' : Dev} (h : SameButLog d d') : d'.calHeld = d.calHeld := by unfold SameButLog at h; rw [h]
theorem SameButLog.ucTiles {d d' : Dev} (h : SameButLog d d') : d'.ucTiles = d.ucTiles := by unfold SameButLog at h; rw [h]
theorem SameButLog.ucLoad {d d' : Dev} (h : SameButLog d d') : d'.ucLoad = d.ucLoad := by unfold SameButLog at h; rw [h]
theorem SameButLog.fuseOp {d d' : Dev} (h : SameButLog d d') : d'.fuseOp = d.fuseOp := by unfold SameButLog at h; rw [h]
theorem SameButLog.verify {d d' : Dev} (h : SameButLog d d') : d'.verify = d.verify := by unfold SameButLog at h; rw [h]
theorem SameButLog.report {d d' : Dev} (h : SameButLog d d') : d'.report = d.report := by unfold SameButLog at h; rw [h]
theorem SameButLog.fwWait {d d' : Dev} (h : SameButLog d d') : d'.fwWait = d.fwWait := by unfold SameButLog at h; rw [h]
theorem SameButLog.packLoad {d d' : Dev} (h : SameButLog d d') : d'.packLoad = d.packLoad := by unfold SameButLog at h; rw [h]
theorem SameButLog.pack {d d' : Dev} (h : SameButLog d d') : d'.pack = d.pack := by unfold SameButLog at h; rw [h]
theorem SameButLog.lovPack {d d' : Dev} (h : SameButLog d d') : d'.lovPack = d.lovPack := by unfold SameButLog at h; rw [h]
theorem SameButLog.lovGo {d d' : Dev} (h : SameButLog d d') : d'.lovGo = d.lovGo := by unfold SameButLog at h; rw [h]
theorem SameButLog.ucieRetrain {d d' : Dev} (h : SameButLog d d') : d'.ucieRetrain = d.ucieRetrain := by unfold SameButLog at h; rw [h]
theorem SameButLog.ucieFails {d d' : Dev} (h : SameButLog d d') : d'.ucieFails = d.ucieFails := by unfold SameButLog at h; rw [h]
theorem SameButLog.ucieReplays {d d' : Dev} (h : SameButLog d d') : d'.ucieReplays = d.ucieReplays := by unfold SameButLog at h; rw [h]
theorem SameButLog.pairLow {d d' : Dev} (h : SameButLog d d') : d'.pairLow = d.pairLow := by unfold SameButLog at h; rw [h]
theorem SameButLog.pairHigh {d d' : Dev} (h : SameButLog d d') : d'.pairHigh = d.pairHigh := by unfold SameButLog at h; rw [h]
theorem SameButLog.pairHighI3c {d d' : Dev} (h : SameButLog d d') : d'.pairHighI3c = d.pairHighI3c := by unfold SameButLog at h; rw [h]
theorem SameButLog.onceWritten {d d' : Dev} (h : SameButLog d d') : d'.onceWritten = d.onceWritten := by unfold SameButLog at h; rw [h]
theorem SameButLog.i3c {d d' : Dev} (h : SameButLog d d') : d'.i3c = d.i3c := by unfold SameButLog at h; rw [h]
theorem SameButLog.jtag {d d' : Dev} (h : SameButLog d d') : d'.jtag = d.jtag := by unfold SameButLog at h; rw [h]
theorem SameButLog.irqLog {d d' : Dev} (h : SameButLog d d') : d'.irqLog = d.irqLog := by unfold SameButLog at h; rw [h]
theorem SameButLog.irqLogAt {d d' : Dev} (h : SameButLog d d') : d'.irqLogAt = d.irqLogAt := by unfold SameButLog at h; rw [h]

theorem sameButLog_foldl {α : Type} (f : Dev → α → Dev) (hf : ∀ d a, SameButLog d (f d a)) (l : List α) (d : Dev) :
    SameButLog d (l.foldl f d) := by
  induction l generalizing d with
  | nil => rfl
  | cons a l ih => exact (hf d a).trans (ih (f d a))

theorem sameButLog_rset (d : Dev) (k : RegKey) (v : Nat) : SameButLog d (rset d k v) := rfl

theorem sameButLog_setCtx (d : Dev) (c : Nat) (x : Ctx) : SameButLog d (setCtx d c x) := rfl

theorem sameButLog_setTile (d : Dev) (p : Nat) (t : TileSt) : SameButLog d (setTile d p t) := rfl

theorem sameButLog_satRaw (d : Dev) (k : RegKey) (n : Nat) : SameButLog d (satRaw d k n).1 := by
  unfold satRaw; dsimp only; split <;> rfl

theorem sameButLog_logKeep (type img : Nat) (d : Dev) : SameButLog d (logKeep type img d).1 := by
  unfold logKeep; dsimp only
  split
  · rfl
  · refine SameButLog.trans ?_ (sameButLog_satRaw _ _ _)
    rfl

theorem sameButLog_lostSeen (e : Env) (d : Dev) : SameButLog d (lostSeen e d) := by
  unfold lostSeen; dsimp only
  have h := (sameButLog_logKeep 4 (monitorEvent e d ⟨.LOG_LOST, 0, 0, 0⟩) d).trans (sameButLog_satRaw _ ⟨.MON_SAT_EVENTS, 0, 0, 0⟩ 1)
  generalize satRaw (logKeep 4 (monitorEvent e d ⟨.LOG_LOST, 0, 0, 0⟩) d).1 ⟨.MON_SAT_EVENTS, 0, 0, 0⟩ 1 = r at h
  split
  · exact (h.trans (sameButLog_logKeep 4 (monitorEvent e r.1 ⟨.MON_SAT_EVENTS, 0, 0, 0⟩) r.1)).trans (sameButLog_rset _ _ _)
  · exact h.trans (sameButLog_rset _ _ _)

theorem sameButLog_logPut (e : Env) (type img : Nat) (d : Dev) : SameButLog d (logPut e type img d) := by
  unfold logPut
  split
  · rfl
  · have h := sameButLog_logKeep type img d
    split
    · rename_i d' hd; rw [hd] at h; exact h
    · rename_i d' hd
      rw [hd] at h
      exact h.trans (sameButLog_lostSeen _ _)

theorem sameButLog_satSeen (e : Env) (k : RegKey) (d : Dev) : SameButLog d (satSeen e k d) := by
  unfold satSeen; dsimp only
  split
  · exact (sameButLog_logPut e _ _ d).trans rfl
  · exact (sameButLog_logPut e _ _ d).trans rfl

theorem sameButLog_satAdd (e : Env) (k : RegKey) (n : Nat) (d : Dev) : SameButLog d (satAdd e k n d) := by
  unfold satAdd
  split
  · rfl
  · have h := sameButLog_satRaw d k n
    split
    · rename_i d' hd; rw [hd] at h; exact h
    · rename_i d' hd
      rw [hd] at h
      have h2 := h.trans ((sameButLog_satSeen e k d').trans (sameButLog_satRaw (satSeen e k d') ⟨.MON_SAT_EVENTS, 0, 0, 0⟩ 1))
      split
      · rename_i d'' hd'; rw [hd'] at h2; exact h2
      · rename_i d'' hd'; rw [hd'] at h2; exact h2.trans (sameButLog_satSeen _ _ _)

theorem sameButLog_pushEvent (e : Env) (c type body : Nat) (d : Dev) : SameButLog d (pushEvent e c type body d) := by
  unfold pushEvent
  split
  · refine SameButLog.trans ?_ (sameButLog_satAdd _ _ _ _)
    rfl
  · rfl

theorem sameButLog_haltCtx (c : Nat) (d : Dev) : SameButLog d (haltCtx c d) :=
  sameButLog_foldl (haltOn c) (fun d p => sameButLog_setTile d p _) _ _

theorem sameButLog_fatalEvent (cls : Nat) (d : Dev) : SameButLog d (fatalEvent cls d) := by
  have h : SameButLog d ((List.range 8).foldl (fun d c => haltCtx c d) d) :=
    sameButLog_foldl _ (fun d c => sameButLog_haltCtx c d) _ _
  unfold fatalEvent; dsimp only
  generalize (List.range 8).foldl (fun d c => haltCtx c d) d = d' at h
  split <;> exact h.trans rfl

theorem sameButLog_markSuspect (cls : Nat) (d : Dev) : SameButLog d (markSuspect cls d) := by
  unfold markSuspect; dsimp only; split <;> rfl

theorem sameButLog_severityActs (r : Err) (d : Dev) : SameButLog d (severityActs r d) := by
  unfold severityActs
  split
  · exact sameButLog_markSuspect _ _
  · split
    · dsimp only
      split
      · have h := (sameButLog_fatalEvent r.cls d).trans (sameButLog_markSuspect r.cls _)
        generalize markSuspect r.cls (fatalEvent r.cls d) = d' at h
        exact h.trans rfl
      · exact sameButLog_fatalEvent _ _
    · rfl

theorem sameButLog_errBody (e : Env) (r : Err) (d : Dev) : SameButLog d (errBody e r d).2 := by
  unfold errBody; dsimp only
  cases errSensor r <;> cases errRail r <;> rfl

/-- What raising an error record can change. -/
theorem sameButLog_logError (e : Env) (r : Err) (d : Dev) : SameButLog d (logError e r d) := by
  unfold logError
  split
  · rfl
  · dsimp only
    refine SameButLog.trans ?_ (sameButLog_severityActs _ _)
    have h1 := (sameButLog_errBody e r d).trans (sameButLog_logPut e 1 (errBody e r d).1 (errBody e r d).2)
    have h2 : SameButLog d (match r.ctx with
        | some c => pushEvent e c 6 (errBody e r d).1 (logPut e 1 (errBody e r d).1 (errBody e r d).2)
        | none => logPut e 1 (errBody e r d).1 (errBody e r d).2) := by
      cases r.ctx with
      | none => exact h1
      | some c => exact h1.trans (sameButLog_pushEvent _ _ _ _ _)
    have h3 := h2.trans (sameButLog_satAdd e ⟨sevCounter (errSev r), 0, 0, 0⟩ 1 _)
    split
    · refine SameButLog.trans h3 ?_
      rfl
    · exact h3

theorem sameButLog_regAccess (e : Env) (off : Nat) (write : Bool) (d : Dev) : SameButLog d (regAccess e off write d) :=
  sameButLog_logError _ _ _

theorem sameButLog_pendFailure (c cause aux : Nat) (d : Dev) : SameButLog d (pendFailure c cause aux d) := by
  unfold pendFailure; split <;> rfl

/-- The devices agree on everything but what the failure of a launch may change: what recording an error may, and the
streams and channels. -/
def SameButFail (d d' : Dev) : Prop :=
  d' = { d with regs := d'.regs, log := d'.log, logNext := d'.logNext, logLost := d'.logLost, ctxs := d'.ctxs, tiles := d'.tiles, notes := d'.notes, fatals := d'.fatals, pins := d'.pins, free := d'.free, strms := d'.strms, chans := d'.chans }

theorem SameButLog.fail {d d' : Dev} (h : SameButLog d d') : SameButFail d d' := by
  have hs := h.strms
  have hc := h.chans
  unfold SameButFail; rw [hs, hc]; exact h

theorem SameButFail.trans {a b c : Dev} (h : SameButFail a b) (k : SameButFail b c) : SameButFail a c := by
  unfold SameButFail at h k ⊢; rw [h] at k; exact k

theorem SameButFail.power {d d' : Dev} (h : SameButFail d d') : d'.power = d.power := by unfold SameButFail at h; rw [h]
theorem SameButFail.outbox {d d' : Dev} (h : SameButFail d d') : d'.outbox = d.outbox := by unfold SameButFail at h; rw [h]
theorem SameButFail.hbm {d d' : Dev} (h : SameButFail d d') : d'.hbm = d.hbm := by unfold SameButFail at h; rw [h]
theorem SameButFail.ts {d d' : Dev} (h : SameButFail d d') : d'.ts = d.ts := by unfold SameButFail at h; rw [h]
theorem SameButFail.gs {d d' : Dev} (h : SameButFail d d') : d'.gs = d.gs := by unfold SameButFail at h; rw [h]
theorem SameButFail.tb {d d' : Dev} (h : SameButFail d d') : d'.tb = d.tb := by unfold SameButFail at h; rw [h]
theorem SameButFail.lp {d d' : Dev} (h : SameButFail d d') : d'.lp = d.lp := by unfold SameButFail at h; rw [h]
theorem SameButFail.tsUE {d d' : Dev} (h : SameButFail d d') : d'.tsUE = d.tsUE := by unfold SameButFail at h; rw [h]
theorem SameButFail.gsUE {d d' : Dev} (h : SameButFail d d') : d'.gsUE = d.gsUE := by unfold SameButFail at h; rw [h]
theorem SameButFail.tbUE {d d' : Dev} (h : SameButFail d d') : d'.tbUE = d.tbUE := by unfold SameButFail at h; rw [h]
theorem SameButFail.lineUE {d d' : Dev} (h : SameButFail d d') : d'.lineUE = d.lineUE := by unfold SameButFail at h; rw [h]
theorem SameButFail.wcb {d d' : Dev} (h : SameButFail d d') : d'.wcb = d.wcb := by unfold SameButFail at h; rw [h]
theorem SameButFail.hbmWr {d d' : Dev} (h : SameButFail d d') : d'.hbmWr = d.hbmWr := by unfold SameButFail at h; rw [h]
theorem SameButFail.migs {d d' : Dev} (h : SameButFail d d') : d'.migs = d.migs := by unfold SameButFail at h; rw [h]
theorem SameButFail.patrolCe {d d' : Dev} (h : SameButFail d d') : d'.patrolCe = d.patrolCe := by unfold SameButFail at h; rw [h]
theorem SameButFail.slips {d d' : Dev} (h : SameButFail d d') : d'.slips = d.slips := by unfold SameButFail at h; rw [h]
theorem SameButFail.patrolOver {d d' : Dev} (h : SameButFail d d') : d'.patrolOver = d.patrolOver := by unfold SameButFail at h; rw [h]
theorem SameButFail.arrivals {d d' : Dev} (h : SameButFail d d') : d'.arrivals = d.arrivals := by unfold SameButFail at h; rw [h]
theorem SameButFail.answers {d d' : Dev} (h : SameButFail d d') : d'.answers = d.answers := by unfold SameButFail at h; rw [h]
theorem SameButFail.links {d d' : Dev} (h : SameButFail d d') : d'.links = d.links := by unfold SameButFail at h; rw [h]
theorem SameButFail.tags {d d' : Dev} (h : SameButFail d d') : d'.tags = d.tags := by unfold SameButFail at h; rw [h]
theorem SameButFail.hoistUps {d d' : Dev} (h : SameButFail d d') : d'.hoistUps = d.hoistUps := by unfold SameButFail at h; rw [h]
theorem SameButFail.hoistArrived {d d' : Dev} (h : SameButFail d d') : d'.hoistArrived = d.hoistArrived := by unfold SameButFail at h; rw [h]
theorem SameButFail.linkMask {d d' : Dev} (h : SameButFail d d') : d'.linkMask = d.linkMask := by unfold SameButFail at h; rw [h]
theorem SameButFail.ethMask {d d' : Dev} (h : SameButFail d d') : d'.ethMask = d.ethMask := by unfold SameButFail at h; rw [h]
theorem SameButFail.cols {d d' : Dev} (h : SameButFail d d') : d'.cols = d.cols := by unfold SameButFail at h; rw [h]
theorem SameButFail.colNext {d d' : Dev} (h : SameButFail d d') : d'.colNext = d.colNext := by unfold SameButFail at h; rw [h]
theorem SameButFail.early {d d' : Dev} (h : SameButFail d d') : d'.early = d.early := by unfold SameButFail at h; rw [h]
theorem SameButFail.qps {d d' : Dev} (h : SameButFail d d') : d'.qps = d.qps := by unfold SameButFail at h; rw [h]
theorem SameButFail.ethRem {d d' : Dev} (h : SameButFail d d') : d'.ethRem = d.ethRem := by unfold SameButFail at h; rw [h]
theorem SameButFail.pfc {d d' : Dev} (h : SameButFail d d') : d'.pfc = d.pfc := by unfold SameButFail at h; rw [h]
theorem SameButFail.gridX {d d' : Dev} (h : SameButFail d d') : d'.gridX = d.gridX := by unfold SameButFail at h; rw [h]
theorem SameButFail.rc {d d' : Dev} (h : SameButFail d d') : d'.rc = d.rc := by unfold SameButFail at h; rw [h]
theorem SameButFail.armed {d d' : Dev} (h : SameButFail d d') : d'.armed = d.armed := by unfold SameButFail at h; rw [h]
theorem SameButFail.rcStopped {d d' : Dev} (h : SameButFail d d') : d'.rcStopped = d.rcStopped := by unfold SameButFail at h; rw [h]
theorem SameButFail.lineTags {d d' : Dev} (h : SameButFail d d') : d'.lineTags = d.lineTags := by unfold SameButFail at h; rw [h]
theorem SameButFail.shadowBases {d d' : Dev} (h : SameButFail d d') : d'.shadowBases = d.shadowBases := by unfold SameButFail at h; rw [h]
theorem SameButFail.samples {d d' : Dev} (h : SameButFail d d') : d'.samples = d.samples := by unfold SameButFail at h; rw [h]
theorem SameButFail.monDiv {d d' : Dev} (h : SameButFail d d') : d'.monDiv = d.monDiv := by unfold SameButFail at h; rw [h]
theorem SameButFail.snap {d d' : Dev} (h : SameButFail d d') : d'.snap = d.snap := by unfold SameButFail at h; rw [h]
theorem SameButFail.placeDue {d d' : Dev} (h : SameButFail d d') : d'.placeDue = d.placeDue := by unfold SameButFail at h; rw [h]
theorem SameButFail.mapLog {d d' : Dev} (h : SameButFail d d') : d'.mapLog = d.mapLog := by unfold SameButFail at h; rw [h]
theorem SameButFail.undo {d d' : Dev} (h : SameButFail d d') : d'.undo = d.undo := by unfold SameButFail at h; rw [h]
theorem SameButFail.fwDead {d d' : Dev} (h : SameButFail d d') : d'.fwDead = d.fwDead := by unfold SameButFail at h; rw [h]
theorem SameButFail.sensors {d d' : Dev} (h : SameButFail d d') : d'.sensors = d.sensors := by unfold SameButFail at h; rw [h]
theorem SameButFail.kTok {d d' : Dev} (h : SameButFail d d') : d'.kTok = d.kTok := by unfold SameButFail at h; rw [h]
theorem SameButFail.kOver {d d' : Dev} (h : SameButFail d d') : d'.kOver = d.kOver := by unfold SameButFail at h; rw [h]
theorem SameButFail.kTherm {d d' : Dev} (h : SameButFail d d') : d'.kTherm = d.kTherm := by unfold SameButFail at h; rw [h]
theorem SameButFail.mated {d d' : Dev} (h : SameButFail d d') : d'.mated = d.mated := by unfold SameButFail at h; rw [h]
theorem SameButFail.inputs {d d' : Dev} (h : SameButFail d d') : d'.inputs = d.inputs := by unfold SameButFail at h; rw [h]
theorem SameButFail.calNext {d d' : Dev} (h : SameButFail d d') : d'.calNext = d.calNext := by unfold SameButFail at h; rw [h]
theorem SameButFail.stageMask {d d' : Dev} (h : SameButFail d d') : d'.stageMask = d.stageMask := by unfold SameButFail at h; rw [h]
theorem SameButFail.ethMacs {d d' : Dev} (h : SameButFail d d') : d'.ethMacs = d.ethMacs := by unfold SameButFail at h; rw [h]
theorem SameButFail.meas {d d' : Dev} (h : SameButFail d d') : d'.meas = d.meas := by unfold SameButFail at h; rw [h]
theorem SameButFail.ucHeld {d d' : Dev} (h : SameButFail d d') : d'.ucHeld = d.ucHeld := by unfold SameButFail at h; rw [h]
theorem SameButFail.calHeld {d d' : Dev} (h : SameButFail d d') : d'.calHeld = d.calHeld := by unfold SameButFail at h; rw [h]
theorem SameButFail.ucTiles {d d' : Dev} (h : SameButFail d d') : d'.ucTiles = d.ucTiles := by unfold SameButFail at h; rw [h]
theorem SameButFail.ucLoad {d d' : Dev} (h : SameButFail d d') : d'.ucLoad = d.ucLoad := by unfold SameButFail at h; rw [h]
theorem SameButFail.fuseOp {d d' : Dev} (h : SameButFail d d') : d'.fuseOp = d.fuseOp := by unfold SameButFail at h; rw [h]
theorem SameButFail.verify {d d' : Dev} (h : SameButFail d d') : d'.verify = d.verify := by unfold SameButFail at h; rw [h]
theorem SameButFail.report {d d' : Dev} (h : SameButFail d d') : d'.report = d.report := by unfold SameButFail at h; rw [h]
theorem SameButFail.fwWait {d d' : Dev} (h : SameButFail d d') : d'.fwWait = d.fwWait := by unfold SameButFail at h; rw [h]
theorem SameButFail.packLoad {d d' : Dev} (h : SameButFail d d') : d'.packLoad = d.packLoad := by unfold SameButFail at h; rw [h]
theorem SameButFail.pack {d d' : Dev} (h : SameButFail d d') : d'.pack = d.pack := by unfold SameButFail at h; rw [h]
theorem SameButFail.lovPack {d d' : Dev} (h : SameButFail d d') : d'.lovPack = d.lovPack := by unfold SameButFail at h; rw [h]
theorem SameButFail.lovGo {d d' : Dev} (h : SameButFail d d') : d'.lovGo = d.lovGo := by unfold SameButFail at h; rw [h]
theorem SameButFail.ucieRetrain {d d' : Dev} (h : SameButFail d d') : d'.ucieRetrain = d.ucieRetrain := by unfold SameButFail at h; rw [h]
theorem SameButFail.ucieFails {d d' : Dev} (h : SameButFail d d') : d'.ucieFails = d.ucieFails := by unfold SameButFail at h; rw [h]
theorem SameButFail.ucieReplays {d d' : Dev} (h : SameButFail d d') : d'.ucieReplays = d.ucieReplays := by unfold SameButFail at h; rw [h]
theorem SameButFail.pairLow {d d' : Dev} (h : SameButFail d d') : d'.pairLow = d.pairLow := by unfold SameButFail at h; rw [h]
theorem SameButFail.pairHigh {d d' : Dev} (h : SameButFail d d') : d'.pairHigh = d.pairHigh := by unfold SameButFail at h; rw [h]
theorem SameButFail.pairHighI3c {d d' : Dev} (h : SameButFail d d') : d'.pairHighI3c = d.pairHighI3c := by unfold SameButFail at h; rw [h]
theorem SameButFail.onceWritten {d d' : Dev} (h : SameButFail d d') : d'.onceWritten = d.onceWritten := by unfold SameButFail at h; rw [h]
theorem SameButFail.i3c {d d' : Dev} (h : SameButFail d d') : d'.i3c = d.i3c := by unfold SameButFail at h; rw [h]
theorem SameButFail.jtag {d d' : Dev} (h : SameButFail d d') : d'.jtag = d.jtag := by unfold SameButFail at h; rw [h]
theorem SameButFail.irqLog {d d' : Dev} (h : SameButFail d d') : d'.irqLog = d.irqLog := by unfold SameButFail at h; rw [h]
theorem SameButFail.irqLogAt {d d' : Dev} (h : SameButFail d d') : d'.irqLogAt = d.irqLogAt := by unfold SameButFail at h; rw [h]

theorem sameButFail_foldl {α : Type} (f : Dev → α → Dev) (hf : ∀ d a, SameButFail d (f d a)) (l : List α) (d : Dev) :
    SameButFail d (l.foldl f d) := by
  induction l generalizing d with
  | nil => rfl
  | cons a l ih => exact (hf d a).trans (ih (f d a))

theorem sameButFail_stopLaunch (c : Nat) (d : Dev) : SameButFail d (stopLaunch c d) := by
  refine sameButFail_foldl _ (fun d p => ?_) _ _
  have h : SameButFail d (dropUnissued c d p) := rfl
  refine h.trans (sameButFail_foldl (dropGo c p) (fun d n => ?_) _ _)
  unfold dropGo; dsimp only
  split
  · split <;> rfl
  · rfl

theorem sameButFail_failLaunch (e : Env) (c cause aux : Nat) (d : Dev) : SameButFail d (failLaunch e c cause aux d) := by
  unfold failLaunch; dsimp only
  split
  · split
    · exact (sameButLog_pendFailure _ _ _ _).fail
    · exact (sameButLog_setCtx d c _).fail.trans (sameButFail_stopLaunch _ _)
  · exact (SameButLog.refl d).fail
  · exact (sameButLog_pendFailure _ _ _ _).fail

/-- What a failure with its record can change. -/
theorem sameButFail_failWith (e : Env) (c cause : Nat) (r : Err) (d : Dev) : SameButFail d (failWith e c cause r d) := by
  unfold failWith; dsimp only
  have h := (sameButLog_logError e { r with ctx := some c } d).fail
  generalize logError e { r with ctx := some c } d = d1 at h ⊢
  have h2 := (sameButLog_haltCtx c d1).fail
  generalize haltCtx c d1 = d2 at h2 ⊢
  exact (h.trans h2).trans (sameButFail_failLaunch e c cause _ d2)

end Sys2Proof.Machine
end

