-- ==== Sys2Proof/Laws/ErrorRegs.lean ====
section
/-! SUPPORT. The registers that recording an error, a failure of a launch and a hazard report can change, once: every
other register keeps its value. -/

namespace Sys2Proof.Machine

/-- Registers that recording an error, failing a launch or reporting a hazard may write. -/
def errReg : Reg → Bool
  | .LOG_LOST | .MON_SAT_EVENTS | .MON_SAT_SEEN | .MON_SAT | .RING_EV_LOST | .TEST_ERR_NOTE | .TEST_ERR_STEP
  | .TEST_ERR_SUSPECT | .TEST_ERR_FATAL | .TEST_FATAL | .TEST_FATAL_CLASS | .TEST_SUSPECT | .TEST_SUSPECT_CLASS
  | .CLK_CTX_FAIL_PEND | .CLK_CTX_PEND_CAUSE | .CLK_CTX_PEND_LOG | .DBG_HZ_STATUS | .DBG_HZ_COUNT => true
  | _ => false

/-- Every register but those keeps its value. -/
def SameRegs (d d' : Dev) : Prop := ∀ j : RegKey, errReg j.reg = false → rget d' j = rget d j

theorem SameRegs.refl (d : Dev) : SameRegs d d := fun _ _ => rfl

theorem SameRegs.of_regs {d d' : Dev} (h : d'.regs = d.regs) : SameRegs d d' := fun j _ => by unfold rget; rw [h]

theorem SameRegs.trans {a b c : Dev} (h : SameRegs a b) (k : SameRegs b c) : SameRegs a c :=
  fun j hj => (k j hj).trans (h j hj)

theorem sameRegs_rset (d : Dev) (k : RegKey) (v : Nat) (hk : errReg k.reg = true) : SameRegs d (rset d k v) := by
  intro j hj
  refine rget_rset_ne d v ?_
  rintro rfl
  rw [hk] at hj; cases hj

theorem sameRegs_rbit (d : Dev) (k : RegKey) (hk : errReg k.reg = true) : SameRegs d (rbit d k) := sameRegs_rset d k 1 hk

theorem sameRegs_foldl {α : Type} (f : Dev → α → Dev) (hf : ∀ d a, SameRegs d (f d a)) (l : List α) (d : Dev) :
    SameRegs d (l.foldl f d) := by
  induction l generalizing d with
  | nil => exact SameRegs.refl d
  | cons a l ih => exact (hf d a).trans (ih (f d a))

theorem sameRegs_satRaw (d : Dev) (k : RegKey) (n : Nat) (hk : errReg k.reg = true) : SameRegs d (satRaw d k n).1 := by
  unfold satRaw; dsimp only; split <;> exact sameRegs_rset d k _ hk

theorem sameRegs_logKeep (type img : Nat) (d : Dev) : SameRegs d (logKeep type img d).1 := by
  unfold logKeep; dsimp only
  split
  · exact SameRegs.of_regs rfl
  · refine SameRegs.trans ?_ (sameRegs_satRaw _ _ _ rfl)
    exact SameRegs.of_regs rfl

theorem sameRegs_lostSeen (e : Env) (d : Dev) : SameRegs d (lostSeen e d) := by
  unfold lostSeen; dsimp only
  have h := (sameRegs_logKeep 4 (monitorEvent e d ⟨.LOG_LOST, 0, 0, 0⟩) d).trans (sameRegs_satRaw _ ⟨.MON_SAT_EVENTS, 0, 0, 0⟩ 1 rfl)
  generalize satRaw (logKeep 4 (monitorEvent e d ⟨.LOG_LOST, 0, 0, 0⟩) d).1 ⟨.MON_SAT_EVENTS, 0, 0, 0⟩ 1 = r at h
  split
  · exact (h.trans (sameRegs_logKeep 4 (monitorEvent e r.1 ⟨.MON_SAT_EVENTS, 0, 0, 0⟩) r.1)).trans (sameRegs_rbit _ _ rfl)
  · exact h.trans (sameRegs_rbit _ _ rfl)

theorem sameRegs_logPut (e : Env) (type img : Nat) (d : Dev) : SameRegs d (logPut e type img d) := by
  unfold logPut
  split
  · exact SameRegs.refl d
  · have h := sameRegs_logKeep type img d
    split
    · rename_i d' hd; rw [hd] at h; exact h
    · rename_i d' hd
      rw [hd] at h
      exact h.trans (sameRegs_lostSeen _ _)

theorem sameRegs_satSeen (e : Env) (k : RegKey) (d : Dev) : SameRegs d (satSeen e k d) := by
  unfold satSeen; dsimp only
  split
  · exact ((sameRegs_logPut e _ _ d).trans (sameRegs_rbit _ _ rfl)).trans (sameRegs_rbit _ _ rfl)
  · exact (sameRegs_logPut e _ _ d).trans (sameRegs_rbit _ _ rfl)

/-- What a SAT count can change beside its own counter. -/
theorem rget_satAdd_ne (e : Env) (k : RegKey) (n : Nat) (d : Dev) (j : RegKey) (hj : errReg j.reg = false) (hne : j ≠ k) :
    rget (satAdd e k n d) j = rget d j := by
  have raw : ∀ (d : Dev), rget (satRaw d k n).1 j = rget d j := by
    intro d; unfold satRaw; dsimp only; split <;> exact rget_rset_ne _ _ hne
  unfold satAdd
  split
  · rfl
  · have h := raw d
    split
    · rename_i d' hd; rw [hd] at h; exact h
    · rename_i d' hd
      rw [hd] at h
      have h2 := ((sameRegs_satSeen e k d').trans (sameRegs_satRaw (satSeen e k d') ⟨.MON_SAT_EVENTS, 0, 0, 0⟩ 1 rfl)) j hj
      split
      · rename_i d'' hd'; rw [hd'] at h2; exact h2.trans h
      · rename_i d'' hd'; rw [hd'] at h2; exact ((sameRegs_satSeen _ _ _) j hj).trans (h2.trans h)

theorem sameRegs_satAdd (e : Env) (k : RegKey) (n : Nat) (d : Dev) (hk : errReg k.reg = true) : SameRegs d (satAdd e k n d) := by
  intro j hj
  refine rget_satAdd_ne e k n d j hj ?_
  rintro rfl
  rw [hk] at hj; cases hj

theorem sameRegs_pushEvent (e : Env) (c type body : Nat) (d : Dev) : SameRegs d (pushEvent e c type body d) := by
  unfold pushEvent
  split
  · refine SameRegs.trans ?_ (sameRegs_satAdd _ _ _ _ rfl)
    exact SameRegs.of_regs rfl
  · exact SameRegs.of_regs rfl

theorem sameRegs_haltCtx (c : Nat) (d : Dev) : SameRegs d (haltCtx c d) :=
  sameRegs_foldl (haltOn c) (fun _ _ => SameRegs.of_regs rfl) _ _

theorem sameRegs_markSuspect (cls : Nat) (d : Dev) : SameRegs d (markSuspect cls d) := by
  unfold markSuspect; dsimp only
  split
  · have h := (sameRegs_rset d ⟨.TEST_SUSPECT_CLASS, 0, 0, 0⟩ cls rfl).trans (sameRegs_rbit _ ⟨.TEST_SUSPECT, 0, 0, 0⟩ rfl)
    exact h.trans (SameRegs.of_regs rfl)
  · exact (sameRegs_rbit d ⟨.TEST_SUSPECT, 0, 0, 0⟩ rfl).trans (SameRegs.of_regs rfl)

theorem sameRegs_fatalEvent (cls : Nat) (d : Dev) : SameRegs d (fatalEvent cls d) := by
  have h : SameRegs d ((List.range 8).foldl (fun d c => haltCtx c d) d) :=
    sameRegs_foldl _ (fun d c => sameRegs_haltCtx c d) _ _
  unfold fatalEvent; dsimp only
  generalize (List.range 8).foldl (fun d c => haltCtx c d) d = d' at h
  split
  · have h2 := (h.trans (sameRegs_rset d' ⟨.TEST_FATAL_CLASS, 0, 0, 0⟩ cls rfl)).trans (sameRegs_rbit _ ⟨.TEST_FATAL, 0, 0, 0⟩ rfl)
    exact h2.trans (SameRegs.of_regs rfl)
  · exact (h.trans (sameRegs_rbit d' ⟨.TEST_FATAL, 0, 0, 0⟩ rfl)).trans (SameRegs.of_regs rfl)

theorem sameRegs_severityActs (r : Err) (d : Dev) : SameRegs d (severityActs r d) := by
  unfold severityActs
  split
  · exact sameRegs_markSuspect _ _
  · split
    · dsimp only
      split
      · have h := (sameRegs_fatalEvent r.cls d).trans (sameRegs_markSuspect r.cls _)
        generalize markSuspect r.cls (fatalEvent r.cls d) = d' at h
        exact h.trans (SameRegs.of_regs rfl)
      · exact sameRegs_fatalEvent _ _
    · exact SameRegs.refl d

theorem sameRegs_errBody (e : Env) (r : Err) (d : Dev) : SameRegs d (errBody e r d).2 := by
  unfold errBody; dsimp only
  cases errSensor r <;> cases errRail r <;> exact SameRegs.of_regs rfl

theorem errReg_sevCounter (n : Nat) : errReg (sevCounter n) = true := by
  unfold sevCounter; split <;> rfl

/-- The registers that raising an error record can change. -/
theorem sameRegs_logError (e : Env) (r : Err) (d : Dev) : SameRegs d (logError e r d) := by
  unfold logError
  split
  · exact SameRegs.refl d
  · dsimp only
    refine SameRegs.trans ?_ (sameRegs_severityActs _ _)
    have h1 := (sameRegs_errBody e r d).trans (sameRegs_logPut e 1 (errBody e r d).1 (errBody e r d).2)
    have h2 : SameRegs d (match r.ctx with
        | some c => pushEvent e c 6 (errBody e r d).1 (logPut e 1 (errBody e r d).1 (errBody e r d).2)
        | none => logPut e 1 (errBody e r d).1 (errBody e r d).2) := by
      cases r.ctx with
      | none => exact h1
      | some c => exact h1.trans (sameRegs_pushEvent _ _ _ _ _)
    have h3 := h2.trans (sameRegs_satAdd e ⟨sevCounter (errSev r), 0, 0, 0⟩ 1 _ (errReg_sevCounter _))
    split
    · refine SameRegs.trans h3 ?_
      exact SameRegs.of_regs rfl
    · exact h3

theorem sameRegs_regAccess (e : Env) (off : Nat) (write : Bool) (d : Dev) : SameRegs d (regAccess e off write d) :=
  sameRegs_logError _ _ _

theorem sameRegs_pendFailure (c cause aux : Nat) (d : Dev) : SameRegs d (pendFailure c cause aux d) := by
  unfold pendFailure; split
  · exact SameRegs.refl d
  · exact ((sameRegs_rbit _ _ rfl).trans (sameRegs_rset _ _ _ rfl)).trans (sameRegs_rset _ _ _ rfl)

theorem sameRegs_stopLaunch (c : Nat) (d : Dev) : SameRegs d (stopLaunch c d) := by
  refine sameRegs_foldl _ (fun d p => ?_) _ _
  have h : SameRegs d (dropUnissued c d p) := SameRegs.of_regs rfl
  refine h.trans (sameRegs_foldl (dropGo c p) (fun d n => ?_) _ _)
  unfold dropGo; dsimp only
  split
  · split <;> exact SameRegs.of_regs rfl
  · exact SameRegs.of_regs rfl

theorem sameRegs_failLaunch (e : Env) (c cause aux : Nat) (d : Dev) : SameRegs d (failLaunch e c cause aux d) := by
  unfold failLaunch; dsimp only
  split
  · split
    · exact sameRegs_pendFailure _ _ _ _
    · refine SameRegs.trans ?_ (sameRegs_stopLaunch _ _)
      exact SameRegs.of_regs rfl
  · exact SameRegs.refl d
  · exact sameRegs_pendFailure _ _ _ _

/-- The registers that a failure with its record can change. -/
theorem sameRegs_failWith (e : Env) (c cause : Nat) (r : Err) (d : Dev) : SameRegs d (failWith e c cause r d) := by
  unfold failWith; dsimp only
  have h := sameRegs_logError e { r with ctx := some c } d
  generalize logError e { r with ctx := some c } d = d1 at h ⊢
  exact (h.trans (sameRegs_haltCtx c d1)).trans (sameRegs_failLaunch e c cause _ _)

/-- The registers that a hazard report can change. -/
theorem sameRegs_hazReport (e : Env) (p h c : Nat) (z : Haz) (d : Dev) : SameRegs d (hazReport e p h c z d) := by
  unfold hazReport takeFree; dsimp only
  have h0 : SameRegs d { d with free := d.free + 1 } := SameRegs.of_regs rfl
  generalize { d with free := d.free + 1 } = d0 at h0 ⊢
  generalize hazImage e d0 p h c z ||| (Config.freeNat d.free &&& z.loose) = img
  have h1 := h0.trans ((sameRegs_logPut e 3 img d0).trans (sameRegs_pushEvent e c 4 img _))
  generalize pushEvent e c 4 img (logPut e 3 img d0) = d1 at h1 ⊢
  have h2 := (h1.trans (sameRegs_rset d1 ⟨.DBG_HZ_STATUS, c, 0, 0⟩ (rget d1 ⟨.DBG_HZ_STATUS, c, 0, 0⟩ ||| 2 ^ (z.kind - 1)) rfl)).trans
    (sameRegs_satAdd e ⟨.DBG_HZ_COUNT, c, 0, 0⟩ 1 _ rfl)
  split
  · refine SameRegs.trans h2 ?_
    exact SameRegs.of_regs rfl
  · exact h2

theorem sameRegs_hazKind4 (e : Env) (p h c : Nat) (w : WinEnt) (d : Dev) : SameRegs d (hazKind4 e p h c w d) := by
  unfold hazKind4
  generalize staleTags d p h c w = l
  cases l with
  | nil => exact SameRegs.refl d
  | cons t ts =>
    have h0 : SameRegs d (takeFree d).2 := SameRegs.of_regs rfl
    exact h0.trans (sameRegs_hazReport _ _ _ _ _ _)

theorem sameRegs_hazKind2 (e : Env) (p h c : Nat) (w : WinEnt) (d : Dev) : SameRegs d (hazKind2 e p h c w d) := by
  refine sameRegs_foldl _ (fun d n => sameRegs_foldl _ (fun d x => ?_) _ _) _ _
  split
  · exact sameRegs_hazReport _ _ _ _ _ _
  · exact SameRegs.refl d

/-- The registers that the hazard detector can change as a record issues. -/
theorem sameRegs_hazIssue (e : Env) (p h c : Nat) (w : WinEnt) (d : Dev) : SameRegs d (hazIssue e p h c w d) := by
  unfold hazIssue
  split
  · exact (sameRegs_hazKind2 e p h c w d).trans (sameRegs_hazKind4 e p h c w _)
  · exact SameRegs.refl d

end Sys2Proof.Machine
end

