-- ==== Sys2Proof/Laws/Records.lean ====
section
/-! SUPPORT. What an engine's and a control record's issue do, once: the rest is the record's own run. -/

namespace Sys2Proof.Machine

/-- A command that issues an engine's next record gives what the record's run gives. -/
theorem issues_of_run {s : State} {p g op : Nat} {o : Offer} {run : Run} {i : Instr} (h : NextRecord s p g op o)
    (hi : exec i s = act s (p < 1440) (issueEngine g op run p)) :
    Issues i s p o (run s.env p o.h o.c (issued s p o).1 (issued s p o).2) := by
  obtain ⟨hp, hR, hw, ho⟩ := h
  unfold Runs at hR
  unfold Issues Gives
  rw [hi]
  simp only [act, hp, decide_true, if_true, issueEngine, hR, hw, ho, ne_eq, not_true_eq_false, if_false]
  rfl

/-- A command that issues a stream's control record gives what the record's run gives. -/
theorem gives_of_control {s : State} {p h c op : Nat} {x : (List WinEnt × WinEnt) × Nat} {run : Run} {i : Instr}
    (hx : NextControl s p h c op x) (hi : exec i s = act s (placeOk p h c) (issueControl op run p h c)) :
    Gives i s (run s.env p h c (issuedControl s p h c x).1 (issuedControl s p h c x).2).dev := by
  obtain ⟨hp, hR, hon, ho, he, hop, hel⟩ := hx
  unfold Runs at hR
  unfold Gives
  rw [hi]
  simp only [act, hp, if_true, issueControl, hR, ho, he, hop, hon, hel, and_self]
  rfl

/-- On half A no place lies in HBM, so no result fails there (R180). -/
theorem storeBeyond_halfA (d : Dev) (p c space off n : Nat) : storeBeyond d p 0 c space off n = none := by
  rw [storeBeyond, List.findSome?_eq_none_iff]
  intro i _
  have h : ∀ a, locOf d p 0 c space (off + i) ≠ .hbm a := by
    intro a; unfold locOf; split <;> simp
  split
  · exact absurd (by assumption) (h _)
  · rfl

theorem resultsBeyond_halfA (d : Dev) (p c : Nat) (parts : List Part2) : resultsBeyond d p 0 c parts = none := by
  rw [resultsBeyond, List.findSome?_eq_none_iff]
  intro x _
  rw [List.findSome?_eq_none_iff]
  intro r _
  exact storeBeyond_halfA _ _ _ _ _ _

theorem putResults_halfA (e : Env) (p c g : Nat) (w : WinEnt) (ov : Bool) (parts : List Part2) (d : Dev) : (putResults e p 0 c g w ov parts d).failed = false := by
  rw [putResults, resultsBeyond_halfA]

/-- Where a read succeeds no byte of it lies beyond HBM_CAP (R180). -/
theorem storeRead_within {d : Dev} {p h c space off n : Nat} {bs : List Byte} (g : storeRead d p h c space off n = .ok bs) :
    storeBeyond d p h c space off n = none := by
  rw [storeRead] at g
  rw [storeBeyond, List.findSome?_eq_none_iff]
  intro i hi
  have z : locBad d space (off + i) (locOf d p h c space (off + i)) = none := by
    cases hf : (List.range n).findSome? (fun i => locBad d space (off + i) (locOf d p h c space (off + i))) with
    | none => exact List.findSome?_eq_none_iff.mp hf i hi
    | some r =>
      rw [hf] at g
      obtain ⟨j, _, hj⟩ := List.exists_of_findSome?_eq_some hf
      subst g
      unfold locBad at hj
      repeat' split at hj
      all_goals cases hj
  split
  · rename_i a ha
    rw [ha] at z
    simp only [locBad, hbmRead] at z
    by_cases ga : a + 1 > hbmCap d
    · simp [ga] at z
    · rw [if_neg (by omega)]
  · rfl

theorem readRows_within {d : Dev} {p h c space stride len : Nat} : ∀ {n off : Nat} {l : List (List Byte)},
    readRows d p h c space stride len off n = .ok l → ∀ i < n, storeBeyond d p h c space (off + i * stride) len = none
  | 0, _, _, _, i, hi => by omega
  | n + 1, off, l, g, i, hi => by
    rw [readRows] at g
    split at g
    · rename_i bs hb
      split at g
      · rename_i l' hl
        cases i with
        | zero => simpa using storeRead_within hb
        | succ i =>
          have := readRows_within hl i (by omega)
          rwa [show off + stride + i * stride = off + (i + 1) * stride by rw [Nat.succ_mul]; omega] at this
      · cases g
    · cases g

/-- A record that has read its destination can write it (R145, R180). -/
theorem readCodes_within {d : Dev} {p h c o : Nat} {l : List (List Nat)} (g : readCodes d p h c o = .ok l) (rows : List (List Elem)) :
    resultsBeyond d p h c [{ opd := o, rows := rows }] = none := by
  rw [readCodes] at g
  split at g
  · rename_i rs hr
    rw [resultsBeyond, List.findSome?_eq_none_iff]
    intro x hx
    rw [List.mem_singleton] at hx
    subst hx
    rw [List.findSome?_eq_none_iff]
    intro r hr'
    simp only [Bool.false_eq_true, if_false, Nat.add_zero] at hr'
    unfold opdRanges at hr'
    split at hr'
    · simp at hr'
    · rw [List.take_append_of_le_length (by simp)] at hr'
      have hm := List.mem_of_mem_take hr'
      obtain ⟨i, hi, rfl⟩ := List.mem_map.mp hm
      exact readRows_within hr i (List.mem_range.mp hi)
  · cases g

/-- What a record writes where it has read its destination does not fail. -/
theorem putResults_read {e : Env} {d : Dev} {p h c g o : Nat} {w : WinEnt} {ov : Bool} {l : List (List Nat)} (k : readCodes d p h c o = .ok l)
    (rows : List (List Elem)) : (putResults e p h c g w ov [{ opd := o, rows := rows }] d).failed = false := by
  rw [putResults, readCodes_within k]

end Sys2Proof.Machine
end

