-- ==== Sys2Proof/Tests/Slice0.lean ====
section
/-! SUPPORT. Tests of the model: ill-formed commands, worked examples and tables of the manual, and for each statement
a state that meets its hypotheses. -/

namespace Sys2Proof.Tests

open Sys2Proof.Machine

set_option Elab.async false

/-! An ill-formed term for each check of `Instr.wf`: each is refused. -/

theorem test_illFormed_1 : ([.mm 1440,
    .tbLoad 1440,
    .add 1440,
    .sub 1440,
    .mul 1440,
    .fma 1440,
    .max 1440,
    .min 1440,
    .cmp 1440,
    .cvt 1440,
    .div 1440,
    .rcp 1440,
    .sqrt 1440,
    .rsqrt 1440,
    .exp2 1440,
    .log2 1440,
    .reduce 1440,
    .upd48 1440,
    .select 1440,
    .draw 1440,
    .iadd 1440,
    .iand 1440,
    .ishift 1440,
    .sample 1440,
    .stateInit 1440,
    .digest 1440,
    .digestRead 1440,
    .dmaGo 1440,
    .nop 1440 0 0,
    .nop 0 2 0,
    .nop 0 0 8,
    .loopStart 1440 0 0,
    .loopStart 0 2 0,
    .loopStart 0 0 8,
    .loopEnd 1440 0 0,
    .loopEnd 0 2 0,
    .loopEnd 0 0 8,
    .advance 1440 0 0,
    .advance 0 2 0,
    .advance 0 0 8] : List Instr).all (fun i => !i.wf) = true := by decide +kernel

theorem test_illFormed_2 : ([.endStream 1440 0 0,
    .endStream 0 2 0,
    .endStream 0 0 8,
    .recordDecode 1440 0 0,
    .recordDecode 0 2 0,
    .recordDecode 0 0 8,
    .recordComplete 1440 0 0 0,
    .recordComplete 0 2 0 0,
    .recordComplete 0 0 8 0,
    .recordComplete 0 0 0 (2 ^ 20),
    .recordAged 1440 0 0 0 0,
    .recordAged 0 2 0 0 0,
    .recordAged 0 0 8 0 0,
    .recordAged 0 0 0 (2 ^ 20) 0,
    .tbOwnerExchange 1440,
    .hazardWaitLimit 1440 0 0 0,
    .hazardWaitLimit 0 2 0 0,
    .hazardWaitLimit 0 0 8 0,
    .hazardWaitLimit 0 0 0 (2 ^ 20),
    .collectivePositionGroup 8,
    .placementChange ([⟨1440, 0, 0, 0⟩]) [],
    .placementChange ([⟨0, 2, 0, 0⟩]) [],
    .placementChange ([⟨0, 0, 1440, 0⟩]) [],
    .placementChange ([⟨0, 0, 0, 2⟩]) [],
    .placementChange [] [1440],
    .launch 8,
    .abort 8,
    .launchStart 8,
    .launchComplete 8,
    .completionRecordWrite 8,
    .abortQuiesced 8,
    .failQuiesced 8,
    .deadlinePass 8 0,
    .deadlinePass 0 (2 ^ 32),
    .eventEntryWrite 8,
    .irqHoldoffExpire (.completion 8),
    .irqHoldoffExpire (.event 8),
    .descFetch 8,
    .descReadReturn 8 0 (List.replicate 64 0),
    .descReadReturn 0 65536 (List.replicate 64 0)] : List Instr).all (fun i => !i.wf) = true := by decide +kernel

theorem test_illFormed_3 : ([.descReadReturn 0 0 [],
    .descReread 8 0,
    .descReread 0 65536,
    .ringCmdRetry 8,
    .ringEn 8 0,
    .ringCqCons 8 0,
    .ringEqCons 8 0,
    .ethDoorbell 4 0,
    .rdmaRead 4 0 (List.replicate 64 0),
    .rdmaRead 0 1024 (List.replicate 64 0),
    .rdmaRead 0 0 [],
    .rdmaWrite 4 0 (List.replicate 64 0),
    .rdmaWrite 0 1024 (List.replicate 64 0),
    .rdmaWrite 0 0 [],
    .send 4 0 (List.replicate 64 0) [],
    .send 0 1024 (List.replicate 64 0) [],
    .send 0 0 [] [],
    .nvmeRead 4 0 (List.replicate 64 0),
    .nvmeRead 0 1024 (List.replicate 64 0),
    .nvmeRead 0 0 [],
    .nvmeWrite 4 0 (List.replicate 64 0),
    .nvmeWrite 0 1024 (List.replicate 64 0),
    .nvmeWrite 0 0 [],
    .workRequestComplete 4 0 0 .retriesExhausted,
    .workRequestComplete 0 1024 0 .retriesExhausted,
    .ethQpEn 4 0,
    .ethPortTrained 4,
    .hostFrameRx 4 [],
    .hostFrameTx 4 [],
    .shadowToActive 1440 0,
    .shadowToActive 0 4,
    .dmaReadReturn 1440 0,
    .dmaReadReturn 0 4,
    .dmaWriteResponse 1440 0,
    .dmaWriteResponse 0 4,
    .dmaTransferComplete 1440 0,
    .dmaTransferComplete 0 4,
    .tileDmaPause 1440 0,
    .tileDmaPause 0 4,
    .tileDmaResume 1440 0] : List Instr).all (fun i => !i.wf) = true := by decide +kernel

theorem test_illFormed_4 : ([.tileDmaResume 0 4,
    .dmaPauseDrained 1440 0,
    .dmaPauseDrained 0 4,
    .tileHalt 1440 0,
    .tileResume 1440 0,
    .tilePenWrite 1440,
    .tileCtxEn 1440 0 [],
    .tileCtxEn 0 0 ([{ ctx := 8 }]),
    .hbmRead .tabok (2 ^ 48) 0 .clean,
    .hbmWrite (.tabok (2 ^ 48) []) .clean,
    .wcbEvict 20 0 .clean,
    .wcbEvict 0 (1920 * 2 ^ 24) .clean,
    .patrolScrub (1920 * 2 ^ 24) .clean false,
    .tileScrub 1440 .tileStore 0 .clean,
    .tileScrub 0 .tileStore (2 ^ 18) .clean,
    .tileScrub 0 .gradientStore (2 ^ 19) .clean,
    .tileScrub 0 .transposingBuffer (2 ^ 13) .clean,
    .hbmRetireGo 20,
    .hbmChunkMove 20,
    .hbmStackTrained 20 false,
    .flitRx 36 (List.replicate 448 0),
    .flitRx 0 [],
    .flitSend 36,
    .replayTimeout 36,
    .retryExhausted 36,
    .heartbeatSend 36,
    .heartbeat 36,
    .heartbeatMissed 36,
    .linkTrainingEnd 36 0,
    .linkTrainingEnd 0 16,
    .linkTrainingRestart 36,
    .linkRetrainEnd 36 0,
    .linkRetrainEnd 0 16,
    .linkRetrainTimeout 36,
    .lnkEnSet 36,
    .lnkEnClear 36,
    .lnkRetrainGo 36,
    .lnkLaneRetire 36 0,
    .measure 36 0,
    .identity 36] : List Instr).all (fun i => !i.wf) = true := by decide +kernel

theorem test_illFormed_5 : ([.time 36,
    .timeSend 36,
    .hoistUp 36,
    .hoistDown 36,
    .write 37 0,
    .write 0 2,
    .writeAck 37 0,
    .writeAck 0 2,
    .undeliv 37 0,
    .undeliv 0 2,
    .holdLimit 37 0 0,
    .holdLimit 0 8 0,
    .tagTimeout 65536,
    .collectiveEntryStart 8,
    .colData 37 0,
    .colData 0 2,
    .colCredit 37 0,
    .colCredit 0 2,
    .permData 37 0,
    .permData 0 2,
    .colAbort 37 0,
    .colAbort 0 2,
    .collectiveDone 129,
    .collectiveStall 129,
    .tokenGrant 1440 0 0 0,
    .tokenGrant 0 2 0 0,
    .tokenGrant 0 0 8 0,
    .tokenGrant 0 0 0 (2 ^ 20),
    .sensorRead ([⟨1461, 0⟩]),
    .thermalTrip true 20 0,
    .thermalTrip false 1440 0,
    .railFault 12 0 none,
    .railFault 1 0 (some 0),
    .railFault 2 0 (some 1440),
    .powerSample 0 0 (List.replicate 13 0),
    .identityKeyGenerated (2 ^ 3071) [] [],
    .identityKeyGenerated (2 ^ 3072 + 1) [] [],
    .identityKeyGenerated 3 [] [],
    .tileSelfTestDone 1440 false,
    .ucieModuleTrainEnd 8 false,
    .ucieFlitRx 8 false,
    .cfgStage 256 0,
    .testLGo 16,
    .testLAbort 16 1,
    .testLAbort 0 0,
    .testLAbort 0 4] : List Instr).all (fun i => !i.wf) = true := by decide +kernel

theorem test_illFormed_6 : ([.testLTile 16 0,
    .lovageTargetReached 16,
    .lovageHeatTimeout 16,
    .lovageRunEnd 16 [],
    .monClear 64,
    .monConfigWrite 64 0 0,
    .monConfigWrite 0 8 0,
    .pairLowRead (2 ^ 26) 4,
    .pairLowRead 0 3,
    .registerWrite (2 ^ 26) 4 0,
    .registerWrite 0 3 0,
    .regRead (2 ^ 26) 1,
    .regRead 0 2,
    .regRead 0 3,
    .mboxRead 259,
    .bypass 0x20,
    .mboxWrite 257 (List.replicate 257 0),
    .mboxWrite 1 [],
    .priorityFlowControlRx 4 0 0] : List Instr).all (fun i => !i.wf) = true := by decide +kernel

theorem test_wellFormed_bounds : ([.mm 1439, .nop 1439 1 7, .hbmRetireGo 19, .lnkEnSet 35, .write 36 1, .rdmaRead 3 1023 (List.replicate 64 0),
    .collectiveDone 128, .tileScrub 1439 .transposingBuffer 8191 .clean, .monClear 63, .testLAbort 15 3] : List Instr).all (·.wf) = true := by decide +kernel

/-! Worked examples and tables of the manual. -/

/-- Vf48m 1 + 2⁻³⁰ and what it converts to (worked example after R58). -/
theorem test_vf48m_example : fpValue vf48m 0x3F8000000200 = some (1 + mkRat 1 (2 ^ 30)) ∧ fpValue vf32 0x3F800000 = some 1 ∧
    (convertTo 1 0 0 0 0 false (fpValue vf48m 0x3F8000000200)).code = 0x3E00 := by decide +kernel

/-- The Vi4 block of scale 0x38 (worked example after R60). -/
theorem test_vi4_example : vi4Value 0x7 0x38 = some (mkRat 7 2) ∧ vi4Value 0x8 0x38 = some (-4) ∧
    fmtValue 2 0x4E = some 7 ∧ fmtValue 2 0xD0 = some (-8) := by decide +kernel

/-- The grid near the top of Vf8a (worked example after R64): code, overflow. -/
theorem test_vf8a_top : [470, 490, 496, 500].map (fun (x : Rat) => roundTo ⟨4, 3, 7⟩ 0 0 0 x) =
    [(0x7F, false), (0x7F, false), (0x7F, true), (0x7F, true)] := by decide +kernel

/-- Vf32 0.1 into Vf16 with RNE, and with SR for draws 0 to 15 (worked example after R66). -/
theorem test_tenth_to_vf16 : (convertTo 1 0 0 0 0 false (fpValue vf32 0x3DCCCCCD)).code = 0x3733 ∧
    (List.range 16).map (fun r => (convertTo 1 1 r 4 0 false (fpValue vf32 0x3DCCCCCD)).code) =
      List.replicate 3 0x3734 ++ List.replicate 13 0x3733 := by decide +kernel

/-- 0 ÷ 0 writes the NaN code with cause 1 (worked example after R75). -/
theorem test_div_zero : divOp (some 0) (some 0) = ⟨0x80000000, false, 1⟩ := by decide +kernel

/-- The products of the worked example after R113 with K = 64: the third product at place k. -/
def exampleProds (k : Nat) : List Prod :=
  (List.range 64).map (fun i => if i = 0 then ⟨0, 0, some (2 ^ 15), some (2 ^ 15)⟩ else if i = 1 then ⟨0, 0, some 1, some 1⟩
    else if i = k then ⟨0, 0, some (-2 ^ 15), some (2 ^ 15)⟩ else ⟨0, 0, some 0, some 0⟩)

/-- 1.0 with the third product in group 0, +0 with it in group 1. -/
theorem test_exact_groups : (mmElement 32 [] 0 (exampleProds 2)).acc = some 1 ∧ (mmElement 32 [] 0 (exampleProds 32)).acc = some 0 := by
  decide +kernel

/-- Sorrel for key 0, salt 0, block 0 (R133), and elements 0, 6 and 19 of the worked example after R137. -/
theorem test_sorrel : sorrel 0 0 0 = 0xB5C0CA5657F2F1A0CF2CF03A02CEA8E4 ∧
    [0, 6, 19].map (fun e => elementBits 0 0 e 4) = [4, 2, 15] := by decide +kernel

/-- The stream of the worked example after R150. -/
def exampleStream : List Nat := [2 ^ 16, 0x3E00 + 5 * 2 ^ 16, 0x3F666666, 6, 0, 0, 0, 0, 0, 2 ^ 32 - 1, 99, 0, 0, 0, 0, 0]

/-- Its candidates: tokens in the order of R147, and the running sums c. -/
theorem test_sample_order :
    (sortCands (logitCands 0 0 exampleStream [0xBFB17218, 0xBF317218, 0xC0317218, 0, 0xBF317218, 0xC0B17218]).cands).map (·.t) =
      [3, 1, 4, 0, 2, 5] := by decide +kernel
theorem test_sample_sums :
    ((runningSums (some 0) [⟨0, 3, 3⟩, ⟨0xBF317218, 1, 1⟩, ⟨0xBF317218, 4, 4⟩, ⟨0xBFB17218, 0, 0⟩, ⟨0xC0317218, 2, 2⟩] 0 false).1.map
      (fpValue vf32)) = [some 1, some (mkRat 3 2), some 2, some (mkRat 9 4), some (mkRat 37 16)] := by decide +kernel

/-- Element (130, 300) of the projection (worked example after R186). -/
theorem test_block_address : blockAddress 0x1000000000 24000 2 130 300 = 0x10005E4158 := by decide +kernel

/-- Rows 1,000,003 and 1,000,007 with pseudo-channel 7 retired (worked example after R197). -/
theorem test_place_in_stack : placeInStack 1000003 (2 ^ 7) = (3, 1000003 / 32) ∧ placeInStack 1000007 (2 ^ 7) = (2, 1524720) := by
  decide +kernel

/-- HBM_CAP with pseudo-channel 7 of stack 3 retired, and with a second one there (same example). -/
theorem test_hbm_cap :
    let up := (List.range 20).map (fun s => ((⟨.HBM_STACK_STATE, s, 0, 0⟩ : RegKey), 2))
    hbmCap { regs := (⟨.HBM_PC_RETIRED, 3, 0, 0⟩, 2 ^ 7) :: up } = 1860 * 2 ^ 30 ∧
    hbmCap { regs := (⟨.HBM_PC_RETIRED, 3, 0, 0⟩, 2 ^ 7 + 2 ^ 9) :: up } = 1800 * 2 ^ 30 := by decide +kernel

/-- The descriptor of the worked example after R206: run 15's source, and the place after 54,272 bytes. -/
def exampleDesc : Nat := packFields [(64, 0x1000008000), (64, 0x40000), (64, 0x102), (32, 0x2000), (32, 16), (32, 0x2EE000), (32, 0x2000),
  (32, 1), (64, 0), (32, 1), (64, 0)]
theorem test_channel_runs : chSrcSpace exampleDesc = 2 ∧ chDstSpace exampleDesc = 0 ∧ chLen exampleDesc = 8192 ∧
    chSrcAt exampleDesc 15 0 0 = 0x1002BFA000 ∧ chSrcAt exampleDesc 6 0 0 + 5120 = 0x100119D400 ∧
    chDstAt exampleDesc 6 0 0 + 5120 = 0x4D400 := by decide +kernel

/-- BSWAP of four bytes under the masks of R204. -/
theorem test_bswap : [0, 1, 2, 3].map (fun m => swapBytes m [0x12, 0x34, 0x56, 0x78]) =
    [[0x12, 0x34, 0x56, 0x78], [0x34, 0x12, 0x78, 0x56], [0x56, 0x78, 0x12, 0x34], [0x78, 0x56, 0x34, 0x12]] := by decide +kernel

/-- Positions of the ring of the worked example after R273. -/
theorem test_ring_positions : [0xFE, 0xFF, 0x100].map (ringAddr 0x240000000 8 64) = [0x240003F80, 0x240003FC0, 0x240000000] := by decide +kernel

/-- Buckets of the worked example after R419. -/
theorem test_buckets : monBucket false 10 0 786432 = 10 ∧ monBucket false 10 0 1048576 = 11 ∧ monBucket true 0 0xEC 0x3A800000 = 11 := by
  decide +kernel

/-- Three members of the worked example after R324 in rank order. -/
theorem test_ordered_sum : (addOp (fpValue vf32 (addOp (some (2 ^ 24)) (some 1)).code) (some (-2 ^ 24))).code = 0 := by decide +kernel

/-- CRC-32C of "123456789" (the polynomial's published check value) and SHA-256 of "abc" (FIPS 180-4), which R286 and R396 name. -/
theorem test_crc32c : crc32c [0x31, 0x32, 0x33, 0x34, 0x35, 0x36, 0x37, 0x38, 0x39] = 0xE3069283 := by decide +kernel
theorem test_sha256 : (sha256 [0x61, 0x62, 0x63]).take 4 = [0xBA, 0x78, 0x16, 0xBF] := by decide +kernel

/-! States that meet the hypotheses of the statements: helpers. -/

/-- The device right after reset with registers written. -/
def withRegs (l : List (RegKey × Nat)) (d : Dev := {}) : Dev := l.foldl (fun d x => rset d x.1 x.2) d

/-- A register of a block without an index. -/
def reg0 (r : Reg) (v : Nat) : RegKey × Nat := (⟨r, 0, 0, 0⟩, v)

/-- The Tabok cores run. -/
def serving (l : List (RegKey × Nat)) (d : Dev := {}) : State := { dev := withRegs (reg0 .CFG_STATE 3 :: l) d }

/-- A record: engine, opcode, IMM, operand fields that name descriptors 0 to 3. -/
def mkRec (eng op imm : Nat) (a b c d : Bool) : Nat :=
  let f (x : Bool) (n : Nat) : Nat := if x then n else 1023
  packFields [(8, op), (3, eng), (2, 0), (1, 0), (2, 0), (10, f a 0), (10, f b 1), (10, f c 2), (10, f d 3), (58, 0), (8, imm)]

/-- An operand: space, format, base, rows, columns, stride in bytes. -/
def mkOpd (space fmt base rows cols stride : Nat) : Nat :=
  packFields [(2, space), (4, fmt), (26, 0), (22, base), (10, 0), (16, rows), (16, cols), (32, stride), (64, 0), (32, cols)]

/-- A stream of context c on a tile with a window, while a launch is in force. -/
def inWindow (p h c : Nat) (win : List WinEnt) (d : Dev := {}) : Dev :=
  setStrm (updCtx d c (fun x => { x with cur := some {}, cols := 1, rows := 1 })) p h c { getStrm d p h c with on := true, win := win }

/-- Bytes in a tile's store at an offset. -/
def inTs (p off : Nat) (bs : List Byte) (d : Dev) : Dev := { d with ts := memWrite d.ts (p * 2 ^ 21 + off) bs }

/-- The words of a tile's store from an offset on, after a command that gives a next state. -/
def tsAfter (o : Host.Outcome State Fault Refusal) (p off n : Nat) : List Nat :=
  match o with
  | .next t => (List.range n).map (fun i => memNat t.dev.ts (p * 2 ^ 21 + off + 4 * i) 4)
  | _ => []

/-- Tile 1,439 with a record of context 7 in a window: A, B, C are 1 × 2 words at 0, 64 and 128, D lies at 192. -/
def recState (eng op imm : Nat) (sp f fc fd : Nat) (x y z : List Nat) : State :=
  let words (l : List Nat) : List Byte := l.flatMap (fun v => leBytes v 4)
  let ent : WinEnt := { idx := 5, raw := mkRec eng op imm true true true true, a := mkOpd 0 f 0 1 2 8, b := mkOpd 0 f 64 1 2 8,
                        c := mkOpd 0 fc 128 1 2 8, d := mkOpd sp fd 192 1 2 8 }
  { dev := inTs 1439 0 (words x) (inTs 1439 64 (words y) (inTs 1439 128 (words z) (inWindow 1439 0 7 [ent]))) }

/-- Results of the vector engine by hand: 1.5 and 4.0 with 0.5 and 2.0 (and 1.0, −8.0). -/
def vecOut (op imm f fd : Nat) (x y z : List Nat) (i : Instr) : List Nat := tsAfter (exec i (recState 1 op imm 0 f 9 fd x y z)) 1439 192 2
def v1 : List Nat := [0x3FC00000, 0x40800000]
def v2 : List Nat := [0x3F000000, 0x40000000]

theorem test_add : vecOut 0x20 0 0 0 v1 v2 [] (.add 1439) = [0x40000000, 0x40C00000] := by decide +kernel
theorem test_sub : vecOut 0x21 0 0 0 v1 v2 [] (.sub 1439) = [0x3F800000, 0x40000000] := by decide +kernel
theorem test_mul : vecOut 0x22 0 0 0 v1 v2 [] (.mul 1439) = [0x3F400000, 0x41000000] := by decide +kernel
theorem test_div : vecOut 0x28 0 0 0 v1 v2 [] (.div 1439) = [0x40400000, 0x40000000] := by decide +kernel
theorem test_max : vecOut 0x24 0 0 0 v1 v2 [] (.max 1439) = v1 := by decide +kernel
theorem test_min : vecOut 0x25 0 0 0 v1 v2 [] (.min 1439) = v2 := by decide +kernel
theorem test_rcp : vecOut 0x29 0 0 0 v2 [] [] (.rcp 1439) = [0x40000000, 0x3F000000] := by decide +kernel
theorem test_sqrt : vecOut 0x2A 0 0 0 [0x40100000, 0x40800000] [] [] (.sqrt 1439) = [0x3FC00000, 0x40000000] := by decide +kernel
theorem test_rsqrt : vecOut 0x2B 0 0 0 [0x40800000, 0x3E800000] [] [] (.rsqrt 1439) = [0x3F000000, 0x40000000] := by decide +kernel
theorem test_exp2 : vecOut 0x2C 0 0 0 [0x40400000, 0xBF800000] [] [] (.exp2 1439) = [0x41000000, 0x3F000000] := by decide +kernel
theorem test_log2 : vecOut 0x2D 0 0 0 [0x41000000, 0x3F000000] [] [] (.log2 1439) = [0x40400000, 0xBF800000] := by decide +kernel
theorem test_cvt : vecOut 0x27 0 0 8 [0x40200000, 0xC0600000] [] [] (.cvt 1439) = [2, 0xFFFFFFFC] := by decide +kernel
theorem test_cmp : vecOut 0x26 0 0 9 v1 v2 [] (.cmp 1439) = [0, 0] ∧ vecOut 0x26 1 0 9 v2 v1 [] (.cmp 1439) = [1, 1] := by decide +kernel
theorem test_select : vecOut 0x30 0 0 0 v1 v2 [1, 0] (.select 1439) = [0x3FC00000, 0x40000000] := by decide +kernel
theorem test_iadd : vecOut 0x32 0 9 9 [0xFFFFFFFF, 5] [2, 6] [] (.iadd 1439) = [1, 11] := by decide +kernel
theorem test_iand : vecOut 0x33 0 9 9 [0xF0F0F0F0, 5] [0xFF00FF00, 4] [] (.iand 1439) = [0xF000F000, 4] := by decide +kernel
theorem test_ishift : vecOut 0x34 0 9 9 [1, 5] [31, 32] [] (.ishift 1439) = [0x80000000, 0] := by decide +kernel
/-- DRAW of u32 with key 0, tensor 0 and salt 0: w0 and w1 of R133's block. -/
theorem test_draw : vecOut 0x31 0 0 9 [] [] [] (.draw 1439) = [0x02CEA8E4, 0xCF2CF03A] := by decide +kernel
/-- FMA with a Vf32 third source: 1.5 × 0.5 + 1.0, 4.0 × 2.0 − 8.0. -/
theorem test_fma : tsAfter (exec (.fma 1439) (recState 1 0x23 0 0 0 0 0 v1 v2 [0x3F800000, 0xC1000000])) 1439 192 2 = [0x3FE00000, 0] := by
  decide +kernel

/-! Witnesses for the statements on records. -/

/-- A record of the opcode is next, and its entry and offer meet a check. -/
theorem next_of {s : State} {p g op : Nat} {P : Offer → Bool}
    (h : (decide (p < 1440) && decide (s.dev.power = .running) && (winner s.dev p g).any (fun o => decide (opcodeOf o.ent.raw = op) && P o)) = true) :
    ∃ o, NextRecord s p g op o ∧ P o = true := by
  simp only [Bool.and_eq_true, decide_eq_true_eq] at h
  obtain ⟨⟨h1, h2⟩, h3⟩ := h
  cases hw : winner s.dev p g with
  | none => rw [hw] at h3; simp at h3
  | some o => rw [hw] at h3; simp at h3; exact ⟨o, ⟨h1, h2, hw, h3.1⟩, h3.2⟩

theorem ok_of {ε α : Type} {x : Except ε α} (h : x.isOk = true) : ∃ a, x = .ok a := by
  cases x with
  | ok a => exact ⟨a, rfl⟩
  | error _ => simp [Except.isOk, Except.toBool] at h

/-- Every source and the destination of an offer can be read. -/
def readsAll (s : State) (p fa fb fc : Nat) (o : Offer) : Bool :=
  let w := (issued s p o).1
  let rd (opd f : Nat) : Bool := (readSource (issued s p o).2 p o.h o.c opd f).isOk
  rd w.a fa && rd w.b fb && rd w.c fc && (sinkOf (issued s p o).2 p o.h o.c w.d).isOk

theorem reads_all {s : State} {p fa fb fc : Nat} {o : Offer} (h : readsAll s p fa fb fc o = true) :
    ∃ a b x k, Reads s p o (issued s p o).1.a fa a ∧ Reads s p o (issued s p o).1.b fb b ∧ Reads s p o (issued s p o).1.c fc x ∧ Sinks s p o k := by
  simp only [readsAll, Bool.and_eq_true] at h
  obtain ⟨⟨⟨h1, h2⟩, h3⟩, h4⟩ := h
  obtain ⟨a, ha⟩ := ok_of h1
  obtain ⟨b, hb⟩ := ok_of h2
  obtain ⟨x, hx⟩ := ok_of h3
  obtain ⟨k, hk⟩ := ok_of h4
  exact ⟨a, b, x, k, ha, hb, hx, hk⟩

/-- Records of these opcodes with readable operands are next on tile 1,439, context 7. -/
def vecNext (f fd : Nat) (ops : List Nat) (fa fb fc : Nat) : Prop :=
  ∀ op ∈ ops, ∃ s o a b x k, NextRecord s 1439 1 op o ∧ Reads s 1439 o (issued s 1439 o).1.a fa a ∧
    Reads s 1439 o (issued s 1439 o).1.b fb b ∧ Reads s 1439 o (issued s 1439 o).1.c fc x ∧ Sinks s 1439 o k ∧ fmtOf o.ent.a = f ∧ fmtOf o.ent.d = fd

theorem vec_next {f fd fa fb fc : Nat} {ops : List Nat} (h : ops.all (fun op => (winner (recState 1 op 0 0 f 9 fd v1 v2 v1).dev 1439 1).any (fun o =>
    decide (opcodeOf o.ent.raw = op) && (readsAll (recState 1 op 0 0 f 9 fd v1 v2 v1) 1439 fa fb fc o && decide (fmtOf o.ent.a = f ∧ fmtOf o.ent.d = fd)))) = true) :
    vecNext f fd ops fa fb fc := by
  intro op ho
  obtain ⟨o, h1, h2⟩ := next_of (s := recState 1 op 0 0 f 9 fd v1 v2 v1) (p := 1439) (g := 1) (op := op)
    (P := fun o => readsAll (recState 1 op 0 0 f 9 fd v1 v2 v1) 1439 fa fb fc o && decide (fmtOf o.ent.a = f ∧ fmtOf o.ent.d = fd))
    (by rw [(List.all_eq_true.mp h) op ho]; rfl)
  simp only [Bool.and_eq_true, decide_eq_true_eq] at h2
  obtain ⟨a, b, x, k, ra, rb, rx, rk⟩ := reads_all h2.1
  exact ⟨_, o, a, b, x, k, h1, ra, rb, rx, rk, h2.2.1, h2.2.2⟩

theorem witness_VectorArithmeticRecords :
    vecNext 0 0 [0x20, 0x21, 0x22, 0x28, 0x24, 0x25, 0x29, 0x2A, 0x2B, 0x2C, 0x2D, 0x27, 0x23] 0 0 0 := vec_next (by decide +kernel)

theorem witness_IntegerAndSelectRecords :
    vecNext 0 9 [0x26] (cmpParamFmt (mkOpd 0 0 64 1 2 8)) (cmpParamFmt (mkOpd 0 0 0 1 2 8)) 9 ∧ vecNext 0 0 [0x30] 0 0 9 ∧
    vecNext 9 9 [0x32] (intParamFmt (mkOpd 0 9 64 1 2 8)) (intParamFmt (mkOpd 0 9 0 1 2 8)) 9 ∧ vecNext 9 9 [0x33, 0x34] 9 9 9 ∧
    vecNext 0 9 [0x31] 0 0 9 :=
  ⟨vec_next (by decide +kernel), vec_next (by decide +kernel), vec_next (by decide +kernel), vec_next (by decide +kernel), vec_next (by decide +kernel)⟩

/-- A record whose first result is the tensor D, which lies beyond HBM_CAP, fails whatever the elements are. -/
theorem put_fails {d : Dev} {p h c o : Nat} (g : (resultsBeyond d p h c [{ opd := o, rows := [] }]).isSome = true) (e : Env) (n : Nat) (w : WinEnt) (ov : Bool)
    (rows : List (List Elem)) (sc : List (List Nat)) (more : List Part2) :
    (putResults e p h c n w ov ({ opd := o, rows := rows, scales := sc } :: more) d).failed = true := by
  have k : (resultsBeyond d p h c ({ opd := o, rows := rows, scales := sc } :: more)).isSome = true := by
    rw [resultsBeyond, List.findSome?_cons, List.findSome?_nil] at g
    rw [resultsBeyond, List.findSome?_cons]
    revert g
    simp only []
    split <;> simp_all
  rw [putResults]
  split
  · rfl
  · rename_i z; rw [z] at k; cases k

/-- A record in the window of context 7 on half B of a folded tile that has one page of the store; HBM serves nothing. -/
def backState (raw a b c d : Nat) (regs : List (RegKey × Nat)) (ts : List Byte) : State :=
  let r := withRegs ([(⟨.TILE_LOG_B, 1439, 0, 0⟩, 1439), (⟨.TILE_LOG_A, 1439, 0, 0⟩, 0), (⟨.TILE_FOLD_TS_ON, 1439, 0, 0⟩, 1)] ++ regs)
  { dev := inTs 1439 0 ts (inWindow 1439 1 7 [{ idx := 5, raw := raw, a := a, b := b, c := c, d := d, token := true }] { r with gridX := 40 }) }

/-- An offer of half B whose destination lies beyond HBM_CAP. -/
def fails (s : State) (o : Offer) : Bool := (resultsBeyond (issued s 1439 o).2 1439 o.h o.c [{ opd := (issued s 1439 o).1.d, rows := [] }]).isSome

/-- REDUCE, and UPD48 on Vf48m with RATIO clear and set. -/
def updState (ratio : Nat) : State :=
  let ent : WinEnt := { raw := mkRec 1 0x2F ratio true true true true, a := mkOpd 0 5 0 1 2 16, b := mkOpd 0 0 64 1 2 8,
                        c := mkOpd 0 0 128 1 2 8, d := mkOpd 0 5 192 1 2 16 }
  { dev := inWindow 1439 0 7 [ent] }

theorem witness_ReduceAndUpdateRecords :
    vecNext 0 0 [0x2E] 0 0 0 ∧ ∀ ratio ∈ [0, 1], ∃ o a b x k, NextRecord (updState ratio) 1439 1 0x2F o ∧
      Reads (updState ratio) 1439 o (issued (updState ratio) 1439 o).1.a 0 a ∧ Reads (updState ratio) 1439 o (issued (updState ratio) 1439 o).1.b 0 b ∧
      Reads (updState ratio) 1439 o (issued (updState ratio) 1439 o).1.c 0 x ∧ Sinks (updState ratio) 1439 o k ∧
      isRatio (issued (updState ratio) 1439 o).1 = decide (ratio = 1) := by
  refine ⟨vec_next (by decide +kernel), fun ratio hr => ?_⟩
  obtain ⟨o, h1, h2⟩ := next_of (s := updState ratio) (p := 1439) (g := 1) (op := 0x2F)
    (P := fun o => readsAll (updState ratio) 1439 0 0 0 o && decide (isRatio (issued (updState ratio) 1439 o).1 = decide (ratio = 1)))
    (by revert ratio; decide +kernel)
  simp only [Bool.and_eq_true, decide_eq_true_eq] at h2
  obtain ⟨a, b, x, k, ra, rb, rx, rk⟩ := reads_all h2.1
  exact ⟨o, a, b, x, k, h1, ra, rb, rx, rk, h2.2⟩

def updBack : State := backState (mkRec 1 0x2F 1 true true true true) (mkOpd 0 5 0 1 2 16) (mkOpd 0 0 64 1 2 8) (mkOpd 0 0 128 1 2 8) (mkOpd 0 5 4096 1 2 16) [] []

theorem witness_ReduceAndUpdateRecords_fails : ∃ o a b x k, NextRecord updBack 1439 1 0x2F o ∧
    Reads updBack 1439 o (issued updBack 1439 o).1.a 0 a ∧ Reads updBack 1439 o (issued updBack 1439 o).1.b 0 b ∧
    Reads updBack 1439 o (issued updBack 1439 o).1.c 0 x ∧ Sinks updBack 1439 o k ∧ isRatio (issued updBack 1439 o).1 = true ∧
    ∀ e ov rows sc, (putResults e 1439 o.h o.c 1 (issued updBack 1439 o).1 ov [{ opd := (issued updBack 1439 o).1.d, rows := rows, scales := sc }]
      (issued updBack 1439 o).2).failed = true := by
  obtain ⟨o, h1, h2⟩ := next_of (s := updBack) (p := 1439) (g := 1) (op := 0x2F)
    (P := fun o => readsAll updBack 1439 0 0 0 o && (isRatio (issued updBack 1439 o).1 && fails updBack o)) (by decide +kernel)
  simp only [Bool.and_eq_true] at h2
  obtain ⟨a, b, x, k, ra, rb, rx, rk⟩ := reads_all h2.1
  exact ⟨o, a, b, x, k, h1, ra, rb, rx, rk, h2.2.1, fun e ov rows sc => put_fails h2.2.2 e 1 _ ov rows sc []⟩

/-! MM, TB_LOAD, SAMPLE, STATE_INIT, DIGEST, DIGEST_READ, DMA_GO and control records: results, and witnesses. -/

/-- Every HBM stack is ready. -/
def hbmUp : List (RegKey × Nat) := (List.range 20).map (fun s => (⟨.HBM_STACK_STATE, s, 0, 0⟩, 2))

/-- A record with operands given as images in the window of context 7 on tile 1,439. -/
def unitState (raw a b c d : Nat) (regs : List (RegKey × Nat)) (ts : List Byte) : State :=
  { dev := inTs 1439 0 ts (inWindow 1439 0 7 [{ idx := 5, raw := raw, a := a, b := b, c := c, d := d, token := true }] (withRegs regs)) }

/-- A 1 × 2 times 2 × 1 product of (1.5, 4.0) and (0.5, 2.0), with FUSE fn into C. -/
def mmState (fn : Nat) (accum : Bool) (regs : List (RegKey × Nat)) : State :=
  let raw := mkRec 0 0x10 fn true true true true + 2 ^ 11 + (if accum then 2 ^ 13 else 0)
  unitState raw (mkOpd 0 0 0 1 2 8) (mkOpd 0 0 64 2 1 4) (mkOpd 0 0 128 1 2 8) (mkOpd 0 0 192 1 1 4) regs
    ((v1 ++ List.replicate 14 0 ++ v2).flatMap (fun v => leBytes v 4))

/-- 1.5 × 0.5 + 4.0 × 2.0 = 8.75; the row maximum and sum of FUSE 1. -/
theorem test_mm : tsAfter (exec (.mm 1439) (mmState 1 false [])) 1439 192 1 = [0x410C0000] ∧
    tsAfter (exec (.mm 1439) (mmState 1 false [])) 1439 128 2 = [0x410C0000, 0x410C0000] := by decide +kernel

def viewRegs : List (RegKey × Nat) :=
  [(⟨.DBG_MODE, 7, 0, 0⟩, 1), (⟨.DBG_ACC_ARM, 7, 0, 0⟩, 1), (⟨.DBG_ACC_OP, 7, 0, 0⟩, 5), (⟨.DBG_ACC_TILE, 7, 0, 0⟩, 0), (⟨.TILE_LOG_A, 1439, 0, 0⟩, 0)] ++ hbmUp

/-- What the statement on MM asks of an offer beyond being next. -/
def mmReads (s : State) (armed : Bool) (o : Offer) : Bool :=
  let w := (issued s 1439 o).1
  let d := (issued s 1439 o).2
  readsAll s 1439 0 0 0 o && (readCodes d 1439 o.h o.c w.d).isOk && decide (viewArmed d 1439 o.h o.c w = armed) &&
  decide (rbase d ⟨.DBG_ACC_ADDR, o.c, 0, 0⟩ + 4096 ≤ hbmCap d) && decide (o.h = 0)

/-- Its conclusion as a proposition. -/
def MmNext (s : State) (accum armed : Bool) : Prop :=
  ∃ o a b accs k, NextRecord s 1439 0 0x10 o ∧ Reads s 1439 o (issued s 1439 o).1.a 0 a ∧ Reads s 1439 o (issued s 1439 o).1.b 0 b ∧
    (if accumOf (issued s 1439 o).1.raw then readCodes (issued s 1439 o).2 1439 o.h o.c (issued s 1439 o).1.d = .ok accs else accs = []) ∧
    Sinks s 1439 o k ∧ accumOf (issued s 1439 o).1.raw = accum ∧ viewArmed (issued s 1439 o).2 1439 o.h o.c (issued s 1439 o).1 = armed ∧
    rbase (issued s 1439 o).2 ⟨.DBG_ACC_ADDR, o.c, 0, 0⟩ + 4096 ≤ hbmCap (issued s 1439 o).2 ∧
    ∀ e ov parts, (putResults e 1439 o.h o.c 0 (issued s 1439 o).1 ov parts (issued s 1439 o).2).failed = false

theorem mm_next {s : State} {accum armed : Bool}
    (h : (decide (1439 < 1440) && decide (s.dev.power = .running) && (winner s.dev 1439 0).any (fun o => decide (opcodeOf o.ent.raw = 0x10) &&
      (mmReads s armed o && decide (accumOf (issued s 1439 o).1.raw = accum)))) = true) : MmNext s accum armed := by
  obtain ⟨o, h1, h2⟩ := next_of (P := fun o => mmReads s armed o && decide (accumOf (issued s 1439 o).1.raw = accum)) h
  simp only [mmReads, Bool.and_eq_true, decide_eq_true_eq] at h2
  obtain ⟨⟨⟨⟨⟨h3, h4⟩, h5⟩, h6⟩, hh⟩, h7⟩ := h2
  obtain ⟨a, b, x, k, ra, rb, rx, rk⟩ := reads_all h3
  obtain ⟨l, hl⟩ := ok_of h4
  refine ⟨o, a, b, if accumOf (issued s 1439 o).1.raw then l else [], k, h1, ra, rb, ?_, rk, h7, h5, h6, fun e ov parts => by rw [hh, putResults_halfA]⟩
  split <;> simp_all

/-- TB_LOAD of a Vi4 row of 32 codes with its scale, and of two Vf32 words. -/
def tbState (f : Nat) : State :=
  unitState (mkRec 0 0x11 0 true false false true) (mkOpd 0 f 0 1 32 128 + 256 * 2 ^ 224) 0 0 (mkOpd 2 f 0 1 32 128 + 512 * 2 ^ 224) []
    (List.replicate 64 0x21)

theorem test_tbLoad : (match exec (.tbLoad 1439) (tbState 4) with
    | .next t => (memGet t.dev.tb (1439 * 2 ^ 16), memGet t.dev.tb (1439 * 2 ^ 16 + 15), memGet t.dev.tb (1439 * 2 ^ 16 + 16))
    | _ => (0, 0, 0)) = (0x21, 0x21, 0) := by decide +kernel

theorem witness_MatrixRecords : MmNext (mmState 1 false hbmUp) false false ∧ MmNext (mmState 1 true hbmUp) true false ∧
    MmNext (mmState 1 false viewRegs) false true ∧
    ∀ f ∈ [0, 4], ∃ o codes sc, NextRecord (tbState f) 1439 0 0x11 o ∧
      readTensor (issued (tbState f) 1439 o).2 1439 o.h o.c (issued (tbState f) 1439 o).1.a = .ok (codes, sc) := by
  refine ⟨mm_next (by decide +kernel), mm_next (by decide +kernel), mm_next (by decide +kernel), fun f hf => ?_⟩
  obtain ⟨o, h1, h2⟩ := next_of (s := tbState f) (p := 1439) (g := 0) (op := 0x11)
    (P := fun o => (readTensor (issued (tbState f) 1439 o).2 1439 o.h o.c (issued (tbState f) 1439 o).1.a).isOk) (by revert f; decide +kernel)
  obtain ⟨l, hl⟩ := ok_of h2
  exact ⟨o, l.1, l.2, h1, hl⟩

/-- The stream of the worked example after R150 before a SAMPLE in a mode. -/
def sampleState (mode slot : Nat) : State :=
  let words (l : List Nat) : List Byte := l.flatMap (fun v => leBytes v 4)
  unitState (mkRec 2 0x40 mode true true false true) (mkOpd 0 0 0 1 6 24) (mkOpd 0 9 64 1 16 64) 0
    (mkOpd 0 9 192 1 (if mode = 1 then 10 else 1) 64) []
    (words [0xBFB17218, 0xBF317218, 0xC0317218, 0, 0xBF317218, 0xC0B17218] ++ List.replicate 40 0 ++ words ((2 ^ 16 + slot) :: exampleStream.tail))

/-- The same stream on half B, its destination beyond HBM_CAP. -/
def sampleBack : State :=
  let words (l : List Nat) : List Byte := l.flatMap (fun v => leBytes v 4)
  backState (mkRec 2 0x40 0 true true false true) (mkOpd 0 0 0 1 6 24) (mkOpd 0 9 64 1 16 64) 0 (mkOpd 0 9 4096 1 1 64) []
    (words [0xBFB17218, 0xBF317218, 0xC0317218, 0, 0xBF317218, 0xC0B17218] ++ List.replicate 40 0 ++ words (2 ^ 16 :: exampleStream.tail))

/-- SHORTLIST writes the candidates of the worked example in order. -/
theorem test_sample_shortlist : tsAfter (exec (.sample 1439) (sampleState 1 0)) 1439 192 10 =
    [0, 3, 0xBF317218, 1, 0xBF317218, 4, 0xBFB17218, 0, 0xC0317218, 2] := by decide +kernel

/-- WHOLE advances POS, and writes a token of the first four (top-p). -/
theorem test_sample_whole : (tsAfter (exec (.sample 1439) (sampleState 0 0)) 1439 (64 + 32) 1 = [1]) ∧
    (tsAfter (exec (.sample 1439) (sampleState 0 0)) 1439 192 1).all (fun t => t ∈ [3, 1, 4, 0]) = true := by decide +kernel

/-- A template opened at coordinate 1 under slot 3, which is CURRENT; slot 3 is not resident with st = 0. -/
def initState (st : Nat) : State :=
  let words (l : List Nat) : List Byte := l.flatMap (fun v => leBytes v 4)
  let s := unitState (mkRec 2 0x41 0 true false false true) (mkOpd 0 9 0 1 16 64) 0 0 (mkOpd 0 9 192 1 16 64)
    [(⟨.CLK_EP_STATE, 7, 3, 0⟩, st), (⟨.CLK_EP_NEXT, 7, 3, 0⟩, 2 ^ 64 - 1)]
    (words [0, 0x3E00 + 5 * 2 ^ 16, 0x3F666666, 6, 0, 0, 1, 0, 0, 9, 99, 0, 0, 0, 0, 0])
  { s with dev := { s.dev with rc := 1 } }

/-- The state written is the template, ACTIVE, with the slot's number; the slot is pinned once. -/
theorem test_stateInit : tsAfter (exec (.stateInit 1439) (initState 2)) 1439 192 2 = [2 ^ 16 + 3 * 2 ^ 19, 0x3E00 + 5 * 2 ^ 16] ∧
    (match exec (.stateInit 1439) (initState 2) with | .next t => rget t.dev ⟨.CLK_EP_PINS, 7, 3, 0⟩ | _ => 0) = 1 := by decide +kernel

/-- Two reads that succeed with rows that meet a check. -/
def bothOk (x y : Except StoreRes (List (List Nat))) (P : List (List Nat) → List (List Nat) → Bool) : Bool :=
  match x, y with | .ok a, .ok b => P a b | _, _ => false

theorem both_ok {x y : Except StoreRes (List (List Nat))} {P : List (List Nat) → List (List Nat) → Bool} (h : bothOk x y P = true) :
    ∃ a b, x = .ok a ∧ y = .ok b ∧ P a b = true := by
  cases x with
  | error _ => simp [bothOk] at h
  | ok a => cases y with
    | error _ => simp [bothOk] at h
    | ok b => exact ⟨a, b, rfl, rfl, h⟩

/-- The half that a command's results are written on: on A none fails, on B here each does. -/
def halfFails (s : State) (o : Offer) (out : Bool) : Bool := if out then fails s o else decide (o.h = 0)

/-- SAMPLE or STATE_INIT is next, and what it reads meets a check. -/
def SamplerNext (s : State) (op : Nat) (second : WinEnt → Nat) (P : Offer → List (List Nat) → List (List Nat) → Bool) : Prop :=
  ∃ o x y, NextRecord s 1439 2 op o ∧ readCodes (issued s 1439 o).2 1439 o.h o.c (issued s 1439 o).1.a = .ok x ∧
    readCodes (issued s 1439 o).2 1439 o.h o.c (second (issued s 1439 o).1) = .ok y ∧ P o x y = true

theorem sampler_next {s : State} {op : Nat} {second : WinEnt → Nat} {P : Offer → List (List Nat) → List (List Nat) → Bool}
    (h : (decide (1439 < 1440) && decide (s.dev.power = .running) && (winner s.dev 1439 2).any (fun o => decide (opcodeOf o.ent.raw = op) &&
      bothOk (readCodes (issued s 1439 o).2 1439 o.h o.c (issued s 1439 o).1.a) (readCodes (issued s 1439 o).2 1439 o.h o.c (second (issued s 1439 o).1))
        (P o))) = true) : SamplerNext s op second P := by
  obtain ⟨o, h1, h2⟩ := next_of h
  obtain ⟨x, y, hx, hy, hp⟩ := both_ok h2
  exact ⟨o, x, y, h1, hx, hy, hp⟩

/-- The rows that SAMPLE gives, and those of STATE_INIT. -/
def sampleGives (s : State) (o : Offer) (x y : List (List Nat)) : Option (List RowOut) :=
  sampleRows (immOf (issued s 1439 o).1.raw) (rget (issued s 1439 o).2 ⟨.TILE_SRL_KEY, 1439, o.c, o.h⟩) (issued s 1439 o).1.a (issued s 1439 o).1.d x y
def initGives (s : State) (o : Offer) (x y : List (List Nat)) : Option (List (List Nat × Nat × Option Nat)) :=
  openRows (issued s 1439 o).2 o.c (bitOf (immOf (issued s 1439 o).1.raw) 0) (issued s 1439 o).1.d x y

theorem witness_SamplerRecords :
    (∀ x ∈ [(sampleState 1 0, false), (sampleState 0 0, false), (sampleBack, true)], SamplerNext x.1 0x40 (·.b) (fun o y z =>
      idsOk (issued x.1 1439 o).1.b z && (sampleGives x.1 o y z).isSome && halfFails x.1 o x.2)) ∧
    SamplerNext (sampleState 0 1) 0x40 (·.b) (fun o _ y => !idsOk (issued (sampleState 0 1) 1439 o).1.b y) ∧
    SamplerNext (initState 2) 0x41 (·.d) (fun o x y => (initGives (initState 2) o x y).isSome) ∧
    SamplerNext (initState 0) 0x41 (·.d) (fun o x y => (initGives (initState 0) o x y).isNone) :=
  ⟨fun x hx => sampler_next (by revert x; decide +kernel), sampler_next (by decide +kernel), sampler_next (by decide +kernel),
    sampler_next (by decide +kernel)⟩

/-- DIGEST of a 1 × 2 tensor, DIGEST_READ of slot 31, DMA_GO on channel 3 of a descriptor of LEN n. -/
def digestState : State := unitState (mkRec 4 0x50 31 true false false false) (mkOpd 0 9 0 1 2 8) 0 0 0 [] [1, 0, 0, 0]
def digestReadState : State := unitState (mkRec 4 0x51 31 false false false true) 0 0 0 (mkOpd 0 9 192 1 2 8) [(⟨.TILE_DIG, 1439, 31, 0⟩, 0x0123456789ABCDEF)] []
def dmaGoState (n : Nat) : State :=
  unitState (mkRec 5 0x60 3 true false false false) (mkOpd 0 9 0 1 16 64) 0 0 0 ((⟨.TILE_TS_LIMIT, 1439, 7, 0⟩, 16) :: hbmUp)
    (leBytes (packFields [(64, 0x1000), (64, 0x1000), (64, 2), (32, n), (32, 1), (64, 0), (32, 1), (64, 0), (32, 1), (64, 0)]) 64)

theorem test_digestRead : tsAfter (exec (.digestRead 1439) digestReadState) 1439 192 2 = [0x89ABCDEF, 0x01234567] ∧
    (match exec (.digestRead 1439) digestReadState with | .next t => rget t.dev ⟨.TILE_DIG, 1439, 31, 0⟩ | _ => 1) = 0 := by decide +kernel
theorem test_dmaGo : (match exec (.dmaGo 1439) (dmaGoState 64) with | .next t => ((getChan t.dev 1439 3).shd.map (fun x => (x.c, x.idx, x.issueNo))) | _ => none) =
    some (7, 5, 1) := by decide +kernel

theorem witness_DigestAndDmaGoRecords :
    (∃ o codes sc, NextRecord digestState 1439 4 0x50 o ∧
      readTensor (issued digestState 1439 o).2 1439 o.h o.c (issued digestState 1439 o).1.a = .ok (codes, sc)) ∧
    (∃ o, NextRecord digestReadState 1439 4 0x51 o) ∧
    ∀ n ∈ [64, 0], ∃ o codes, NextRecord (dmaGoState n) 1439 5 0x60 o ∧
      readCodes (issued (dmaGoState n) 1439 o).2 1439 o.h o.c (issued (dmaGoState n) 1439 o).1.a = .ok codes ∧
      decide (chJudge (issued (dmaGoState n) 1439 o).2 1439 o.h o.c (descNat codes) = .ok) = decide (n = 64) := by
  refine ⟨?_, ?_, fun n hn => ?_⟩
  · obtain ⟨o, h1, h2⟩ := next_of (s := digestState) (p := 1439) (g := 4) (op := 0x50)
      (P := fun o => (readTensor (issued digestState 1439 o).2 1439 o.h o.c (issued digestState 1439 o).1.a).isOk) (by decide +kernel)
    obtain ⟨l, hl⟩ := ok_of h2
    exact ⟨o, l.1, l.2, h1, hl⟩
  · obtain ⟨o, h1, -⟩ := next_of (s := digestReadState) (p := 1439) (g := 4) (op := 0x51) (P := fun _ => true) (by decide +kernel)
    exact ⟨o, h1⟩
  · obtain ⟨o, h1, h2⟩ := next_of (s := dmaGoState n) (p := 1439) (g := 5) (op := 0x60)
      (P := fun o => match readCodes (issued (dmaGoState n) 1439 o).2 1439 o.h o.c (issued (dmaGoState n) 1439 o).1.a with
        | .ok l => decide (chJudge (issued (dmaGoState n) 1439 o).2 1439 o.h o.c (descNat l) = .ok) == decide (n = 64)
        | _ => false) (by revert n; decide +kernel)
    split at h2
    · exact ⟨o, _, h1, by assumption, by simpa using h2⟩
    · cases h2

/-! Control records, decoding, completion; witnesses. -/

/-- A control record of context 7 on tile 1,439, its value in A, with the loop stack given. -/
def ctlState (op a : Nat) (l : List (Nat × Nat)) (regs : List (RegKey × Nat) := []) : State :=
  let ent : WinEnt := { idx := 5, raw := mkRec 6 op 0 (op = 1 || op = 3) false false false, a := a * 2 ^ 64 + 3 }
  let d := inWindow 1439 0 7 [ent] (withRegs regs)
  { dev := setStrm d 1439 0 7 { getStrm d 1439 0 7 with loops := l } }

/-- Whether a control record is next, the decidable form. -/
def ctlCheck (s : State) (p h c op : Nat) (P : (List WinEnt × WinEnt) × Nat → Bool) : Bool :=
  placeOk p h c && decide (s.dev.power = .running) && (getStrm s.dev p h c).on && (oldestUnissued (getStrm s.dev p h c)).any (fun x =>
    decide (engineOf x.1.2.raw = 6) && decide (opcodeOf x.1.2.raw = op) && eligible s.dev p h c x.1.1 x.1.2 && P x)

theorem ctl_next {s : State} {p h c op : Nat} {P : (List WinEnt × WinEnt) × Nat → Bool} (g : ctlCheck s p h c op P = true) :
    ∃ x, NextControl s p h c op x ∧ P x = true := by
  simp only [ctlCheck, Bool.and_eq_true, decide_eq_true_eq] at g
  obtain ⟨⟨⟨h1, h2⟩, h3⟩, h4⟩ := g
  cases hx : oldestUnissued (getStrm s.dev p h c) with
  | none => rw [hx] at h4; simp at h4
  | some x =>
    rw [hx] at h4
    simp only [Option.any_some, Bool.and_eq_true, decide_eq_true_eq] at h4
    exact ⟨x, ⟨h1, h2, h3, hx, h4.1.1.1, h4.1.1.2, h4.1.2⟩, h4.2⟩

/-- The loop stack of the stream once the record has issued. -/
def loopsAt (s : State) (x : (List WinEnt × WinEnt) × Nat) : List (Nat × Nat) := (getStrm (issuedControl s 1439 0 7 x).2 1439 0 7).loops

theorem witness_ControlRecords :
    (∃ x, NextControl (ctlState 0 0 []) 1439 0 7 0x00 x) ∧ (∃ x, NextControl (ctlState 1 3 []) 1439 0 7 0x01 x) ∧
    (∃ x, NextControl (ctlState 2 0 [(4, 1)]) 1439 0 7 0x02 x ∧ loopsAt (ctlState 2 0 [(4, 1)]) x = [(4, 1)]) ∧
    (∃ x, NextControl (ctlState 2 0 [(4, 2), (1, 9)]) 1439 0 7 0x02 x ∧ loopsAt (ctlState 2 0 [(4, 2), (1, 9)]) x = [(4, 2), (1, 9)]) ∧
    (∃ x, NextControl (ctlState 3 (2 ^ 64 - 1) []) 1439 0 7 0x03 x) ∧ ∃ x, NextControl (ctlState 4 0 []) 1439 0 7 0x04 x := by
  have free (op a : Nat) (g : ctlCheck (ctlState op a []) 1439 0 7 op (fun _ => true) = true) : ∃ x, NextControl (ctlState op a []) 1439 0 7 op x :=
    let ⟨x, h, _⟩ := ctl_next g
    ⟨x, h⟩
  have loop (l : List (Nat × Nat)) (g : ctlCheck (ctlState 2 0 l) 1439 0 7 2 (fun x => decide (loopsAt (ctlState 2 0 l) x = l)) = true) :
      ∃ x, NextControl (ctlState 2 0 l) 1439 0 7 2 x ∧ loopsAt (ctlState 2 0 l) x = l :=
    let ⟨x, h, k⟩ := ctl_next g
    ⟨x, h, of_decide_eq_true k⟩
  exact ⟨free _ _ (by decide +kernel), free _ _ (by decide +kernel), loop _ (by decide +kernel), loop _ (by decide +kernel),
    free _ _ (by decide +kernel), free _ _ (by decide +kernel)⟩

/-- A stream whose next record, at index 0 of a share of 16 lines, is the one given, inside a loop stack as decoding follows it. -/
def decState (raw : Nat) (a : Nat) (l : List (Nat × Nat)) (n : Nat) : State :=
  let d := withRegs [(⟨.TILE_TS_LIMIT, 1439, 7, 0⟩, 16), (⟨.TILE_OPD_LIMIT, 1439, 7, 0⟩, 4), (⟨.TILE_LOG_A, 1439, 0, 0⟩, 0)]
  let d := inTs 1439 0x1F0000 (leBytes a 32 ++ leBytes a 32 ++ leBytes a 32 ++ leBytes a 32) (inTs 1439 0 (leBytes raw 16) d)
  { dev := setStrm d 1439 0 7 { on := true, decoding := true, decLoops := l, win := List.replicate n {} } }

/-- The hypotheses that the clauses of RecordDecodeJudges share, and what the record is judged. -/
def decNext (s : State) (P : WinEnt → Verdict → Verdict → Bool) (loops : List (Nat × Nat) := []) : Bool :=
  let st := getStrm s.dev 1439 0 7
  let off := recordOff s.dev 1439 0 7 st.next
  decide (s.dev.power = .running) && st.on && st.decoding && decide (st.win.length < 16) && inShare s.dev 1439 0 7 0 off (off + 15) &&
  match fetchRecord s.dev 1439 0 7 st.next with
  | .ok w =>
    let d := decodeSeen s.env 1439 0 7 st.next w s.dev
    P w (judgeForm (allotOf d 1439 0 7) st.decLoops.length w) (judgeBounds d 1439 0 7 w) && decide ((getStrm d 1439 0 7).decLoops = loops)
  | .error _ => false

theorem witness_RecordDecodeJudges :
    let param (v : Nat) : Nat := v * 2 ^ 64 + 3
    let is (op : Nat) (w : WinEnt) (j b : Verdict) : Bool := decide (engineOf w.raw = 6 ∧ opcodeOf w.raw = op ∧ j = .ok ∧ b = .ok)
    decNext (decState (mkRec 1 0x20 0 true true false true) (mkOpd 0 0 0 1 1 4) [] 15) (fun w j b => decide (engineOf w.raw = 1 ∧ j = .ok ∧ b = .ok)) = true ∧
    decNext (decState (mkRec 6 0x00 0 false false false false) 0 [] 15) (is 0x00) = true ∧
    decNext (decState (mkRec 6 0x01 0 true false false false) (param 2) [] 0) (is 0x01) = true ∧
    (∀ n ∈ [1, 2], decNext (decState (mkRec 6 0x02 0 false false false false) 0 [(0, n)] 0) (is 0x02) [(0, n)] = true) ∧
    decNext (decState (mkRec 6 0x03 0 true false false false) (param 2) [] 0) (is 0x03) = true ∧
    decNext (decState (mkRec 6 0x04 0 false false false false) 0 [] 0) (is 0x04) = true ∧
    decNext (decState (mkRec 6 0x05 0 false false false false) 0 [] 0) (fun _ j _ => decide (j = .malformed [0x3FF])) = true ∧
    decNext (decState (mkRec 1 0x29 0 true false false true) (mkOpd 0 0 0 200 2048 8192) [] 0)
      (fun _ j b => decide (j = .ok) && (match b with | .bounds _ => true | _ => false)) = true := by
  decide +kernel

/-! Completion, ageing, exchange of the buffer, wait limit; tiles; witnesses. -/

/-- A window entry of context 7 on tile 1,439 with a control record of an opcode, the fields from WAIT0 upwards given. -/
def winState (h : Nat) (upd : WinEnt → WinEnt) (op fields : Nat) (regs : List (RegKey × Nat)) : State :=
  { dev := inWindow 1439 h 7 [upd { idx := 5, raw := mkRec 6 op 0 false false false false + fields * 2 ^ 56 }] (withRegs regs), clk := { ft := 2 ^ 40 } }

/-- Wait 0 on pennant 3 (and wait 1 on it too), posts of pennants 3 and 4. -/
def twoWaits : Nat := 3 + 2 ^ 6 + 3 * 2 ^ 7 + 2 ^ 13
def twoPosts : Nat := (3 + 2 ^ 6 + 4 * 2 ^ 7 + 2 ^ 13) * 2 ^ 14

/-- A folded tile whose other half waits for the transposing buffer. -/
def foldState : State :=
  let d := withRegs ((⟨.TILE_LOG_B, 1439, 0, 0⟩, 1439) :: (⟨.TILE_LOG_A, 1439, 0, 0⟩, 0) :: hbmUp)
  { dev := inWindow 1439 1 7 [{ idx := 5, raw := mkRec 0 0x11 0 true false false true, d := mkOpd 2 0 0 1 1 4 }] { d with gridX := 40 } }

theorem witness_RecordsCompleteAgeAndWait :
    let issued (w : WinEnt) : WinEnt := { w with issued := true }
    let failed (w : WinEnt) : WinEnt := { w with issued := true, failed := true }
    let ent (s : State) : WinEnt := ((getStrm s.dev 1439 0 7).win[0]?).getD {}
    let sF := winState 0 failed 0 twoPosts []
    let sO := winState 0 issued 4 twoPosts [(⟨.TILE_PEN_COUNT, 1439, 3, 0⟩, 255)]
    let sA := winState 0 id 0 twoWaits [(⟨.TILE_PEN_COUNT, 1439, 3, 0⟩, 2)]
    let sH := winState 0 id 0 twoWaits [(⟨.TILE_PEN_COUNT, 1439, 3, 0⟩, 1), (⟨.DBG_MODE, 7, 0, 0⟩, 1), (⟨.DBG_HZ_EN, 7, 0, 0⟩, 1)]
    placeOk 1439 0 7 = true ∧ placeOk 1439 1 7 = true ∧ sF.dev.power = .running ∧ sO.dev.power = .running ∧ sA.dev.power = .running ∧ sH.dev.power = .running ∧
    foldState.dev.power = .running ∧
    (getStrm sF.dev 1439 0 7).win[0]? = some (ent sF) ∧ mayComplete 0 (ent sF) = true ∧ (ent sF).failed = true ∧
    (getStrm sO.dev 1439 0 7).win[0]? = some (ent sO) ∧ mayComplete 0 (ent sO) = true ∧ (ent sO).failed = false ∧
    (withOlder [] (getStrm sA.dev 1439 0 7).win)[0]? = some ([], ent sA) ∧ (ent sA).issued = false ∧ (ent sA).aged = none ∧
      metRules sA.dev 1439 0 [] (ent sA) = true ∧ (2 ^ 40 - 37450) + 37450 ≤ sA.clk.ft ∧
    isFolded foldState.dev 1439 = true ∧ rget foldState.dev ⟨.TILE_FOLD_TB_OWNER, 1439, 0, 0⟩ = 0 ∧ holdsTb foldState.dev 1439 0 = false ∧
      (wantsTb foldState.dev 1439 1).map (·.1) = some 7 ∧
    (withOlder [] (getStrm sH.dev 1439 0 7).win)[0]? = some ([], ent sH) ∧ hazOn sH.dev 7 = true ∧ (ent sH).issued = false ∧ (ent sH).hazWait = false ∧
      (waitsMet sH.dev 1439 0 [] (ent sH) && landMet sH.dev 1439 0 (ent sH)) = false ∧ busyOn sH.dev 1439 7 = false := by
  decide +kernel

/-- The transposing buffer reads where none of its words is uncorrectable, and HBM below the cap where no line is. -/
theorem storeRead_tb {d : Dev} {p h c off n : Nat} (g : d.tbUE = []) : ∃ bs, storeRead d p h c 2 off n = .ok bs := by
  have z : (List.range n).findSome? (fun i => locBad d 2 (off + i) (locOf d p h c 2 (off + i))) = none := by
    simp [List.findSome?_eq_none_iff, locOf, locBad, g]
  exact ⟨_, by rw [storeRead, z]⟩

theorem hbmRead_ok {d : Dev} {a n : Nat} (g : d.lineUE = []) (w : d.wcb = []) (k : a + n ≤ hbmCap d) : ∃ bs, hbmRead d a n = .ok bs := by
  have z : (linesOf a n).find? (fun l => d.lineUE.contains l) = none := by simp [g]
  have y : (linesOf a n).find? (wcbLost d a n) = none := by simp [wcbLost, wcbOf, w]
  exact ⟨_, by rw [hbmRead, if_neg (by omega), z, y]⟩

theorem witness_RecordsCompleteAgeAndWait_images : (∃ mine, storeRead foldState.dev 1439 0 7 2 0 65536 = .ok mine) ∧
    ∃ image, hbmRead foldState.dev (tbImageAt foldState.dev 1439) 65536 = .ok image :=
  ⟨storeRead_tb (by decide +kernel), hbmRead_ok (by decide +kernel) (by decide +kernel) (by decide +kernel)⟩

theorem witness_PennantsCountWaitsAndPosts :
    let sW := winState 0 id 0 twoWaits [(⟨.TILE_PEN_COUNT, 1439, 3, 0⟩, 2)]
    let sP (n dbg : Nat) := winState 0 (fun w => { w with issued := true }) 0 twoPosts [(⟨.TILE_PEN_COUNT, 1439, 3, 0⟩, n), (⟨.DBG_MODE, 7, 0, 0⟩, dbg),
      (⟨.DBG_HZ_EN, 7, 0, 0⟩, dbg)]
    (∃ x, NextControl sW 1439 0 7 0x00 x ∧ waitsOf x.1.2.raw = [3, 3]) ∧
    placeOk 1439 0 7 = true ∧ ∀ x ∈ [(0, 0), (254, 0), (255, 0), (254, 1), (255, 1)], (sP x.1 x.2).dev.power = .running ∧
      (getStrm (sP x.1 x.2).dev 1439 0 7).win.length = 1 ∧ hazOn (sP x.1 x.2).dev 7 = decide (x.2 = 1) ∧
      (∀ w ∈ (getStrm (sP x.1 x.2).dev 1439 0 7).win, mayComplete 0 w = true ∧ w.failed = false ∧ postsOf w.raw = [3, 4]) ∧
      rget (sP x.1 x.2).dev ⟨.TILE_PEN_COUNT, 1439, 3, 0⟩ = x.1 := by
  refine ⟨?_, by decide +kernel⟩
  obtain ⟨x, h, k⟩ := ctl_next (s := winState 0 id 0 twoWaits [(⟨.TILE_PEN_COUNT, 1439, 3, 0⟩, 2)]) (p := 1439) (h := 0) (c := 7) (op := 0)
    (P := fun x => decide (waitsOf x.1.2.raw = [3, 3])) (by decide +kernel)
  exact ⟨x, h, of_decide_eq_true k⟩

/-- A post at 255 stays there and sets TILE_PEN_OVF; one at 254 does not (R94). -/
theorem test_recordComplete_posts :
    let after (n : Nat) : Nat × Nat := match exec (.recordComplete 1439 0 7 0) (winState 0 (fun w => { w with issued := true }) 0 twoPosts
        [(⟨.TILE_PEN_COUNT, 1439, 3, 0⟩, n)]) with
      | .next t => (rget t.dev ⟨.TILE_PEN_COUNT, 1439, 3, 0⟩, rget t.dev ⟨.TILE_PEN_OVF, 1439, 0, 0⟩)
      | _ => (9, 9)
    after 254 = (255, 0) ∧ after 255 = (255, 1) := by decide +kernel

/-- TILE_PEN_COUNT 3 after the two waits. -/
theorem test_nop_waits : (match exec (.nop 1439 0 7) (winState 0 id 0 twoWaits [(⟨.TILE_PEN_COUNT, 1439, 3, 0⟩, 2)]) with
    | .next t => rget t.dev ⟨.TILE_PEN_COUNT, 1439, 3, 0⟩ | _ => 9) = 0 := by decide +kernel

/-- The Tabok cores run, and context 7 is enabled on tile 1,439, halted or not. -/
def tileState' (halt : Nat) (regs : List (RegKey × Nat)) : State :=
  let s := serving regs
  { s with dev := setTile (setStrm s.dev 1439 0 7 { on := true }) 1439 { halt := halt } }

theorem witness_TileHaltAndResumeSetTheBits :
    let both (v : Word) : Bool := (List.range 8).any (fun c => v.toNat.testBit c && v.toNat.testBit (8 + c))
    (tileState' 0 []).dev.power = .running ∧ tabokRuns (tileState' 0 []).dev = true ∧
    both 0x0180 = false ∧ both 0x8080 = true := by decide +kernel

theorem witness_PennantIsSetByHandOnlyHalted :
    let sel (n : Nat) : List (RegKey × Nat) := [(⟨.TILE_PEN_SEL, 1439, 0, 0⟩, n), (⟨.TILE_PEN_MASK, 1439, 7, 0⟩, 2 ^ 31)]
    let own (s : State) : Option Nat := pennantOwner s.dev 1439 (rget s.dev ⟨.TILE_PEN_SEL, 1439, 0, 0⟩)
    (∀ h ∈ [0, 128], (tileState' h (sel 31)).dev.power = .running ∧ tabokRuns (tileState' h (sel 31)).dev = true ∧ own (tileState' h (sel 31)) = some 7 ∧
      (getTile (tileState' h (sel 31)).dev 1439).halt.testBit 7 = decide (h = 128)) ∧
    (tileState' 0 (sel 30)).dev.power = .running ∧ tabokRuns (tileState' 0 (sel 30)).dev = true ∧ own (tileState' 0 (sel 30)) = none := by decide +kernel

theorem witness_TileCtxEnSetsTheWrittenBits :
    let changed (s : State) (v : Word) : List Nat := (List.range 8).filter (fun c => v.toNat.testBit c ≠ enabledOn s.dev 1439 c)
    ∀ h ∈ [0, 128], (tileState' h []).dev.power = .running ∧ tabokRuns (tileState' h []).dev = true ∧ changed (tileState' h []) 1 = [0, 7] ∧
      (changed (tileState' h []) 1).all (fun c => ctxOpen (tileState' h []).dev 1439 c) = decide (h = 128) := by decide +kernel

/-! Contexts and rings; witnesses. -/

/-- Context 7 as given, loaded on tile 1,439 with its stream ended, with registers of the context and others written. -/
def ctxState' (x : Ctx) (regs : List (Reg × Nat)) (more : List (RegKey × Nat) := []) : State :=
  let d := withRegs (regs.map (fun r => (⟨r.1, 7, 0, 0⟩, r.2)) ++ more)
  { dev := setCtx (setStrm d 1439 0 7 { on := true, ended := true, endDone := true }) 7 x, clk := { ns := 5000, ft := 9000 } }

/-- A descriptor of SEQ a: operation, then a word at bit 64. -/
def descImg (a op entry : Nat) : Nat := a + op * 2 ^ 32 + entry * 2 ^ 64

/-- An entry table with entry 3, and the descriptor at the head. -/
def headState (n : Nat) (x : Ctx) : State :=
  ctxState' { x with taken := [(65535, n)] } [(.RING_CMD_CONS, 65535)] [(⟨.RING_ENTRY, 7, 63, 0⟩, 3)]

theorem witness_CommandDescriptorsAreTaken :
    let runs (n : Nat) (x : Ctx) (bad : Bool) : Prop := (headState n x).dev.power = .running ∧ headDesc (headState n x).dev 7 = some n ∧
      getCtx (headState n x).dev 7 = { x with taken := [(65535, n)] } ∧ descBad (headState n x).dev 7 n = bad
    let full (k : Nat) : Ctx := { queue := List.replicate k {} }
    let l : Launch := { seq := 8, started := true }
    runs (descImg 9 1 3) (full 63) false ∧ descOp (descImg 9 1 3) = 1 ∧
    runs (descImg 9 1 4) (full 63) true ∧ runs (descImg 9 3 0) (full 64) true ∧ descOp (descImg 9 3 0) = 3 ∧
    runs (descImg 9 2 8 + 2 ^ 40) {} true ∧ descOp (descImg 9 2 8 + 2 ^ 40) = 2 ∧
    runs (descImg 9 2 9) {} false ∧ runs (descImg 9 2 10) {} false ∧ seqLater 10 9 = true ∧
    seqLater 8 9 = false ∧ runs (descImg 9 2 8) { queue := [{}, l] } false ∧ [({} : Launch), l].find? (fun y => y.seq = 8) = some l ∧
    runs (descImg 9 2 8) { cur := some l } false ∧ l.started = true ∧ l.seq = 8 ∧
    (∀ x ∈ [({} : Ctx), { cur := some l, decided := true }, { cur := some { seq := 7 } }], runs (descImg 9 2 8) x false ∧
      x.cur.all (fun y => y.seq ≠ 8 || x.decided || !y.started) = true) := by decide +kernel

/-- A queued launch ABORTED, the record of the launch before that of the ABORT (R275). -/
theorem test_abort_queued : (match exec (.abort 7) (headState (descImg 9 2 8) { queue := [{ seq := 8 }] }) with
    | .next t => (getCtx t.dev 7).waiting.map (fun r => (r.seq, r.outcome, r.isAbort, r.aux)) | _ => []) = [(8, 1, false, 0), (9, 0, true, 8)] := by
  decide +kernel

theorem witness_LaunchStartJudgesTheHead :
    let st (l : Launch) (halt : Nat) (regs : List (Reg × Nat)) (more : List (RegKey × Nat)) : State :=
      let s := ctxState' { queue := [l] } regs more
      { s with dev := setTile s.dev 1439 { halt := halt } }
    let facts (l : Launch) (halt : Nat) (regs : List (Reg × Nat)) (more : List (RegKey × Nat)) (held pend halted : Bool) : Prop :=
      (st l halt regs more).dev.power = .running ∧ getCtx (st l halt regs more).dev 7 = { queue := [l] } ∧ ctxLoaded (st l halt regs more).dev 7 = true ∧
      launchesHeld (st l halt regs more).dev = held ∧ decide (rget (st l halt regs more).dev ⟨.CLK_CTX_FAIL_PEND, 7, 0, 0⟩ = 1) = pend ∧
      ctxHalted (st l halt regs more).dev 7 = halted
    let use : Launch := { useEn := true, useSlot := 3 }
    let fill : Launch := { fillEn := true, fillCtx := 7, fillSlot := 3 }
    let ep (v : Nat) : List (RegKey × Nat) := [(⟨.CLK_EP_STATE, 7, 3, 0⟩, v)]
    facts {} 0 [] [(⟨.LNK_HOIST_STATE, 0, 0, 0⟩, 4)] true false false ∧
    facts {} 0 [(.CLK_CTX_FAIL_PEND, 1)] [(⟨.LNK_HOIST_STATE, 0, 0, 0⟩, 4)] true true false ∧ facts {} 128 [(.CLK_CTX_FAIL_PEND, 1)] [] false true true ∧ facts {} 128 [] [] false false true ∧
    facts use 0 [] (ep 1) false false false ∧ epResident (st use 0 [] (ep 1)).dev 7 3 = false ∧
    facts fill 0 [] (ep 3) false false false ∧ fillAllowed (st fill 0 [] (ep 3)).dev fill = false ∧
    facts use 0 [] (ep 3) false false false ∧ epResident (st use 0 [] (ep 3)).dev 7 3 = true ∧
    facts fill 0 [] [] false false false ∧ fillAllowed (st fill 0 [] []).dev fill = true := by decide +kernel

theorem witness_LaunchStartBringsStateTwo :
    let s := ctxState' { queue := [{ seq := 2 ^ 32 - 1, entry := 6 }] } []
    s.dev.power = .running ∧ (getCtx s.dev 7).cur = none ∧ (getCtx s.dev 7).queue = [{ seq := 2 ^ 32 - 1, entry := 6 }] ∧ ctxLoaded s.dev 7 = true ∧
    launchesHeld s.dev = false ∧ rget s.dev ⟨.CLK_CTX_FAIL_PEND, 7, 0, 0⟩ = 0 ∧ ctxHalted s.dev 7 = false ∧
    (getStrm s.dev 1439 0 7).on = true := by decide +kernel

theorem witness_LaunchesEnd :
    let l : Launch := { seq := 8, started := true, deadline := 9000 }
    let wait : Ctx := { cur := some l, decided := true, waiting := [{ ready := false }] }
    let st (x : Ctx) : State := ctxState' x []
    let runs (x : Ctx) : Prop := (st x).dev.power = .running ∧ getCtx (st x).dev 7 = x
    let due (y : Launch) : Bool := y.seq = 8 && !y.late && y.deadline ≠ 2 ^ 64 - 1 && y.deadline ≤ 9000
    (runs { cur := some l } ∧ ctxHalted (st { cur := some l }).dev 7 = false ∧ allJudged (st { cur := some l }).dev 7 = true ∧
      (halvesOf (st { cur := some l }).dev 7).all (fun t => (getStrm (st { cur := some l }).dev t.1 t.2 7).endDone) = true) ∧
    ([({} : Launch)] ++ (some l).toList).find? due = some l ∧ runs { queue := [{}], cur := some l } ∧
    runs { wait with ending := .aborting } ∧ ctxQuiet (st { wait with ending := .aborting }).dev 7 = true ∧
    runs { wait with ending := .failing } ∧ ctxQuiet (st { wait with ending := .failing }).dev 7 = true := by decide +kernel

/-- A completed launch that leaves pennant 2 of its own at 1, in debug mode: one report of KIND 5 (R256). -/
theorem test_pennant_left : (match exec (.launchComplete 7)
      (ctxState' { cur := some { seq := 8, started := true } } [(.DBG_MODE, 1), (.DBG_HZ_EN, 1)]
        [(⟨.TILE_PEN_MASK, 1439, 7, 0⟩, 6), (⟨.TILE_PEN_COUNT, 1439, 2, 0⟩, 1), (⟨.TILE_PEN_COUNT, 1439, 3, 0⟩, 1)]) with
    | .next t => (rget t.dev ⟨.DBG_HZ_STATUS, 7, 0, 0⟩, rget t.dev ⟨.DBG_HZ_COUNT, 7, 0, 0⟩, (getCtx t.dev 7).decided) | _ => (0, 0, false)) =
    (16, 1, true) := by decide +kernel

/-- Rings of context 7 with registers written. -/
def ringState (x : Ctx) (regs : List (Reg × Nat)) : State := ctxState' x regs [reg0 .CFG_STATE 3]

theorem witness_DoorbellsFollowTheTable :
    let regs : List (Reg × Nat) := [(.RING_EN, 1), (.RING_GEN, 8191), (.RING_CMD_LOG2, 6), (.RING_CMD_CONS, 65535), (.RING_CMD_PROD, 3)]
    let s := ringState {} regs
    let get (r : Reg) : Nat := rget s.dev ⟨r, 7, 0, 0⟩
    let dist (v : Word) : Nat := (bitsOf v.toNat 15 0 + 65536 - get .RING_CMD_CONS % 65536) % 65536
    s.dev.power = .running ∧ tabokRuns s.dev = true ∧ get .RING_EN = 1 ∧ get .RING_GEN = 8191 ∧ get .RING_CMD_LOG2 = 6 ∧
    (get .RING_CMD_PROD + 65536 - get .RING_CMD_CONS % 65536) % 65536 = 4 ∧
    (∀ x ∈ [(2, 3), (3, 4), (4, 5), (62, 63), (63, 64)], ∃ v : Word, bitsOf v.toNat 18 16 = 7 ∧ bitsOf v.toNat 31 19 = 8191 ∧
      bitsOf v.toNat 15 0 = x.1 ∧ dist v = x.2) ∧
    bitsOf (0x0007FFFF : Word).toNat 31 19 ≠ 8191 := by
  refine ⟨by decide +kernel, by decide +kernel, by decide +kernel, by decide +kernel, by decide +kernel, by decide +kernel, ?_, by decide +kernel⟩
  intro x hx
  exact ⟨BitVec.ofNat 32 (x.1 + 7 * 2 ^ 16 + 8191 * 2 ^ 19), by revert x; decide +kernel⟩

theorem witness_DescriptorsAreFetched :
    let regs : List (Reg × Nat) := [(.RING_EN, 1), (.RING_CMD_LOG2, 6), (.RING_CMD_BASE, 2 ^ 36 - 4096), (.RING_CMD_PROD, 64), (.RING_CMD_EXPECT, 77)]
    let st (x : Ctx) : State := ringState x regs
    let get (x : Ctx) (r : Reg) : Nat := rget (st x).dev ⟨r, 7, 0, 0⟩
    let runs (x : Ctx) : Prop := (st x).dev.power = .running ∧ getCtx (st x).dev 7 = x
    let q : Ctx := { queue := List.replicate 63 {} }
    let f (m : Nat) : Fetch := { idx := 63, first := false, asked := 15, missed := m }
    let one (m : Nat) : Ctx := { fetches := [f m] }
    (runs q ∧ get q .RING_EN = 1 ∧ get q .RING_CMD_STOPPED = 0 ∧ q.fetchNext ≠ get q .RING_CMD_PROD ∧ q.queue.length + q.fetches.length + q.taken.length < 64) ∧
    (∀ m ∈ [14, 15], runs (one m) ∧ (one m).fetches.find? (fun y => y.idx = 63) = some (f m) ∧ 0 < (f m).out ∧ (f m).asked < 16 ∧
      get (one m) .RING_CMD_BASE + 63 % 2 ^ get (one m) .RING_CMD_LOG2 * 64 + 64 ≤ 2 ^ 36 ∧
      (get (one m) .RING_CMD_EXPECT + ringUsed 63 (get (one m) .RING_CMD_CONS)) % 2 ^ 32 = 140) ∧
    leNat (leBytes 140 64) % 2 ^ 32 = 140 ∧ leNat (leBytes 141 64) % 2 ^ 32 ≠ 140 ∧ tabokRuns (st q).dev = true := by decide +kernel

theorem witness_RecordsReachTabokMemory :
    let regs : List (Reg × Nat) := [(.RING_EN, 1), (.RING_CQ_LOG2, 6), (.RING_EQ_LOG2, 6), (.RING_CQ_BASE, 2 ^ 36 - 64 * 32), (.RING_EQ_BASE, 0),
      (.RING_CQ_PROD, 65535), (.RING_EQ_PROD, 65535), (.RING_CQ_CONS, 65500), (.RING_EQ_CONS, 65500)]
    let x : Ctx := { waiting := [{ seq := 4 }], evq := [{ type := 2, body := 5 }], dropped := 9 }
    let s := ringState x regs
    let get (r : Reg) : Nat := rget s.dev ⟨r, 7, 0, 0⟩
    s.dev.power = .running ∧ get .RING_EN = 1 ∧ getCtx s.dev 7 = x ∧ mayWriteDone s.dev 7 { seq := 4 } = true ∧ cqFree s.dev 7 ≠ 0 ∧ eqFree s.dev 7 ≠ 0 ∧
    get .RING_CQ_BASE + get .RING_CQ_PROD % 2 ^ get .RING_CQ_LOG2 * 32 + 32 = 2 ^ 36 ∧
    get .RING_EQ_BASE + get .RING_EQ_PROD % 2 ^ get .RING_EQ_LOG2 * 128 + 128 ≤ 2 ^ 36 := by decide +kernel

/-- The completion record's first words, and RING_CQ_PROD after it wraps. -/
theorem test_completionRecord : (match exec (.completionRecordWrite 7) (ringState { waiting := [{ seq := 0xABCD, outcome := 2, cause := 10, aux := 0x1234 }] }
      [(.RING_EN, 1), (.RING_CQ_LOG2, 6), (.RING_CQ_PROD, 65535), (.RING_CQ_CONS, 65500)]) with
    | .next t => (memNat t.dev.lp (63 * 32 + 4) 4, rget t.dev ⟨.RING_CQ_PROD, 7, 0, 0⟩) | _ => (0, 1)) = (0xABCD, 0) := by decide +kernel

theorem witness_RingRegisterWritesAreJudged :
    let sizes : List (Reg × Nat) := [(.RING_CMD_LOG2, 6), (.RING_CQ_LOG2, 6), (.RING_EQ_LOG2, 6)]
    let st (x : Ctx) (regs : List (Reg × Nat)) : State := ringState x regs
    let ok (x : Ctx) (regs : List (Reg × Nat)) (en : Nat) : Prop := (st x regs).dev.power = .running ∧ tabokRuns (st x regs).dev = true ∧
      getCtx (st x regs).dev 7 = x ∧ rget (st x regs).dev ⟨.RING_EN, 7, 0, 0⟩ = en
    let used (p k : Nat) : Nat := (p + 65536 - k % 65536) % 65536
    ok {} sizes 0 ∧ ringSetOk (st {} sizes).dev 7 = true ∧
    ok {} ((.RING_EN, 1) :: sizes) 1 ∧ ringClearOk (st {} ((.RING_EN, 1) :: sizes)).dev 7 = true ∧
    ok {} [(.TEST_DRAINED, 0)] 0 ∧ ringSetOk { (st {} []).dev with strms := [] } 7 = false ∧
    ok { queue := [{}] } ((.RING_EN, 1) :: sizes) 1 ∧ ringClearOk (st { queue := [{}] } ((.RING_EN, 1) :: sizes)).dev 7 = false ∧
    bitOf (1 : Word).toNat 0 = true ∧ bitOf (0 : Word).toNat 0 = false ∧
    used 3 65535 ≤ used 3 65535 ∧ used 3 65535 < used 3 65534 ∧
    ok { irqCq := true, irqEq := true } [] 0 ∧
    (let s : State := { dev := withRegs [reg0 .CFG_STATE 3] { irqLog := true } }; s.dev.power = .running ∧ s.dev.irqLog = true ∧ tabokRuns s.dev = true) := by
  decide +kernel

/-! Queue pairs, ports and HBM; witnesses. -/

/-- A work request of SEQ 5: operation, HBM address, remote address, length, key. -/
def wrImg (op local_ remote len key : Nat) : List Byte := leBytes (packFields [(32, 5), (8, op), (24, 0), (64, local_), (64, remote), (32, len), (32, key)]) 64

/-- Port 3 is up; queue pair 1,023 is enabled and has one request. -/
def qpState (l : List (RegKey × Nat)) (q : Qp) : State :=
  let s := serving ([(⟨.ETH_PORT_STATE, 3, 0, 0⟩, 2), (⟨.ETH_QP_EN, 3, 1023, 0⟩, 1), (⟨.ETH_QP_SQ_LOG2, 3, 1023, 0⟩, 6), (⟨.ETH_QP_CQ_LOG2, 3, 1023, 0⟩, 6),
    (⟨.ETH_QP_NVME, 3, 1023, 0⟩, 1), (⟨.ETH_QP_SEL, 3, 0, 0⟩, 1023)] ++ hbmUp ++ l)
  { s with dev := { setQp 3 1023 q s.dev with ethMask := 8 }, clk := { ns := 1000 } }

/-- HBM_CAP with nothing retired (R194). -/
theorem test_hbmCap : hbmCap (withRegs hbmUp) = 32 * 60 * 2 ^ 30 := by decide +kernel

theorem witness_WorkRequestsStartOnce :
    let s := qpState [] { cons := 65535, prod := 0, expect := 5 }
    let facts (wr : List Byte) (bad : Bool) : Prop := wrCase s.env s.dev 3 1023 (leNat wr) = .takes ∧ wrBad s.dev 3 1023 (leNat wr) = bad
    let top : Nat := 32 * 60 * 2 ^ 30
    s.dev.power = .running ∧ facts (wrImg 6 0 0 1 0) true ∧ facts (wrImg 1 0 0 0 0) true ∧ facts (wrImg 3 0 1 1 0) true ∧
    (∀ op ∈ [1, 2, 4, 5], facts (wrImg op (top - 2 ^ 6) 7 64 9) false ∧ wrOp (leNat (wrImg op (top - 2 ^ 6) 7 64 9)) = op ∧
      wrLocal (leNat (wrImg op (top - 2 ^ 6) 7 64 9)) + wrLen (leNat (wrImg op (top - 2 ^ 6) 7 64 9)) = hbmCap s.dev) ∧
    facts (wrImg 3 (2 ^ 36 - 64) 0 64 0) false ∧ wrOp (leNat (wrImg 3 (2 ^ 36 - 64) 0 64 0)) = 3 ∧
    wrLocal (leNat (wrImg 3 (2 ^ 36 - 64) 0 64 0)) + wrLen (leNat (wrImg 3 (2 ^ 36 - 64) 0 64 0)) = 2 ^ 36 := by decide +kernel

theorem witness_WorkRequestsStartOnce_read : ∃ bs, hbmRead (qpState [] { cons := 65535, prod := 0, expect := 5 }).dev (32 * 60 * 2 ^ 30 - 64) 64 = .ok bs :=
  hbmRead_ok (by decide +kernel) (by decide +kernel) (by decide +kernel)

theorem witness_QueuePairsAndPorts :
    let s := qpState [(⟨.ETH_MAX_FRAME, 3, 0, 0⟩, 1518), (⟨.ETH_PFC_EN, 3, 0, 0⟩, 128)] { cons := 65535, prod := 0, cqProd := 62, flights := [{ seq := 5 }] }
    let off := qpState [(⟨.ETH_QP_EN, 3, 1023, 0⟩, 0)] {}
    let down := qpState [(⟨.ETH_PORT_STATE, 3, 0, 0⟩, 1)] {}
    let bell (i : Nat) : Word := BitVec.ofNat 32 (i + 1023 * 2 ^ 16)
    let get (s : State) (r : Reg) : Nat := rget s.dev ⟨r, 3, 1023, 0⟩
    s.dev.power = .running ∧ tabokRuns s.dev = true ∧ off.dev.power = .running ∧ tabokRuns off.dev = true ∧ down.dev.power = .running ∧ tabokRuns down.dev = true ∧
    rget s.dev ⟨.ETH_QP_SEL, 3, 0, 0⟩ = 1023 ∧ rget off.dev ⟨.ETH_QP_SEL, 3, 0, 0⟩ = 1023 ∧
    get s .ETH_QP_EN = 1 ∧ ringUsed 0 65535 = 1 ∧ ringUsed 1 65535 = 2 ∧ ringUsed 62 65535 = 2 ^ get s .ETH_QP_SQ_LOG2 - 1 ∧
    bitsOf (bell 62).toNat 25 16 = 1023 ∧ bitsOf (bell 62).toNat 15 0 = 62 ∧
    get off .ETH_QP_EN = 0 ∧ (∀ en ∈ [0, 1], ∀ k ∈ [6, 16], log2Ok (bitsOf (BitVec.ofNat 32 (k + k * 256 + en * 2 ^ 16)).toNat 4 0) = true ∧
      log2Ok (bitsOf (BitVec.ofNat 32 (k + k * 256 + en * 2 ^ 16)).toNat 12 8) = true ∧
      bitOf (BitVec.ofNat 32 (k + k * 256 + en * 2 ^ 16)).toNat 16 = decide (en = 1)) ∧
    (∀ k ∈ [5, 17], ∀ en ∈ [0, 1], (log2Ok (bitsOf (BitVec.ofNat 32 (k + 6 * 256 + en * 2 ^ 16)).toNat 4 0) &&
      log2Ok (bitsOf (BitVec.ofNat 32 (k + 6 * 256 + en * 2 ^ 16)).toNat 12 8)) = false) ∧
    (getQp s.dev 3 1023).flights.find? (fun y => y.seq = 5) = some { seq := 5 } ∧ qpRoom s.dev 3 1023 = 1 ∧
    down.dev.ethMask.testBit 3 = true ∧ rget down.dev ⟨.ETH_PORT_STATE, 3, 0, 0⟩ ≤ 1 ∧ rget down.dev ⟨.CLK_DOM_STATE, 7, 0, 0⟩ ≠ 3 ∧
    portUp s.dev 3 = true ∧ portSends s.dev 3 = true ∧ (List.replicate 1518 (0 : Byte)).length ≤ rget s.dev ⟨.ETH_MAX_FRAME, 3, 0, 0⟩ := by
  decide +kernel

theorem test_doorbell_qp : (match exec (.ethDoorbell 3 (BitVec.ofNat 32 (62 + 1023 * 2 ^ 16))) (qpState [] { cons := 65535, prod := 0 }) with
    | .next t => (getQp t.dev 3 1023).prod | _ => 0) = 62 ∧
    (match exec (.ethDoorbell 3 (BitVec.ofNat 32 (63 + 1023 * 2 ^ 16))) (qpState [] { cons := 65535, prod := 0 }) with
    | .next t => (getQp t.dev 3 1023).prod | _ => 9) = 0 := by decide +kernel

/-- Stacks are ready; the last lines of HBM hold an entry, a bad line, a write on its way, an error that the code corrects and a
spoilt entry; the last words of the last gradient store are bad or hold an error that the code corrects. -/
def lastLine : Nat := 32 * 60 * 2 ^ 24 - 1
def spoilt : WcbEnt := { line := lastLine - 4, mask := 1, data := List.replicate 64 0xA5, bad := true }
def hbmState : State :=
  { dev := withRegs hbmUp { wcb := [{ line := lastLine, mask := 2 ^ 63, data := List.replicate 64 0xA5 }, spoilt], lineUE := [lastLine - 1],
                            slips := [⟨.hbm, lastLine - 3, 5⟩, ⟨.gs, 1440 * 2 ^ 19 - 2, 6⟩], gsUE := [1440 * 2 ^ 19 - 3],
                            hbmWr := [{ src := 6000, addr := 0, data := [1] }, { src := 0, addr := lastLine * 64, data := List.replicate 64 7 }] } }

/-- An entry's byte is seen before the stack's; the others are the stack's. -/
theorem test_hbmByte : hbmByte hbmState.dev (lastLine * 64 + 63) = 0xA5 ∧ hbmByte hbmState.dev (lastLine * 64 + 62) = 0 := by decide +kernel

theorem witness_WritesAreSeenThroughCombining :
    let d : Dev := { hbmState.dev with lineUE := [], wcb := hbmState.dev.wcb.take 1 }
    d.power = .running ∧ d.lineUE = [] ∧ (∀ w ∈ d.wcb, w.bad = false) ∧ (lastLine * 64 + 1) + (List.replicate 63 (3 : Byte)).length = hbmCap d := by
  exact ⟨by decide +kernel, rfl, by decide +kernel, by decide +kernel⟩

theorem witness_HbmReadsScrubsAndRetirement :
    let s := hbmState
    let at_ := lastLine * 64
    let ret (st mask pc : Nat) : State := serving (hbmUp ++ [(⟨.HBM_STACK_STATE, 19, 0, 0⟩, st), (⟨.HBM_PC_RETIRED, 19, 0, 0⟩, mask), (⟨.HBM_RETIRE_PC, 19, 0, 0⟩, pc)])
    let mig (q : Nat) : State := serving (hbmUp ++ [(⟨.HBM_STACK_STATE, 19, 0, 0⟩, 3)]) { migs := [(19, some (31, q))] }
    let get (s : State) (r : Reg) : Nat := rget s.dev ⟨r, 19, 0, 0⟩
    s.dev.power = .running ∧ isBad .clean = false ∧ isBad (.corrected 5) = false ∧ hbmRead s.dev at_ 64 ≠ .beyond ∧ hbmRead s.dev at_ 65 = .beyond ∧
    hbmRead s.dev (at_ - 64) 64 = .bad (at_ - 64) ∧ isBad (.uncorrectable 5) = true ∧
    s.dev.hbmWr[1]? = some { src := 0, addr := at_, data := List.replicate 64 7 } ∧ at_ + 64 ≤ hbmCap s.dev ∧
    (s.dev.hbmWr.take 1).any (fun v => v.src = 0 && hbmStack v.addr = hbmStack at_) = false ∧
    wcbOf s.dev lastLine = some { line := lastLine, mask := 2 ^ 63, data := List.replicate 64 0xA5 } ∧ hbmStack at_ < 20 ∧ s.dev.lineUE.contains lastLine = false ∧
    lastLine - 1 < 1920 * 2 ^ 24 ∧ wcbOf s.dev (lastLine - 1) = none ∧ lastLine - 2 < 1920 * 2 ^ 24 ∧ wcbOf s.dev (lastLine - 2) = none ∧
    s.dev.lineUE.contains (lastLine - 2) = false ∧ lineSlip s.dev (lastLine - 2) = none ∧ s.dev.lineUE.contains (lastLine - 1) = true ∧
    lastLine - 3 < 1920 * 2 ^ 24 ∧ wcbOf s.dev (lastLine - 3) = none ∧ s.dev.lineUE.contains (lastLine - 3) = false ∧ lineSlip s.dev (lastLine - 3) = some 5 ∧
    wcbOf s.dev (lastLine - 4) = some spoilt ∧ hbmStack ((lastLine - 4) * 64) < 20 ∧ spoilt.bad = true ∧
    storeNo .gradientStore ≠ 2 ∧ 2 ^ 19 - 1 < codedWords (storeCoded .gradientStore) ∧ storeIsBad .gradientStore (1440 * 2 ^ 19 - 1) s.dev = false ∧
    wordSlip s.dev .gs (1440 * 2 ^ 19 - 1) = none ∧ storeIsBad .gradientStore (1440 * 2 ^ 19 - 2) s.dev = false ∧
    wordSlip s.dev .gs (1440 * 2 ^ 19 - 2) = some 6 ∧ storeIsBad .gradientStore (1440 * 2 ^ 19 - 3) s.dev = true ∧
    (∀ x ∈ [(3, 0), (1, 0), (2, 2 ^ 31), (2, 255), (2, 127)], (ret x.1 x.2 31).dev.power = .running ∧ tabokRuns (ret x.1 x.2 31).dev = true ∧
      get (ret x.1 x.2 31) .HBM_STACK_STATE = x.1 ∧ get (ret x.1 x.2 31) .HBM_PC_RETIRED = x.2 ∧ get (ret x.1 x.2 31) .HBM_RETIRE_PC = 31) ∧
    popCount 255 32 = 8 ∧ popCount 127 32 = 7 ∧ Nat.testBit 127 31 = false ∧ Nat.testBit (2 ^ 31) 31 = true ∧
    (∀ q ∈ [0, migTop (mig 0).dev 19 - 1], (mig q).dev.power = .running ∧ tabokRuns (mig q).dev = true ∧ migOf (mig q).dev 19 = some (31, q)) ∧
    nextMove (mig 0).dev 19 (nextMove (mig 0).dev 19 0 64 + 1) 64 < migTop (mig 0).dev 19 ∧
    (let m := mig (migTop (mig 0).dev 19 - 1); migTop m.dev 19 ≤ nextMove m.dev 19 (nextMove m.dev 19 (migTop (mig 0).dev 19 - 1) 64 + 1) 64) := by decide +kernel

theorem witness_HbmReadsScrubsAndRetirement_read : ∃ bs, hbmRead hbmState.dev (lastLine * 64) 64 = .ok bs :=
  ⟨_, by rw [hbmRead, if_neg (by decide +kernel), show (linesOf (lastLine * 64) 64).find? (fun l => hbmState.dev.lineUE.contains l) = none from by decide +kernel,
    show (linesOf (lastLine * 64) 64).find? (wcbLost hbmState.dev (lastLine * 64) 64) = none from by decide +kernel]⟩

/-- A clean scrub of a word whose error the code corrects counts it and mends it; of a bad one, counts it again (R190, R192). -/
theorem test_tileScrub :
    let after (n : Nat) : Nat × Nat × Nat := match exec (.tileScrub 1439 .gradientStore (2 ^ 19 - n) .clean) hbmState with
      | .next t => (rget t.dev ⟨.TILE_GS_CE, 1439, 0, 0⟩, rget t.dev ⟨.TILE_GS_UE, 1439, 0, 0⟩, (t.dev.slips.filter (fun x => x.mem = .gs)).length)
      | _ => (9, 9, 9)
    after 1 = (0, 0, 1) ∧ after 2 = (1, 0, 0) ∧ after 3 = (0, 1, 1) := by decide +kernel

/-! Channels, arriving writes, the run coordinate and placement; witnesses. -/

/-- A channel descriptor: spaces, bits from BSWAP upwards, LEN; one run of each count, from 0 to 4,096. -/
def chImg (src dst flags len : Nat) : Nat :=
  packFields [(64, 0), (64, 4096), (3, src), (3, dst), (10, flags), (16, 0), (32, 0), (32, len), (32, 1), (64, 0), (32, 1), (64, 0), (32, 1), (64, 0)]

/-- Channel 3 of tile 1,439 as given; the tile is logical tile 5, context 7 has 16 pages of its store. -/
def chanState (ch : Chan) (regs : List (RegKey × Nat) := []) : State :=
  let s := serving ([(⟨.TILE_LOG_A, 1439, 0, 0⟩, 5), (⟨.TILE_TS_LIMIT, 1439, 7, 0⟩, 16), (⟨.TILE_LAND_MASK, 1439, 7, 0⟩, 2 ^ 15)] ++ hbmUp ++ regs)
  { s with dev := setChan (setStrm (inTs 1439 0 [1, 2, 3, 4] s.dev) 1439 0 7 { on := true }) 1439 3 ch }

def xfer (src dst len : Nat) : Xfer := { desc := chImg src dst 0 len, c := 7, idx := 5, issueNo := 1 }

/-- A read of half A's store where no word holds an error that its code corrects does nothing but deliver. -/
theorem pieceSeen_plain {e : Env} {p : Nat} {x : Xfer} {d : Dev} (hx : x.h = 0) (hs : chSrcSpace x.desc ≤ 1) (g : d.slips = []) : pieceSeen e p x d = d := by
  have same {α : Type} (f : Dev → α → Dev) (hf : ∀ a, f d a = d) (l : List α) : l.foldl f d = d := by
    induction l with
    | nil => rfl
    | cons a l ih => rw [List.foldl_cons, hf, ih]
  have far (o a : Nat) : locOf d p 0 x.c (chSrcSpace x.desc) o ≠ .hbm a := by
    unfold locOf; split <;> simp
  have seen : storeSeen e p 0 x.c (chSrcSpace x.desc) (pieceSrc x) (pieceLen x) (some (x.idx, x.issueNo)) d = d := by
    refine same _ (fun a => ?_) _
    unfold locSeen
    split <;> first | (simp [slipsIn, g]; done) | exact absurd (by assumption) (far _ _)
  rw [pieceSeen, if_neg (by omega), hx, seen, storeMet]
  refine same _ (fun a => ?_) _
  split
  · exact absurd (by assumption) (far _ _)
  · rfl

theorem writeHeld_same (e : Env) (p n : Nat) (d : Dev) : (writeHeld e p n d).arrivals = d.arrivals ∧ (writeHeld e p n d).slips = d.slips := by
  have h := sameButLog_satAdd e ⟨.TILE_DMA_STALLS, p, n, 0⟩ (Config.freeNat d.free) { d with free := d.free + 1 }
  exact ⟨h.arrivals, h.slips⟩

theorem witness_TransfersMoveThroughTheChannel :
    let x := xfer 0 0 4
    let up := xfer 0 2 4
    let pause (l : List (RegKey × Nat)) (ch : Chan) : State := chanState ch ((⟨.TILE_DMA_PAUSE, 1439, 3, 0⟩, 1) :: l)
    let done (n : Nat) : Xfer := { x with allSent := true, idx := n, complete := true }
    let full : Chan := { shd := some x, held := [x, x, x, done 1] }
    let get (s : State) (r : Reg) : Nat := rget s.dev ⟨r, 1439, 3, 0⟩
    let reads (s : State) (x : Xfer) (r : StoreRes) : Prop := storeRead s.dev 1439 x.h x.c (chSrcSpace x.desc) (pieceSrc x) (pieceLen x) = r
    (chanState full).dev.power = .running ∧ getChan (chanState full).dev 1439 3 = full ∧ get (chanState full) .TILE_DMA_PAUSE = 0 ∧ heldCount full = 3 ∧
      full.stopped.testBit 7 = false ∧ tabokRuns (chanState full).dev = true ∧
    chSrcSpace x.desc = 0 ∧ chDstSpace x.desc = 0 ∧ chLandEn x.desc = false ∧ reads (chanState { act := some x }) x (.ok [1, 2, 3, 4]) ∧
    chSrcSpace up.desc = 0 ∧ chDstSpace up.desc = 2 ∧ reads (chanState { act := some up }) up (.ok [1, 2, 3, 4]) ∧
    (let s := chanState { act := some x }; reads { s with dev := { s.dev with tsUE := [1439 * 2 ^ 18] } } x (.badStore 0 0)) ∧
    (let ch : Chan := { held := [{ x with allSent := true }] }; getChan (chanState ch).dev 1439 3 = ch ∧ xferOver { x with allSent := true } = true ∧ x.complete = false) ∧
    get (pause [] { act := some x }) .TILE_DMA_PAUSE = 1 ∧ get (pause [] { act := some x }) .TILE_DMA_PAUSED = 0 ∧
      (getChan (pause [] {}).dev 1439 3).act = none ∧ (getChan (pause [] { act := some x }).dev 1439 3).act = some x := by decide +kernel

/-- A piece into the tile's own store, with no write of the channel on its way and with one. -/
theorem witness_TransfersMoveThroughTheChannel_piece : ∀ b ∈ [true, false],
    let x := xfer 0 0 4
    let one : Arrival := { src := 1439 * 4 + 3, tile := 5, space := 0, off := 0, land := 15, data := [9] }
    let s := chanState { act := some x }
    let t : State := { s with dev := { s.dev with arrivals := if b then [one] else [] } }
    let read := pieceSeen t.env 1439 x (writeHeld t.env 1439 3 t.dev)
    read.arrivals.any (fun a => a.src = 1439 * 4 + 3) = b ∧ ∀ n, storeBeyond read 1439 x.h x.c (chDstSpace x.desc) (pieceDst x) n = none := by
  intro b _ x one s t read
  have k := writeHeld_same t.env 1439 3 t.dev
  have r : read = writeHeld t.env 1439 3 t.dev := pieceSeen_plain rfl (by decide +kernel) (k.2.trans rfl)
  refine ⟨?_, fun n => storeBeyond_halfA _ _ _ _ _ _⟩
  rw [r, k.1]
  cases b <;> rfl

/-- A response waits for a transfer that the channel holds. -/
theorem witness_TransfersMoveThroughTheChannel_answer :
    let x := { xfer 0 2 4 with unanswered := 1 }
    let s := chanState { held := [x] }
    let t : State := { s with dev := { s.dev with answers := [.channel 1439 3 7 0 5 1] } }
    t.dev.power = .running ∧ t.dev.answers = [.channel 1439 3 x.c x.h x.idx x.issueNo] ∧ (getChan t.dev 1439 3).held = [x] := by decide +kernel

/-- Writes that arrive at logical tile 5 for counter 15 (of context 7) and counter 14 (of none), at the ends of a share. -/
def arriveState (land off n : Nat) : State :=
  let s := serving [(⟨.TILE_LOG_A, 0, 0, 0⟩, 5), (⟨.TILE_TS_LIMIT, 0, 7, 0⟩, 16), (⟨.TILE_LAND_MASK, 0, 7, 0⟩, 2 ^ 15), (⟨.TILE_LAND_COUNT, 0, 15, 0⟩, 2 ^ 24 - 1)]
  { s with dev := { setStrm s.dev 0 0 7 { on := true } with arrivals := [{ src := 1, tile := 5, space := 0, off := 0, land := 15, data := [9] },
                                            { src := 2, tile := 5, space := 0, off := off, land := land, data := List.replicate n 9 }] } }

theorem witness_ArrivingWritesCommitOrAreRejected :
    let facts (land off n : Nat) (o : Option Nat) (ok : Bool) : Prop :=
      (arriveState land off n).dev.power = .running ∧ ((arriveState land off n).dev.arrivals[1]?).isSome = true ∧
      ((arriveState land off n).dev.arrivals.take 1).any (fun b => b.src = 2) = false ∧ placeOf (arriveState land off n).dev 5 = some (0, 0) ∧
      landOwner (arriveState land off n).dev 0 0 land = o ∧ hazOn (arriveState land off n).dev 7 = false ∧
      inShare (arriveState land off n).dev 0 0 7 0 off (off + n - 1) = ok ∧ storeBeyond (arriveState land off n).dev 0 0 7 0 off n = none ∧
      (arriveState land off n).dev.arrivals[1]?.map (·.out) = some false
    facts 15 65472 64 (some 7) true ∧ facts 15 65473 64 (some 7) false ∧ facts 14 65472 64 none true := by decide +kernel

/-- The counter wraps at 2^24 (R96). -/
theorem test_arrive : (match exec (.arrivingWriteCommit 1) (arriveState 15 65472 64) with
    | .next t => rget t.dev ⟨.TILE_LAND_COUNT, 0, 15, 0⟩ | _ => 0) = 63 := by decide +kernel

/-- Two logical tiles of context 7 with advances issued, the context pacing or not; the run coordinate. -/
def rcState (pacing : Bool) (a b : List Nat) (rc : Nat) (armed : List Armed := []) : State :=
  let d := withRegs [(⟨.TILE_LOG_A, 1438, 0, 0⟩, 0), (⟨.TILE_LOG_A, 1439, 0, 0⟩, 1)]
  let d := setStrm (setStrm d 1438 0 7 { on := true, advs := a }) 1439 0 7 { on := true, advs := b }
  { dev := { setCtx d 7 { pacing := pacing, pos := rc } with rc := rc, armed := armed } }

theorem witness_AdvanceGroupsAreJudged :
    let lim := (2 ^ 40 - 1) * 2 ^ 24
    let facts (pacing : Bool) (a b rc : Nat) : Prop :=
      let s := rcState pacing [a] [b] rc
      s.dev.power = .running ∧ s.dev.rcStopped = false ∧ groupValues s.dev 7 (getCtx s.dev 7).judged = some [some a, some b] ∧
      decide (pacingCtx s.dev = some 7) = pacing ∧ s.dev.rc = rc ∧ (getCtx s.dev 7).pos = rc
    (∀ pacing ∈ [true, false], facts pacing 6 6 5 ∧ facts pacing 6 7 5 ∧ facts pacing 5 5 5 ∧ facts pacing lim lim 5 ∧ facts pacing (lim - 1) (lim - 1) 5) ∧
    ([some 6, some 7].filterMap id).head? = some 6 ∧ rcStep (lim - 1) ≠ 2 ^ 40 - 1 ∧ rcStep lim = 2 ^ 40 - 1 := by decide +kernel

/-- Events at 6 and 7 while the coordinate goes to 6, or to a value that differs. -/
theorem witness_EventsFireWhenTheCoordinateReachesThem :
    let s := rcState true [6] [6] 5 [⟨255, 6, 7, 0, 1, false⟩, ⟨0, 7, 7, 0, 2, false⟩]
    s.dev.power = .running ∧ s.dev.rcStopped = false ∧ pacingCtx s.dev = some 7 ∧ groupValues s.dev 7 (getCtx s.dev 7).judged = some [some 6, some 6] ∧
    rcStep 6 ≠ 2 ^ 40 - 1 ∧ s.dev.rc < 6 ∧ ∀ x ∈ s.dev.armed, x.slot = 0 → 6 < x.coord := by decide +kernel

theorem test_events : (match exec .advanceGroupJudge (rcState true [6] [6] 5 [⟨255, 6, 4, 0, 1, false⟩, ⟨0, 7, 4, 0, 2, false⟩]) with
    | .next t => (t.dev.rc, t.dev.armed.map (fun a => (a.slot, a.fired))) | _ => (0, [])) = (6, [(255, true), (0, false)]) := by decide +kernel

/-- CLK_ARM registers, the table of armed events, the coordinate. -/
def armState (coord kind ctx rc : Nat) (armed : List Armed) (more : List (RegKey × Nat) := []) : State :=
  serving ([reg0 .CLK_ARM_COORD coord, reg0 .CLK_ARM_KIND kind, reg0 .CLK_ARM_CTX ctx] ++ more) { rc := rc, armed := armed }

/-- Which of the reasons of R38 hold for an arm request, by code. -/
def armReasons (s : State) : List Nat :=
  let coord := rget s.dev ⟨.CLK_ARM_COORD, 0, 0, 0⟩
  let kind := rget s.dev ⟨.CLK_ARM_KIND, 0, 0, 0⟩
  let ctx := rget s.dev ⟨.CLK_ARM_CTX, 0, 0, 0⟩
  (if 256 ≤ s.dev.armed.length then [1] else []) ++ (if kind = 0 ∨ 8 ≤ kind ∨ 9 ≤ bitsOf coord 23 20 then [2] else []) ++
  (if kindAllows kind coord = false then [3] else []) ++ (if coord ≤ s.dev.rc then [4] else []) ++
  (if s.dev.armed.any (fun a => !a.fired && a.kind = kind && a.ctx = ctx && a.coord = coord) then [5] else [])

theorem witness_ArmRequestsAreRefusedForTheLowestCode :
    let one : Armed := ⟨0, 8, 7, 7, 3, false⟩
    let full : List Armed := (List.range 256).map (fun k => ⟨k, 8, 7, 7, 3, false⟩)
    let facts (s : State) (l : List Nat) : Prop := s.dev.power = .running ∧ tabokRuns s.dev = true ∧ armReasons s = l
    facts (armState 8 7 7 8 full) [1, 4, 5] ∧ facts (armState 8 0 7 5 []) [2, 3] ∧ facts (armState (9 * 2 ^ 20) 7 7 5 []) [2] ∧
    facts (armState 8 3 7 5 []) [3] ∧ facts (armState 8 7 7 8 []) [4] ∧ facts (armState 8 7 7 7 [one]) [5] ∧ facts (armState 9 7 7 8 [one]) [] ∧
    facts (armState 9 7 7 8 (full.take 255)) [] := by decide +kernel

theorem witness_CancelsAndSetsAreJudged :
    let a (f : Bool) : Armed := ⟨255, 8, 7, 7, 3, f⟩
    let st (armed : List Armed) (v : Nat) : State := armState 0 0 0 0 armed [reg0 .CLK_ARM_SLOT 255, reg0 .CLK_RC_SET v]
    let busy (s : State) : Bool := (List.range 8).any (fun c => ctxState s.dev c = 2 || ctxState s.dev c = 4)
    let run (v : Nat) : State :=
      let s := st [] v
      { s with dev := setCtx (setStrm s.dev 1439 0 7 { on := true }) 7 { cur := some { started := true } } }
    (∀ f ∈ [true, false], (st [a f] 0).dev.power = .running ∧ tabokRuns (st [a f] 0).dev = true ∧
      (st [a f] 0).dev.armed.find? (fun x => x.slot = rget (st [a f] 0).dev ⟨.CLK_ARM_SLOT, 0, 0, 0⟩) = some (a f)) ∧
    (∀ x ∈ (st [{ a true with slot := 254 }] 0).dev.armed, x.slot ≠ 255) ∧
    rcPhase (rget (st [] (9 * 2 ^ 20)).dev ⟨.CLK_RC_SET, 0, 0, 0⟩) = 9 ∧ rcPhase (rget (run (9 * 2 ^ 20 - 1)).dev ⟨.CLK_RC_SET, 0, 0, 0⟩) = 8 ∧
    (run (9 * 2 ^ 20 - 1)).dev.power = .running ∧ tabokRuns (run (9 * 2 ^ 20 - 1)).dev = true ∧ busy (run (9 * 2 ^ 20 - 1)) = true ∧
    busy (st [] (9 * 2 ^ 20 - 1)) = false := by decide +kernel

theorem witness_PlacementsChangeAndSnapshotsAreWritten :
    let m : Move := { fromP := 1439, fromH := 0, toP := 0, toH := 0 }
    let back : Move := { fromP := 0, fromH := 0, toP := 1439, toH := 0 }
    let move : State := { dev := withRegs ([(⟨.TILE_LOG_A, 1439, 0, 0⟩, 5), (⟨.TILE_STATE, 1439, 0, 0⟩, 1), (⟨.TILE_STATE, 0, 0, 0⟩, 1)]) { placeDue := [7, 9] } }
    let undo : State := { dev := withRegs ([(⟨.TILE_LOG_A, 0, 0, 0⟩, 5), (⟨.TILE_STATE, 1439, 0, 0⟩, 1), (⟨.TILE_STATE, 0, 0, 0⟩, 1)]) { undo := [[back]] } }
    let snap (a n : Nat) : State := { dev := withRegs [reg0 .MON_SNAP_ADDR a, reg0 .MON_SNAP_FRAMES 1] { snap := some { num := 3, data := List.replicate n 0 } } }
    let at_ (s : State) : Nat := rbase s.dev ⟨.MON_SNAP_ADDR, 0, 0, 0⟩ + 0x8000 * (3 % rget s.dev ⟨.MON_SNAP_FRAMES, 0, 0, 0⟩)
    State.reset.dev.power = .running ∧ State.reset.dev.undo = [] ∧ State.reset.dev.placeDue = [] ∧
    [m].all (fun m => m.fromP < 1440 && m.fromH < 2 && m.toP < 1440 && m.toH < 2) = true ∧ move.dev.power = .running ∧ move.dev.undo = [] ∧ move.dev.placeDue = [7, 9] ∧
    movesOk move.dev [m] = true ∧ transfersOver move.dev = true ∧ placeQuiet move.dev 1439 0 = true ∧
    undo.dev.power = .running ∧ undo.dev.undo = [[back]] ∧ undo.dev.placeDue = [] ∧ movesOk undo.dev [back] = true ∧ movesQuiet undo.dev [back] = true ∧
    (snap 0 64).dev.power = .running ∧ inTabok (at_ (snap 0 64)) 64 = true ∧ inTabok (at_ (snap (2 ^ 36 - 0x8000) 128)) 128 = true ∧
    inTabok (at_ (snap (2 ^ 36) 64)) 64 = false := by decide +kernel

/-- A placement that changed at coordinate 7 is taken back once the coordinate is set to 6, and waits again for 7 (R43). -/
theorem test_placement_back :
    let s : State := { dev := withRegs ([reg0 .CFG_STATE 3, (⟨.TILE_LOG_A, 1439, 0, 0⟩, 5), (⟨.TILE_STATE, 1439, 0, 0⟩, 1), (⟨.TILE_STATE, 0, 0, 0⟩, 1),
      reg0 .CLK_RC_SET 6]) { rc := 7, placeDue := [7], armed := [⟨0, 7, 2, 7, 1, true⟩] } }
    let go (i : Instr) (s : State) : State := match exec i s with | .next t => t | _ => s
    let logs (s : State) : Nat × Nat := (rget s.dev ⟨.TILE_LOG_A, 1439, 0, 0⟩, rget s.dev ⟨.TILE_LOG_A, 0, 0, 0⟩)
    let moved := go (.placementChange [{ fromP := 1439, fromH := 0, toP := 0, toH := 0 }] []) s
    let set := go .clkRcSetGo moved
    logs moved = (0xFFFF, 5) ∧ set.dev.rc = 6 ∧ set.dev.armed.map (·.fired) = [false] ∧
    logs (go (.placementChange [] []) set) = (5, 0xFFFF) := by decide +kernel

/-! Links, packets, the hoist; witnesses. -/

/-- Link 35 in a state with contents, and registers; the Tabok cores run. -/
def linkState (st : Nat) (l : Link) (regs : List (RegKey × Nat) := []) : State :=
  let s := serving ((⟨.LNK_STATE, 35, 0, 0⟩, st) :: regs)
  { s with dev := setLink s.dev 35 l, clk := { ft := 2 ^ 20 } }

/-- A block whose flit has the header given, an empty area, and the CRC and parity bytes given. -/
def blockWith (header : Nat) (tail : List Nat) : List Byte :=
  leBytes header 8 ++ List.replicate 420 0 ++ tail.map (BitVec.ofNat 8)

/-- A sequenced flit of FSEQ 4,095, a NULL flit, and the first with another CRC: the CRC, then the parity of both codewords. -/
def seqBlock : List Byte := blockWith 4095 [185, 241, 182, 2, 203, 99, 66, 250, 205, 48, 140, 145, 49, 137, 44, 184, 148, 184, 136, 116]
def nullBlock : List Byte := blockWith (2 ^ 26) [39, 232, 189, 49, 249, 66, 3, 227, 179, 233, 206, 85, 87, 165, 195, 80, 152, 177, 163, 54]

/-- A fold over a long list, each result computed before the next. -/
def run {β : Type} (f : Nat → β → Nat) : List β → Nat → Nat
  | [], x => x
  | b :: bs, x => match f x b with
    | 0 => run f bs 0
    | n + 1 => run f bs (n + 1)

theorem match_self {α : Type} (g : Nat → α) (y : Nat) : (match y with | 0 => g 0 | n + 1 => g (n + 1)) = g y := by cases y <;> rfl

theorem run_eq {β : Type} (f : Nat → β → Nat) (bs : List β) (x : Nat) : bs.foldl f x = run f bs x := by
  induction bs generalizing x with
  | nil => rfl
  | cons b bs ih => rw [List.foldl_cons, ih]; exact (match_self (run f bs) (f x b)).symm

/-- CRC-32C of the first 428 bytes of a flit against what stands after them. -/
def crcOk (block : List Byte) : Bool := (run crcByte (block.take 428) 0xFFFFFFFF ^^^ 0xFFFFFFFF) = leNat ((block.drop 428).take 4)

/-- The syndromes of a codeword are 0. -/
def synOk (cs : List Nat) : Bool := [0, 1, 2, 3, 4, 5, 6, 7].all (fun i => run (fun a k => gfMul a (gfPow 2 i) ^^^ k) cs 0 = 0)

theorem synOk_eq (cs : List Nat) : (rsSyndromes cs).all (· = 0) = synOk cs := by
  unfold rsSyndromes synOk
  rw [List.all_map]
  show [0, 1, 2, 3, 4, 5, 6, 7].all _ = _
  congr 1
  funext i
  simp only [Function.comp, gfEval, run_eq]

/-- Both codewords of a block of 448 bytes are right. -/
def codeOk (block : List Byte) : Bool :=
  decide (block.length = 448) && synOk ((alternate true (block.take 432) ++ (block.drop 432).take 8).map (·.toNat)) &&
  synOk ((alternate false (block.take 432) ++ (block.drop 440).take 8).map (·.toNat))

/-- The two halves of a flit, put together again. -/
theorem weave_alternate : ∀ l : List Byte, weave (alternate true l) (alternate false l) = l
  | [] => rfl
  | [a] => rfl
  | a :: b :: l => by simp [alternate, weave, weave_alternate l]
theorem alternate_length : ∀ l : List Byte, (alternate true l).length = (l.length + 1) / 2 ∧ (alternate false l).length = l.length / 2
  | [] => by decide
  | [a] => by simp [alternate]
  | a :: b :: l => by
    have h := alternate_length l
    simp only [alternate, List.length_cons, h]
    omega
theorem rsDecode_clean {bs : List Byte} (h : (rsSyndromes (bs.map (·.toNat))).all (· = 0) = true) : rsDecode bs = some (bs, false) := by
  unfold rsDecode; rw [if_pos h]
/-- A block whose codewords are right gives its flit. -/
theorem flit_clean {block : List Byte} (h : codeOk block = true) : flitOf block = (block.take 432, 0, 0) := by
  simp only [codeOk, Bool.and_eq_true, decide_eq_true_eq, ← synOk_eq] at h
  obtain ⟨⟨n, h0⟩, h1⟩ := h
  have l := alternate_length (block.take 432)
  have k : (block.take 432).length = 432 := by simp [n]
  have a : (alternate true (block.take 432)).length = 216 := by omega
  have b : (alternate false (block.take 432)).length = 216 := by omega
  unfold flitOf
  simp only [rsDecode_clean h0, rsDecode_clean h1]
  simp [a, b, weave_alternate, b2n]

/-- What the clauses on a received flit ask of a block. -/
theorem flit_facts {block : List Byte} (g : codeOk block = true) :
    (crc32c ((flitOf block).1.take 428) = leNat (((flitOf block).1.drop 428).take 4) ↔ crcOk block = true) ∧ (flitOf block).2.2 = 0 := by
  have x : ((block.take 432).drop 428).take 4 = (block.drop 428).take 4 := by rw [List.drop_take, List.take_take]; rfl
  refine ⟨?_, by rw [flit_clean g]⟩
  rw [flit_clean g, crc32c, run_eq, x, List.take_take, crcOk, decide_eq_true_eq]
  exact Iff.rfl

/-- A block of zeros has a good code and a wrong CRC. -/
theorem test_zero_block : codeOk (List.replicate 448 0) = true ∧ crcOk (List.replicate 448 0) = false := by decide +kernel
theorem test_flit : codeOk seqBlock = true ∧ crcOk seqBlock = true := by decide +kernel
theorem test_flit_null : codeOk nullBlock = true ∧ crcOk nullBlock = true := by decide +kernel

/-- The same, for a block whose CRC is right. -/
theorem flit_good {block : List Byte} (h : codeOk block = true ∧ crcOk block = true) :
    crc32c ((flitOf block).1.take 428) = leNat (((flitOf block).1.drop 428).take 4) ∧ (flitOf block).2.2 = 0 :=
  ⟨(flit_facts h.1).1.mpr h.2, (flit_facts h.1).2⟩

/-- The header that FLIT_RX finds in a block. -/
theorem flit_head {block : List Byte} (h : codeOk block = true) : leNat ((flitOf block).1.take 8) = leNat (block.take 8) := by
  rw [flit_clean h, List.take_take]; rfl

theorem witness_flit_taken : crc32c ((flitOf seqBlock).1.take 428) = leNat (((flitOf seqBlock).1.drop 428).take 4) ∧ (flitOf seqBlock).2.2 = 0 :=
  flit_good test_flit
theorem witness_flit_null : crc32c ((flitOf nullBlock).1.take 428) = leNat (((flitOf nullBlock).1.drop 428).take 4) ∧ (flitOf nullBlock).2.2 = 0 :=
  flit_good test_flit_null
theorem witness_flit_bad : ¬ crc32c ((flitOf (List.replicate 448 0)).1.take 428) = leNat (((flitOf (List.replicate 448 0)).1.drop 428).take 4) := fun h =>
  Bool.false_ne_true (test_zero_block.2.symm.trans ((flit_facts test_zero_block.1).1.mp h))
theorem witness_flit_heads : (leNat ((flitOf seqBlock).1.take 8)).testBit 26 = false ∧ bitsOf (leNat ((flitOf seqBlock).1.take 8)) 11 0 = 4095 ∧
    (leNat ((flitOf nullBlock).1.take 8)).testBit 26 = true := by
  rw [flit_head test_flit.1, flit_head test_flit_null.1]; decide +kernel

theorem witness_FlitsAreSentReplayedAndTaken :
    let f (sends : Nat) : Flit := { seq := 3, sends := sends }
    let idle := linkState 2 { rxNext := 4095 }
    let busy (sends : Nat) (resend : Option Nat) : State := linkState 2 { rxNext := 4095, replay := [f 1, f sends], resend := resend }
    idle.dev.power = .running ∧ linkUp idle.dev 35 = true ∧ (getLink idle.dev 35).rxNext = 4095 ∧
    (busy 9 (some 1)).dev.power = .running ∧ linkUp (busy 9 (some 1)).dev 35 = true ∧ (getLink (busy 9 (some 1)).dev 35).replay[1]? = some (f 9) ∧
    (getLink idle.dev 35).resend = none ∧ (getLink (busy 9 none).dev 35).replay ≠ [] ∧ (f 9).sends ≥ 9 := by decide +kernel

theorem witness_OnlyTheExpectedFlitIsAccepted : linkUp (linkState 2 { rxNext := 4095 }).dev 35 = true ∧
    (getLink (linkState 2 { rxNext := 4095 }).dev 35).rxNext = 4095 ∧ (getLink (linkState 2 { rxNext := 0 }).dev 35).rxNext = 0 := by decide +kernel

/-- A packet with the largest fields. -/
def wholePkt : Pkt := { dst := 65535, src := 65535, vc := 3, dlc := 1, type := 63, birth := 65535, body := 2 ^ 64 - 1, e2e := 2 ^ 32 - 1, data := List.replicate 496 0xFF }

theorem witness_PacketsReadBackFromTheirBytes : ∀ p ∈ [wholePkt, {}], p.dst < 2 ^ 16 ∧ p.src < 2 ^ 16 ∧ p.vc < 4 ∧ p.dlc < 2 ∧ p.type < 2 ^ 6 ∧
    p.birth < 2 ^ 16 ∧ p.body < 2 ^ 64 ∧ p.e2e < 2 ^ 32 ∧ p.data.length % 16 = 0 ∧ p.data.length < 512 := by decide +kernel

theorem test_packets : takePkts 2 ([wholePkt, {}].flatMap pktBytes) = [wholePkt, {}] := by decide +kernel

theorem witness_LinksTrainRetrainStopAndLoseTheirClock :
    let retire (st m : Nat) : State := linkState st {} [(⟨.LNK_LANE_RETIRE, 35, 0, 0⟩, m)]
    let at_ (s : State) : Nat := rget s.dev ⟨.LNK_STATE, 35, 0, 0⟩
    let mask (d : Dev) : Dev := { d with linkMask := 2 ^ 35 }
    let again := linkState 0 { again := true } [(⟨.LNK_EN, 35, 0, 0⟩, 1)]
    (∀ st ∈ [0, 1, 2, 3, 4], (retire st 15).dev.power = .running ∧ tabokRuns (retire st 15).dev = true ∧ at_ (retire st 15) = st ∧
      linkAllowed (retire st 15).dev 35 = false ∧ linkAllowed (mask (retire st 15).dev) 35 = true ∧
      lanesUp (retire st 15).dev 35 8 = 4 ∧ lanesUp (retire st 15).dev 35 3 = 3 ∧ lanesUp (retire st 31).dev 35 8 = 3) ∧
    again.dev.power = .running ∧ at_ again = 0 ∧ rget again.dev ⟨.LNK_EN, 35, 0, 0⟩ = 1 ∧ (getLink again.dev 35).again = true := by decide +kernel

/-- A control packet of a type at the head of link 35. -/
def ctlState' (type body : Nat) (data : List Byte) (measures : Nat) (regs : List (RegKey × Nat)) : State :=
  linkState 2 { rx := [{ pkt := sealPkt { vc := 3, type := type, body := body, data := data } }], measures := measures } regs

/-- The packet taken from that link. -/
def ctlTaken (s : State) (type : Nat) (P : Pkt → Dev → Bool) : Bool := (takeCtl s.dev 35 type).any (fun x => P x.1 x.2)

theorem witness_LinkControlPacketsAct :
    let up := linkState 2 {} [(⟨.LNK_HOIST_CHILD, 0, 0, 0⟩, 2 ^ 35), (⟨.CLK_FT_SYNCED, 0, 0, 0⟩, 1)]
    let parent (synced : Nat) : List (RegKey × Nat) := [(⟨.LNK_HOIST_PARENT, 0, 0, 0⟩, 35), (⟨.CLK_FT_SYNCED, 0, 0, 0⟩, synced)]
    let mine (d : Dev) : Bool := rget d ⟨.LNK_HOIST_PARENT, 0, 0, 0⟩ = 35
    up.dev.power = .running ∧ linkUp up.dev 35 = true ∧ ftSynced up.dev = true ∧ (rget up.dev ⟨.LNK_HOIST_CHILD, 0, 0, 0⟩).testBit 35 = true ∧
    ctlTaken (ctlState' 0x20 0 (List.replicate 16 0) 0 []) 0x20 (fun _ _ => true) = true ∧
    ctlTaken (ctlState' 0x25 0 [] 1 []) 0x25 (fun p _ => !p.body.testBit 16) = true ∧
    (∀ n ∈ [1, 2], ctlTaken (ctlState' 0x25 (2 ^ 16) [] n []) 0x25 (fun p d => p.body.testBit 16 && decide ((getLink d 35).measures - 1 = n - 1)) = true) ∧
    ctlTaken (ctlState' 0x21 0 (List.replicate 32 0) 0 []) 0x21 (fun _ _ => true) = true ∧
    ctlTaken (ctlState' 0x22 7 [] 0 []) 0x22 (fun _ d => !mine d) = true ∧
    ctlTaken (ctlState' 0x22 (2 ^ 20) [] 0 (parent 0)) 0x22 (fun p d => mine d && !ftSynced d && decide (2 ^ 20 ≤ p.body)) = true ∧
    ctlTaken (ctlState' 0x22 (2 ^ 20 - 1) [] 0 (parent 0)) 0x22 (fun p d => mine d && !ftSynced d && decide (p.body < 2 ^ 20)) = true ∧
    ctlTaken (ctlState' 0x22 7 [] 0 (parent 1)) 0x22 (fun _ d => mine d && ftSynced d) = true ∧
    (∀ x ∈ [(5, 0), (0, 5), (0, -5), (0, 0)], ({ hold := x.1, trim := x.2 } : Clock).hold = x.1 ∧ ({ hold := x.1, trim := x.2 } : Clock).trim = x.2) := by
  decide +kernel

/-- A parent found 100 ns ahead after 1 ms: the rate is 100 ppm more (R45, R46), and a loss of REFCLK100_A keeps it (R383). -/
theorem test_rate :
    let s : State := { ctlState' 0x22 (2 ^ 20 + 100) [] 0 [(⟨.LNK_HOIST_PARENT, 0, 0, 0⟩, 35), (⟨.CLK_FT_SYNCED, 0, 0, 0⟩, 1)] with
      clk := { ns := 1000000, ft := 2 ^ 20 } }
    (match exec (.time 35) s with | .next t => (t.clk.rate, t.clk.trim) | _ => (0, 0)) = (100, 100) ∧
    (match exec .refclk100ALoss { s with clk := { ft := 2 ^ 20, rate := 100 } } with | .next t => (t.clk.rate, t.clk.trim) | _ => (0, 0)) = (100, 0) := by
  decide +kernel

/-- Fabric time of an aligned child is corrected by its rate, that of another steps. -/
theorem test_time : (match exec (.time 35) (ctlState' 0x22 (2 ^ 21) [] 0 [(⟨.LNK_HOIST_PARENT, 0, 0, 0⟩, 35), (⟨.LNK_DELAY, 35, 0, 0⟩, 160)]) with
    | .next t => (t.clk.ft, t.clk.trim) | _ => (0, 0)) = (2 ^ 21 + 10, 0) := by decide +kernel

/-- A hoist of ID 9 in a state, with a parent link and child 35, wired or not. -/
def hoistAt (st parent wired type : Nat) (arrived : Bool := false) : State :=
  let s := ctlState' type 9 [] 0 [(⟨.LNK_HOIST_STATE, 0, 0, 0⟩, st), (⟨.LNK_HOIST_ID, 0, 0, 0⟩, 9), (⟨.LNK_HOIST_PARENT, 0, 0, 0⟩, parent),
    (⟨.LNK_HOIST_CHILD, 0, 0, 0⟩, 2 ^ 35), (⟨.LNK_HOIST_WIRED, 0, 0, 0⟩, wired)]
  { s with dev := { s.dev with hoistArrived := arrived } }

theorem witness_HoistsRunAsTheirTableStates :
    let own (p : Pkt) (d : Dev) : Bool := decide (rget d ⟨.LNK_HOIST_WIRED, 0, 0, 0⟩ ≠ 1 ∧ bitsOf p.body 7 0 = rget d ⟨.LNK_HOIST_ID, 0, 0, 0⟩)
    let down (p : Pkt) (d : Dev) : Bool := own p d && decide (rget d ⟨.LNK_HOIST_STATE, 0, 0, 0⟩ = 2 ∧ rget d ⟨.LNK_HOIST_PARENT, 0, 0, 0⟩ = 35)
    let get (s : State) (r : Reg) : Nat := rget s.dev ⟨r, 0, 0, 0⟩
    (∀ st ∈ [0, 1, 2], (hoistAt st 63 0 0x23).dev.power = .running ∧ tabokRuns (hoistAt st 63 0 0x23).dev = true ∧ get (hoistAt st 63 0 0x23) .LNK_HOIST_STATE = st ∧
      (hoistAt st 63 0 0x23 true).dev.hoistArrived = true) ∧
    ctlTaken (hoistAt 1 63 0 0x23) 0x23 own = true ∧ ctlTaken (hoistAt 1 63 1 0x23) 0x23 (fun p d => !own p d) = true ∧
    ctlTaken (hoistAt 2 35 0 0x24) 0x24 down = true ∧ ctlTaken (hoistAt 1 35 0 0x24) 0x24 (fun p d => !down p d) = true ∧
    get (hoistAt 1 63 1 0x23) .LNK_HOIST_WIRED = 1 ∧ pinsTaken (hoistAt 1 63 1 0x23).dev = false := by decide +kernel

theorem witness_TheRootPassesTheHoistDown :
    let ready (parent : Nat) (p : Pkt) (d : Dev) : Bool := decide (rget d ⟨.LNK_HOIST_WIRED, 0, 0, 0⟩ = 0 ∧ bitsOf p.body 7 0 = rget d ⟨.LNK_HOIST_ID, 0, 0, 0⟩ ∧
      rget d ⟨.LNK_HOIST_STATE, 0, 0, 0⟩ = 1 ∧ d.hoistArrived = false ∧ (∀ m ∈ hoistChildren d, m = 35 ∨ m * 256 + rget d ⟨.LNK_HOIST_ID, 0, 0, 0⟩ ∈ d.hoistUps) ∧ rget d ⟨.LNK_HOIST_PARENT, 0, 0, 0⟩ = parent)
    (hoistAt 1 63 0 0x23).dev.power = .running ∧ ctlTaken (hoistAt 1 63 0 0x23) 0x23 (ready 63) = true ∧ ctlTaken (hoistAt 1 0 0 0x23) 0x23 (ready 0) = true ∧
    ctlTaken (hoistAt 1 35 0 0x23) 0x23 (ready 35) = true := by decide +kernel

/-- The packet at the head of link 35, addressed here, its E2E right or not. -/
def pktState (p : Pkt) (good : Bool) (tags : List (Nat × WrOwner) := []) : State :=
  let q := sealPkt { p with dst := 77, src := 5 }
  let s := linkState 2 { rx := [{ pkt := if good then q else { q with e2e := q.e2e + 1 } }] } [(⟨.LNK_MY_ADDR, 0, 0, 0⟩, 77), (⟨.LNK_ROUTE_EN, 0, 0, 0⟩, 1)]
  { s with dev := { s.dev with tags := tags } }

/-- The packet taken where it ends here. -/
def pktTaken (s : State) (v type : Nat) (P : Pkt → Dev → Bool) : Bool :=
  (takeHead s.dev 35 v (fun x => x.pkt.type = type && routeOf s.dev 35 x = .here)).any (fun x => P x.1.pkt x.2)

theorem witness_RoutedPacketsEndOrRunOut :
    let whole (p : Pkt) : Bool := pktE2E p = p.e2e
    let w : Pkt := { vc := 0, dlc := 1, type := 1, data := List.replicate 16 0 }
    let a (type body : Nat) : Pkt := { vc := 1, dlc := 1, type := type, body := body + 65535 * 2 ^ 48 }
    let tag : List (Nat × WrOwner) := [(65535, .channel 1439 3 7 0 5 1)]
    let held (p : Pkt) (d : Dev) : Bool := (d.tags.find? (fun x => x.1 = bitsOf p.body 63 48)).isSome
    (pktState w true).dev.power = .running ∧ pktTaken (pktState w false) 1 1 (fun p _ => !whole p) = true ∧
    pktTaken (pktState (a 2 0) false) 3 2 (fun p _ => !whole p) = true ∧ pktTaken (pktState (a 3 0) false) 3 3 (fun p _ => !whole p) = true ∧
    pktTaken (pktState w true) 1 1 (fun p _ => whole p && writeOk p) = true ∧
    pktTaken (pktState { w with data := [] } true) 1 1 (fun p _ => whole p && !writeOk p) = true ∧
    pktTaken (pktState (a 2 0) true tag) 3 2 (fun p d => whole p && held p d && decide (bitsOf p.body 1 0 = 0)) = true ∧
    pktTaken (pktState (a 2 1) true tag) 3 2 (fun p d => whole p && held p d && decide (bitsOf p.body 1 0 ≠ 0)) = true ∧
    pktTaken (pktState (a 2 0) true) 3 2 (fun p d => whole p && d.tags.isEmpty) = true ∧ pktTaken (pktState (a 3 0) true tag) 3 3 (fun p _ => whole p) = true ∧
    ((getLink (pktState w true).dev 35).rx.filter (fun x => pktVc x.pkt = 1))[0]?.isSome = true ∧
    ((getLink (ctlState' 0x20 0 [] 0 []).dev 35).rx.filter (fun x => pktVc x.pkt = 6))[0]?.isSome = true ∧
    (pktState w true tag).dev.tags.find? (fun x => x.1 = 65535) = some (65535, .channel 1439 3 7 0 5 1) ∧ (pktState w true).dev.tags = [] := by
  decide +kernel

/-! Collectives; witnesses. -/

/-- An entry of a table (R324): operation, phase, identifier, layer, first rank, members, length of a shard. -/
def colEntry (op phase id layer first members slen pieces : Nat) : Nat :=
  packFields [(4, op), (4, phase), (8, 0), (16, id), (10, 0), (10, layer), (12, 0), (16, first), (16, 1), (16, members - 1), (16, 0),
    (64, 0), (64, 4096), (40, slen), (24, 0), (21, 0), (11, 0), (32, pieces), (64, 0)]

/-- The table of context 7: its last entry is next; 15 collectives are open; position 5; own rank 2. -/
def walkState (en : Nat) (table : Nat) : State :=
  let d := withRegs ([(⟨.LNK_COL_TBL, 7, 0, 0⟩, table), (⟨.LNK_COL_TBL_N, 7, 0, 0⟩, 3), (⟨.LNK_MY_RANK, 0, 0, 0⟩, 2)] ++ hbmUp)
  let d := setCtx (setStrm { d with hbm := memWrite [] (table + 128) (leBytes en 64) } 1439 0 7 { on := true }) 7 { pos := 5, walkNext := 2 }
  { dev := { d with cols := (List.range 15).map (fun k => { handle := k, c := 7 }) } }

/-- What COLLECTIVE_ENTRY_START finds: its turn, and the entry. -/
def walkFacts (s : State) (P : Option Nat → Bool) : Bool :=
  let d := nextWalk 7 s.dev
  let x := getCtx d 7
  decide (s.dev.power = .running) && ctxLoaded s.dev 7 && decide (tableSize s.dev 7 ≠ 0) &&
  decide (x.walkNext < tableSize d 7 ∧ x.walkStep ≤ rcStep (colPos d 7) ∧ (d.cols.filter (fun y => y.c = 7)).length < 16) &&
  let at_ := rbase d ⟨.LNK_COL_TBL, 7, 0, 0⟩ + 64 * x.walkNext
  match hbmRead d at_ 64 with
  | .ok bs => decide (myRank (updCtx (hbmDone s.env at_ 64 d) 7 (fun x => { x with walkNext := x.walkNext + 1 })) = 2) && P (some (leNat bs))
  | _ => P none

/-- A collective as given, the Tabok cores serving; a context runs or not. -/
def colState (xs : List Col) (busy : Bool) (regs : List (RegKey × Nat)) : State :=
  let s := serving (regs ++ hbmUp)
  let d : Dev := { s.dev with cols := xs }
  { s with dev := if busy then setCtx (setStrm d 1439 0 7 { on := true }) 7 { cur := some { started := true } } else d }

theorem witness_CollectivesStartAndEnd :
    let member (en : Nat) : Option Nat := enMember 2 en
    let x (c : Nat) : Col := { handle := 9, c := c, streams := [{ total := 3, moved := [(0, 3)] }] }
    let y : Col := { handle := 9, c := 7, streams := [{ total := 3, moved := [(0, 2)], started := true }] }
    let plan (n : Nat) : List (RegKey × Nat) := [(⟨.TEST_RCP_PIECES, 0, 0, 0⟩, n)]
    let free (s : State) : Bool := (List.range 8).all (fun c => ctxState s.dev c = 0 || ctxState s.dev c = 1 || ctxState s.dev c = 3)
    let ok (s : State) : Bool := decide (s.dev.power = .running) && tabokRuns s.dev
    walkFacts (walkState (colEntry 1 0 8 5 2 2 16 0) 8192) (fun r => r.any (fun en => enTrigger 0 en ≤ 5 && member en = some 0)) = true ∧
    walkFacts (walkState (colEntry 1 0 8 5 3 2 16 0) 8192) (fun r => r.any (fun en => enTrigger 0 en ≤ 5 && member en = none)) = true ∧
    walkFacts (walkState (colEntry 1 0 8 6 2 2 16 0) 8192) (fun r => r.any (fun en => 5 < enTrigger 0 en)) = true ∧
    walkFacts (walkState (colEntry 1 0 8 5 2 2 16 0) (32 * 60 * 2 ^ 30 - 64)) (fun r => r.isNone) = true ∧
    (∀ c ∈ [7, 8], (colState [x c] false []).dev.power = .running ∧ (colState [x c] false []).dev.cols[0]? = some (x c) ∧
      colOver (colState [x c] false []).dev (x c) = true) ∧
    (colState [y] false []).dev.cols[0]? = some y ∧ y.streams.any (fun z => z.started && unfinished (colState [y] false []).dev y z) = true ∧
    ok (colState [] false (plan 1)) = true ∧ free (colState [] false (plan 1)) = true ∧ rget (colState [] false (plan 1)).dev ⟨.TEST_RCP_STATE, 0, 0, 0⟩ ≠ 1 ∧
      enMalformed (recoveryImage (colState [] false (plan 1)).dev) = false ∧ idOpen (colState [] false (plan 1)).dev (recoveryImage (colState [] false (plan 1)).dev) = false ∧
    enMalformed (recoveryImage (colState [] false []).dev) = true ∧ free (colState [] false []) = true ∧
    ok (colState [] true (plan 1)) = true ∧ free (colState [] true (plan 1)) = false ∧
    rget (colState [] false [(⟨.TEST_RCP_STATE, 0, 0, 0⟩, 1)]).dev ⟨.TEST_RCP_STATE, 0, 0, 0⟩ = 1 ∧
    ok (colState [x 8] false []) = true ∧ (colState [x 8] false []).dev.cols.find? (fun z => z.c = 8) = some (x 8) := by decide +kernel

/-- A collective packet at the head of link 35, of step 3 and identifier 8, while a collective may be open. -/
def comesState (vc type : Nat) (xs : List Col) (regs : List (RegKey × Nat)) : State :=
  let p := sealPkt { dst := 77, src := 5, vc := vc, dlc := 1, type := type, body := 3 + 8 * 2 ^ 44 }
  let s := linkState 2 { rx := [{ pkt := p }] } ([(⟨.LNK_MY_ADDR, 0, 0, 0⟩, 77), (⟨.LNK_ROUTE_EN, 0, 0, 0⟩, 1)] ++ regs)
  { s with dev := { s.dev with cols := xs } }

/-- How the packet finds the collectives: the identifier open, of the same round, awaited. -/
def comesFacts (s : State) (vc type : Nat) : Option (Bool × Bool × Bool) :=
  match takeHere s.env 35 (2 * vc + 1) type s.dev with
  | (some p, d) =>
    let x := d.cols.find? (fun y => enId y.img = bitsOf p.body 59 44)
    some (x.isSome, x.any (fun y => bitsOf p.body 43 0 = bitsOf (colKey y) 43 0), awaited d (bitsOf p.body 59 0))
  | _ => none

theorem witness_CollectivePacketsAreMatched :
    let x (step : Nat) : Col := { handle := 9, c := 7, img := colEntry 1 0 8 5 2 2 16 0, step := step }
    (∀ t ∈ [(2, 4), (1, 5), (2, 6), (1, 7)], (comesState t.1 t.2 [] []).dev.power = .running ∧
      comesFacts (comesState t.1 t.2 [x 3] []) t.1 t.2 = some (true, true, false) ∧ comesFacts (comesState t.1 t.2 [x 4] []) t.1 t.2 = some (true, false, false) ∧
      comesFacts (comesState t.1 t.2 [] []) t.1 t.2 = some (false, false, false)) ∧
    comesFacts (comesState 1 5 [] [(⟨.TEST_RCP_ID, 0, 0, 0⟩, 8), (⟨.TEST_RCP_STEP, 0, 0, 0⟩, 3), (⟨.TEST_RCP_PIECES, 0, 0, 0⟩, 1)]) 1 5 = some (false, false, true) := by
  decide +kernel

theorem witness_OrderedSumsAddElementByElement : (List.replicate 400 (0 : Byte)).length = 4 * 100 := by decide +kernel

/-- 1.5 + 0.5 and the largest number twice, which saturates. -/
theorem test_orderedSum : let r := addBytes 2 0 (leBytes 0x3FC00000 4 ++ leBytes 0x7FFFFFFF 4) (leBytes 0x3F000000 4 ++ leBytes 0x7FFFFFFF 4)
    (leNat (r.1.take 4), leNat (r.1.drop 4), r.2.1) = (0x40000000, 0x7FFFFFFF, true) := by decide +kernel

/-! Power; witnesses. -/

/-- Registers of the PWR block, clock steps. -/
def pwrState (regs : List (Reg × Nat)) (kOver therm : Nat) (p : Power := .running) : State :=
  let s := serving (regs.map (fun r => reg0 r.1 r.2))
  { s with dev := { s.dev with power := p, kOver := kOver, kTherm := therm } }

/-- A record of context 7 on tile 1,439 that asks for a token: NOP with TOKEN 1, the tile mapped, one token to give. -/
def tokenState : State :=
  { dev := inWindow 1439 0 7 [{ idx := 5, raw := mkRec 1 0x20 0 true true false true + 2 ^ 11 }] (withRegs
      [(⟨.TILE_STATE, 1439, 0, 0⟩, 1), (⟨.TILE_TS_LIMIT, 1439, 7, 0⟩, 16), (⟨.PWR_CTX_FIG, 7, 0, 0⟩, 1), reg0 .PWR_BUDGET_W 4000, reg0 .PWR_RESERVE_W 1600,
       reg0 .PWR_TOKEN_COST 25]) }

theorem test_capacity : capacity tokenState.dev = 1 ∧ powerTerm tokenState.dev = 1536 := by decide +kernel

/-- The record is the only one that asks, and a token is free. -/
theorem witness_tokenGrant : (let d := noteAllAsks tokenState.env tokenState.dev
    (tokenAsks d).map (fun y => (y.p, y.h, y.c, y.idx)) = [(1439, 0, 7, 5)] ∧ tokensHeld d < capacity d ∧
    ∀ x ∈ tokenAsks d, ∀ y ∈ tokenAsks d, grantBefore y x = false) ∧ tokenState.dev.power = .running ∧ placeOk 1439 0 7 = true := by decide +kernel

theorem foldl_max_eq (l : List Int) (a m : Int) (ha : a ≤ m) (hl : ∀ x ∈ l, x ≤ m) (hm : a = m ∨ m ∈ l) : l.foldl max a = m := by
  induction l generalizing a with
  | nil => simpa using hm
  | cons b bs ih =>
    have hb := hl b (by simp)
    refine ih (max a b) (by omega) (fun x hx => hl x (by simp [hx])) ?_
    rcases hm with h | h
    · left; omega
    · rcases List.mem_cons.mp h with h | h
      · left; omega
      · exact .inr h

theorem hottest_eq (d : Dev) (m : Int) (h : (allTiles.map (sensorAt d)).all (· ≤ m) = true) (hm : (allTiles.map (sensorAt d)).contains m = true)
    (h0 : sensorAt d 0 ≤ m) : hottest d = m :=
  foldl_max_eq _ _ _ h0 (fun x hx => of_decide_eq_true (List.all_eq_true.mp h x hx)) (.inr (by simpa using hm))

/-- Every sensor but that of tile 1,439 reads 0. -/
def hotState (v : Nat) (limit : Nat) : State := { dev := { withRegs [reg0 .PWR_TJ_THROTTLE limit] with sensors := [(1439, v)] } }

theorem hottest_hot : hottest (hotState 800 800).dev = 800 := hottest_eq _ _ (by decide +kernel) (by decide +kernel) (by decide +kernel)
theorem hottest_cold : hottest (hotState 1 42).dev = 1 := hottest_eq _ _ (by decide +kernel) (by decide +kernel) (by decide +kernel)

theorem witness_PowerArbitrationFollowsItsInputs :
    let get (s : State) (r : Reg) : Nat := rget s.dev ⟨r, 0, 0, 0⟩
    let above (w k : Nat) : State := pwrState [(.PWR_BUDGET_W, 3000), (.PWR_INPUT_W, w)] k k
    ((∀ k ∈ [0, 1, 13, 14], (above 3001 k).dev.power = .running ∧ tabokRuns (above 3001 k).dev = true ∧ budget (above 3001 k).dev < get (above 3001 k) .PWR_INPUT_W ∧
      (above 3001 k).dev.kOver = k ∧ get (above 3000 k) .PWR_INPUT_W ≤ budget (above 3000 k).dev) ∧
    (above 3001 13).dev.calNext = none ∧ ({ (above 3001 13).dev with calNext := some (1, 2) } : Dev).calNext = some (1, 2) ∧
    pinsTaken (above 3001 13).dev = false ∧ pinsTaken { (above 3001 13).dev with jtag := { instr := .highz } } = true ∧
    (∀ v ∈ [0, 1], get (pwrState [(.PWR_THROTTLED, v), (.PWR_SHED, v)] 0 0) .PWR_THROTTLED = v ∧ get (pwrState [(.PWR_THROTTLED, v), (.PWR_SHED, v)] 0 0) .PWR_SHED = v) ∧
    (BitVec.ofNat 32 2000).toNat % 8192 = 2000 ∧ (BitVec.ofNat 32 4000).toNat % 8192 = 4000 ∧ (BitVec.ofNat 32 4001).toNat % 8192 = 4001 ∧
    (BitVec.ofNat 32 1999).toNat % 8192 = 1999) ∧
    (get (hotState 800 800) .PWR_TJ_THROTTLE : Int) ≤ hottest (hotState 800 800).dev ∧ (hotState 800 800).dev.power = .running ∧
    hottest (hotState 1 42).dev < (get (hotState 1 42) .PWR_TJ_THROTTLE : Int) - 40 ∧ (hotState 1 42).dev.power = .running :=
  ⟨by decide +kernel, by rw [hottest_hot]; decide +kernel, by decide +kernel, by rw [hottest_cold]; decide +kernel, by decide +kernel⟩

/-- A sample shows watts and millivolts (R385). -/
theorem test_powerSample : (match exec (.powerSample 4200 40000 [39999, 12001]) (pwrState [] 0 0) with
    | .next t => [rget t.dev ⟨.PWR_INPUT_W, 0, 0, 0⟩, rget t.dev ⟨.PWR_INPUT_MV, 0, 0, 0⟩, rget t.dev ⟨.PWR_RAIL_MV, 0, 0, 0⟩,
        rget t.dev ⟨.PWR_RAIL_MV, 1, 0, 0⟩, rget t.dev ⟨.PWR_PEAK_SEEN, 0, 0, 0⟩] | _ => []) = [4200, 40000, 39999, 12001, 0] := by decide +kernel

/-- TCLK at clock step 4 of 16: 1,750 MHz × 12 / 16 (R373). -/
theorem test_clockStep : (match exec .clockStepApply (pwrState [] 4 0) with
    | .next t => rget t.dev ⟨.CLK_DOM_MHZ, 0, 0, 0⟩ | _ => 0) = 1312 := by decide +kernel

theorem witness_SuppliesAndResetRule :
    let get (r : Reg) : Int := (rget (pwrState [] 0 0).dev ⟨r, 0, 0, 0⟩ : Int)
    let out (mv target : Nat) : Prop := 100000 * mv < 95 * target ∨ 105 * target < 100000 * mv
    let on : State := serving [(⟨.TEST_L_STATE, 15, 0, 0⟩, 2), (⟨.TEST_L_TILE, 15, 0, 0⟩, 1439), (⟨.TEST_L_VDROP, 15, 0, 0⟩, 100)]
    let ins (x : Inputs) (p : Power) : State := { (pwrState [] 0 0 p) with dev := { (pwrState [] 0 0 p).dev with inputs := x } }
    (¬ out 11400 12000000 ∧ out 11399 12000000 ∧ ¬ out 12600 12000000 ∧ out 12601 12000000 ∧ out 664 700000 ∧ ¬ out 665 700000 ∧
      out 736 700000 ∧ ¬ out 735 700000 ∧ out 598 630000 ∧ ¬ out 599 630000) ∧
    (lovageRuns on.dev).find? (fun k => lovageTile on.dev k = 1439) = some 15 ∧ 700 * (1000 - rget on.dev ⟨.TEST_L_VDROP, 15, 0, 0⟩) = 630000 ∧
    (∀ k ∈ lovageRuns (pwrState [] 0 0).dev, lovageTile (pwrState [] 0 0).dev k ≠ 1439) ∧
    pinsTaken (pwrState [] 0 0 .softStart).dev = false ∧ pinsTaken { (pwrState [] 0 0 .softStart).dev with jtag := { instr := .clamp } } = true ∧
    (∀ b ∈ [true, false], (ins { rst := b, throttle := b, vin := b } .softStart).dev.inputs.rst = b ∧
      (ins { rst := b, throttle := b, vin := b } .softStart).dev.power = .softStart) ∧
    ({ (pwrState [] 0 0 .off).dev with mated := false } : Dev).mated = false ∧
    (pwrState [] 0 0).dev.power = .running ∧ get .PWR_TJ_TRIP ≤ (0x7FFF : BitVec 16).toInt ∧ get .PWR_TJ_HBM_TRIP ≤ (0x7FFF : BitVec 16).toInt ∧
    (0x8000 : BitVec 16).toInt < get .PWR_TJ_TRIP ∧ (pwrState [] 0 0 .off).dev.power = .off ∧ (pwrState [] 0 0 .off).dev.mated = true ∧
    (pwrState [] 0 0 .softStart).dev.power = .softStart ∧ (pwrState [] 0 0 .inReset).dev.power = .inReset ∧ (pwrState [] 0 0).dev.fuseOp = none := by
  decide +kernel

/-- A rail 5 % from its nominal value is no fault, one farther off is (R379); so is a band below what its run asks for. -/
theorem test_railFault :
    let bad (i : Instr) (s : State) : Nat := match exec i s with | .next t => t.dev.logNext | _ => 9
    let on : State := serving [(⟨.TEST_L_STATE, 15, 0, 0⟩, 2), (⟨.TEST_L_TILE, 15, 0, 0⟩, 1439), (⟨.TEST_L_VDROP, 15, 0, 0⟩, 100)]
    bad (.railFault 1 11400 none) on = 0 ∧ bad (.railFault 1 11399 none) on = 1 ∧ bad (.railFault 2 630 (some 1439)) on = 0 ∧
    bad (.railFault 2 630 (some 1438)) on = 1 := by decide +kernel

/-- The supplies and the reset pass one after the other, and the straps are latched. -/
theorem test_powerUp : (match exec (.modRstNDeassert 35 9) (pwrState [] 0 0 .inReset) with
    | .next t => (t.dev.power, rget t.dev ⟨.CFG_SLOT_ID, 0, 0, 0⟩) | _ => (.off, 0)) = (.running, 35) := by decide +kernel

/-! Boot, fuses, images and switch-over; witnesses. -/

/-- A running module in a CFG_STATE, with registers of blocks without an index. -/
def bootState (st : Nat) (regs : List (Reg × Nat)) (d : Dev := {}) (nv : NonVol := {}) (ns : Nat := 0) : State :=
  { dev := withRegs (reg0 .CFG_STATE st :: regs.map (fun r => reg0 r.1 r.2)) d, nv := nv, clk := { ns := ns } }

theorem witness_FusesAndImagesAreJudged :
    let st (regs : List (Reg × Nat)) (d : Dev) (nv : NonVol) : State := bootState 2 regs d nv
    let adv (t svn : Nat) : State := st [(.SEC_ARB_TARGET, t)] {} { arbCount := 4, slotA := { svn := svn } }
    let burn : State := st [(.SEC_OWNER_SLOT, 3), (.SEC_OWNER_HASH, 1)] {} {}
    let revoke (slot burned : Nat) : State := st [(.SEC_OWNER_SLOT, slot)] {} { ownerBurned := burned }
    tabokRuns (adv 5 5).dev = true ∧ (adv 5 5).dev.fuseOp = none ∧
    (4 < rget (adv 5 5).dev ⟨.SEC_ARB_TARGET, 0, 0, 0⟩ ∧ rget (adv 5 5).dev ⟨.SEC_ARB_TARGET, 0, 0, 0⟩ ≤ 5) ∧
    rget (adv 64 64).dev ⟨.SEC_ARB_TARGET, 0, 0, 0⟩ = 64 ∧ rget (adv 65 70).dev ⟨.SEC_ARB_TARGET, 0, 0, 0⟩ = 65 ∧
    rget (adv 5 5).dev ⟨.SEC_FW_PENDING, 0, 0, 0⟩ = 0 ∧
    (st [] { fuseOp := some (.advance 5) } {}).dev.fuseOp ≠ none ∧
    rget burn.dev ⟨.SEC_OWNER_SLOT, 0, 0, 0⟩ = 3 ∧ burn.nv.ownerBurned.testBit 3 = false ∧ hashBytes burn.dev .SEC_OWNER_HASH = 1 :: List.replicate 31 0 ∧
    (revoke 0 3).nv.ownerBurned.testBit 1 = true ∧ (revoke 0 3).nv.ownerRevoked.testBit 1 = false ∧ (revoke 1 3).nv.ownerBurned.testBit 2 = false ∧
    (∀ v ∈ [0, 1], rget (st [(.SEC_VERIFY_BUSY, v)] {} {}).dev ⟨.SEC_VERIFY_BUSY, 0, 0, 0⟩ = v ∧ rget (st [(.SEC_ATT_STATE, v), (.SEC_ID_PRESENT, v)] {} {}).dev ⟨.SEC_ATT_STATE, 0, 0, 0⟩ = v ∧
      rget (st [(.SEC_ID_PRESENT, v)] {} {}).dev ⟨.SEC_ID_PRESENT, 0, 0, 0⟩ = v) ∧
    rget (st [(.SEC_IMG_KIND, 3)] { packLoad := some (0, 0) } {}).dev ⟨.SEC_IMG_KIND, 0, 0, 0⟩ = 3 ∧
    (inTabok (2 ^ 36 - 456) (List.replicate 456 (0 : Byte)).length = true ∧ inTabok (2 ^ 36 - 1024) 1024 = true) ∧
    inTabok (2 ^ 36 - 392) ((({ addr := 2 ^ 36 - 392 } : Report)).body.length + 392) = true ∧
    (st [(.SEC_ATT_STATE, 3)] { report := some {} } {}).dev.report ≠ none ∧ (st [(.SEC_ATT_STATE, 3)] {} {}).dev.report = none ∧
    rget (st [(.SEC_ATT_STATE, 3)] {} {}).dev ⟨.SEC_ATT_STATE, 0, 0, 0⟩ ≠ 1 := by decide +kernel

theorem witness_ServicesAreReplacedLive :
    let st (wait : Nat) (regs : List (Reg × Nat)) (d : Dev := {}) : State := bootState 3 regs { d with fwWait := wait }
    let uc (p v : Nat) : State := { st 0 [(.SEC_UC_TILE, p)] { ucHeld := some {} } with dev := withRegs [(⟨.TILE_STATE, p, 0, 0⟩, v)] (st 0 [(.SEC_UC_TILE, p)] { ucHeld := some {} }).dev }
    (∀ w ∈ [0, 1, 2], (st w [(.SEC_FW_SWITCHING, 1)]).dev.fwWait = w ∧ rget (st w [(.SEC_FW_SWITCHING, 1)]).dev ⟨.SEC_FW_SWITCHING, 0, 0, 0⟩ = 1 ∧
      tabokRuns (st w [(.SEC_FW_SWITCHING, 1)]).dev = true ∧ (st w []).dev.power = .running ∧ (st w []).dev.fwDead = false) ∧
    (∀ v ∈ [1, 3], (uc 1439 v).dev.ucHeld = some {} ∧ rget (uc 1439 v).dev ⟨.SEC_UC_TILE, 0, 0, 0⟩ = 1439 ∧ tileState (uc 1439 v).dev 1439 = v) ∧
    tileState (uc 1439 2).dev 1439 = 2 ∧ rget (uc 1440 1).dev ⟨.SEC_UC_TILE, 0, 0, 0⟩ = 1440 ∧ (st 0 []).dev.ucHeld = none ∧
    (st 0 [] { ucLoad := [(1439, 3, {})] }).dev.ucLoad = (1439, 3, {}) :: [] ∧
    (st 0 [] { ucLoad := [(1439, 3, {}), (0, 1, {})] }).dev.ucLoad = (1439, 3, {}) :: [(0, 1, {})] ∧
    (st 0 [] { calHeld := some ({}, 7, [1]) }).dev.calHeld = some ({}, 7, [1]) := by decide +kernel

theorem witness_TestsMarkDrainLoadAndRun :
    let st (regs : List (RegKey × Nat)) (d : Dev := {}) : State := serving regs d
    let slot (v : Nat) (d : Dev := {}) : State := st [(⟨.TEST_L_STATE, 15, 0, 0⟩, v)] d
    let may : State := st [(⟨.TEST_L_TILE, 15, 0, 0⟩, 1439), (⟨.TILE_STATE, 1439, 0, 0⟩, 1), reg0 .TEST_RUN_MAX 1]
    let judged : Dev := { lovPack := [(15, [{ expect := 5 }, { expect := 7 }])] }
    let warm (v : Nat) : State := st [(⟨.TEST_L_STATE, 15, 0, 0⟩, 1), (⟨.TEST_L_TILE, 15, 0, 0⟩, 1439), (⟨.TEST_L_TJ, 15, 0, 0⟩, 800)] { sensors := [(1439, v)] }
    let hot (s : State) : Bool := decide ((rget s.dev ⟨.TEST_L_TJ, 15, 0, 0⟩ : Int) - 16 ≤ sensorAt s.dev (lovageTile s.dev 15))
    (∀ k ∈ [0x0703, 0x0705], rget (st [reg0 .TEST_MARK_CLASS k]).dev ⟨.TEST_MARK_CLASS, 0, 0, 0⟩ = k ∧ k ∈ markClasses) ∧
    rget (st [reg0 .TEST_MARK_CLASS 0x0604]).dev ⟨.TEST_MARK_CLASS, 0, 0, 0⟩ = 0x0604 ∧ 0x0604 ∈ markClasses ∧
    rget (st []).dev ⟨.TEST_MARK_CLASS, 0, 0, 0⟩ ∉ markClasses ∧ (∀ c < 8, ctxState (st []).dev c = 0) ∧
    ctxState (inWindow 1439 0 7 [] (st []).dev) 7 ≠ 0 ∧
    (st []).dev.packLoad = none ∧ (st []).dev.verify = none ∧ (st [] { packLoad := some (64, 128) }).dev.packLoad = some (64, 128) ∧
    (st [] { verify := some { kind := 3 } }).dev.verify = some { kind := 3 } ∧
    lovageMay may.dev 15 = true ∧ lovageMay (slot 1).dev 15 = false ∧
    (∀ v ∈ [0, 1, 2, 3, 4, 5], rget (slot v).dev ⟨.TEST_L_STATE, 15, 0, 0⟩ = v) ∧
    hot (warm 784) = true ∧ hot (warm 783) = false ∧ rget (warm 784).dev ⟨.TEST_L_STATE, 15, 0, 0⟩ = 1 ∧
    firstDiff 0 ((tblGet (slot 2 judged).dev.lovPack 15 []).map (·.expect)) [5, 7] = none ∧
    firstDiff 0 ((tblGet (slot 2 judged).dev.lovPack 15 []).map (·.expect)) [5, 8] = some 1 ∧
    tabokRuns may.dev = true ∧ may.dev.power = .running := by decide +kernel

theorem witness_MonitorsAndTheLogDrain :
    let st (regs : List (RegKey × Nat)) (d : Dev := {}) : State := serving regs d
    let snap (c : Nat) (w : Option Snap) : State := st [reg0 .MON_SNAP_FRAMES 4, reg0 .MON_SNAP_CLEAR c] { snap := w }
    let ring (en : Nat) : State := st [reg0 .LOG_DRAIN_EN en, reg0 .LOG_RING_LOG2 6, reg0 .LOG_RING_BASE (2 ^ 36 - 128), reg0 .LOG_RING_PROD 64] { log := [{}] }
    (st [] { samples := [{}] }).dev.samples = {} :: [] ∧
    (∀ c ∈ [0, 1], rget (snap c none).dev ⟨.MON_SNAP_FRAMES, 0, 0, 0⟩ ≠ 0 ∧ (snap c none).dev.snap = none ∧ rget (snap c none).dev ⟨.MON_SNAP_CLEAR, 0, 0, 0⟩ = c) ∧
    (snap 0 (some ⟨0, []⟩)).dev.snap ≠ none ∧
    logOldest (st [reg0 .LOG_DRAIN_EN 1, reg0 .LOG_RING_LOG2 6] { log := [{}] }).dev = some {} ∧
    drainFree (st [reg0 .LOG_DRAIN_EN 1, reg0 .LOG_RING_LOG2 6] { log := [{}] }).dev ≠ 0 ∧
    (∀ v ∈ [0, 1], rget (ring v).dev ⟨.LOG_DRAIN_EN, 0, 0, 0⟩ = v) ∧ rget (ring 1).dev ⟨.LOG_RING_LOG2, 0, 0, 0⟩ = 6 ∧
    bitsOf (BitVec.ofNat 32 5).toNat 4 0 = 5 ∧ bitsOf (BitVec.ofNat 32 17).toNat 4 0 = 17 ∧ bitsOf (BitVec.ofNat 32 (256 + 6)).toNat 4 0 = 6 ∧
    (BitVec.ofNat 32 (256 + 16)).toNat.testBit 8 = true ∧ (BitVec.ofNat 32 6).toNat.testBit 8 = false ∧
    consOk 64 0 64 = true ∧ consOk 64 0 65 = false ∧ rget (ring 1).dev ⟨.LOG_RING_CONS, 0, 0, 0⟩ = 0 ∧ rget (ring 1).dev ⟨.LOG_RING_PROD, 0, 0, 0⟩ = 64 ∧
    tabokRuns (ring 1).dev = true := by decide +kernel

/-! Management and test ports, the register window, and the statements on every command; witnesses. -/

/-- The I3C port with an address. -/
def portState (p : Power) (addr : Option Nat) (regs : List (Reg × Nat)) : State :=
  let s := bootState 3 regs
  { s with dev := { s.dev with power := p, i3c := { s.dev.i3c with addr := addr } } }

theorem witness_ManagementAndTestPortsAnswer :
    (∀ p ∈ [Power.inReset, Power.running], (portState p none []).dev.power = p ∧ (portState p none []).dev.i3c.addr = none ∧
      (portState p none []).dev.i3c.hotJoinOn = true ∧ (portState p none []).dev.i3c.hotJoinMade = false ∧ (portState p (some 8) []).dev.i3c.addr ≠ none) ∧
    (∀ v ∈ [0, 1], rget (portState .running (some 8) [(.CFG_MBOX_OUT_FULL, v)]).dev ⟨.CFG_MBOX_OUT_FULL, 0, 0, 0⟩ = v ∧
      rget (portState .running (some 8) [(.CFG_MBOX_IN_FULL, v)]).dev ⟨.CFG_MBOX_IN_FULL, 0, 0, 0⟩ = v) ∧
    pinsTaken (portState .inReset none []).dev = false ∧ pinsTaken { (portState .inReset none []).dev with jtag := { instr := .extest } } = true ∧
    rget (portState .running (some 8) [(.CFG_MBOX_OUT_LEN, 5)]).dev ⟨.CFG_MBOX_OUT_LEN, 0, 0, 0⟩ = 5 ∧ 6 < 5 + 2 ∧ 5 + 2 ≤ 7 ∧
    (0xFF : BitVec 8).toNat ∉ [0x00, 0x01, 0x02, 0x04, 0x05, 0x20] ∧
    tabokRuns (portState .running (some 8) []).dev = true ∧ ¬ (1 ≤ 0) ∧ 256 < 257 := by decide +kernel

/-- A read of the mailbox that ends early leaves it full; one to the end empties it (R434). -/
theorem test_mboxRead : ∀ n ∈ [6, 7], (match exec (.mboxRead n) (portState .running (some 8) [(.CFG_MBOX_OUT_FULL, 1), (.CFG_MBOX_OUT_LEN, 5)]) with
    | .next t => rget t.dev ⟨.CFG_MBOX_OUT_FULL, 0, 0, 0⟩ | _ => 9) = 7 - n := by decide +kernel

/-- Another command byte is not acknowledged (R434). -/
theorem test_regRead_command : (match exec (.regRead 0 0x55) (portState .inReset (some 8) []) with | .next t => t.dev.outbox | _ => []) = [.nack] := by
  decide +kernel

/-- The cells of MOD_SLOT_ID[0] to [5] capture the straps, and EXTEST drives MOD_FAULT_N from its cell (R436). -/
theorem test_boundary :
    let strap (v : Nat) : Dev := { State.reset.dev with inputs := { slot := v } }
    bitsOf (captured (strap 63) 0) 13 8 = 63 ∧ bitsOf (captured (strap 0) 0) 13 8 = 0 ∧
    (match exec (.extest 0) State.reset with | .next t => (pinsTaken t.dev, (drivenPins t.dev).testBit 4) | _ => (false, true)) = (true, false) := by
  decide +kernel

theorem witness_MessagesEnterTheMailbox :
    (∀ p ∈ [Power.inReset, Power.running], (portState p (some 8) []).dev.power = p ∧ pinsTaken (portState p (some 8) []).dev = false ∧
      (portState p (some 8) []).dev.i3c.addr ≠ none ∧
      rget (portState p (some 8) []).dev ⟨.CFG_MBOX_IN_FULL, 0, 0, 0⟩ = 0) ∧
    (∀ n ∈ [1, 256], 1 ≤ n ∧ n ≤ 256 ∧ n ≤ (List.replicate 256 (7 : Byte)).length) := by decide +kernel

/-- A message of 5 bytes, with an interrupt for it. -/
theorem test_mboxWrite : (match exec (.mboxWrite 5 [1, 2, 3, 4, 5]) (portState .running (some 8) [(.CFG_MBOX_IRQ_EN, 1), (.CFG_MBOX_IRQ_VEC, 9)]) with
    | .next t => (rget t.dev ⟨.CFG_MBOX_IN, 0, 0, 0⟩, rget t.dev ⟨.CFG_MBOX_IN, 1, 0, 0⟩, t.dev.outbox) | _ => (0, 0, [])) =
    (0x04030201, 5, [.irq 9]) := by decide +kernel

theorem witness_RegistersAreReadAndWritten :
    tabokRuns (bootState 3 []).dev = true ∧ (0x280118 % 4 = 0 ∧ inBlock 0x280118 = true) ∧ ¬ (2 % 4 = 0) ∧ inBlock (0x1000000 + 0x1680000) = false ∧
    inBlock (0x1000000 + 0x167FFFC) = true ∧ i3cReaches 0x280118 = true ∧ i3cReaches 0x100000 = false ∧ i3cReaches 0x800000 = false ∧
    (∀ p ∈ [Power.inReset, Power.running], pinsTaken (portState p (some 8) []).dev = false) ∧ (0x55 : BitVec 8) ∉ ([1, 2, 3] : List (BitVec 8)) ∧
    (∀ v ∈ [0, 1], rget (portState .inReset (some 8) [(.CFG_JTAG_ALLOW, v)]).dev ⟨.CFG_JTAG_ALLOW, 0, 0, 0⟩ = v) ∧
    (BitVec.ofNat 64 (2 ^ 58)).toNat.testBit 58 = true ∧ (BitVec.ofNat 64 0).toNat.testBit 58 = false := by decide +kernel

/-- A pair: the low word waits for the high one, and a read latches the high word (R13). -/
theorem test_pairs :
    let w (off : Nat) (v : Word) (s : State) : State := match exec (.registerWrite off 4 v) s with | .next t => t | _ => s
    let r (off : Nat) (s : State) : State := match exec (.pairLowRead off 4) s with | .next t => t | _ => s
    let s := w 0x280118 0x89ABCDEF (bootState 3 [])
    rget s.dev ⟨.CLK_RC_SET, 0, 0, 0⟩ = 0 ∧ rget (w 0x28011C 0x01234567 s).dev ⟨.CLK_RC_SET, 0, 0, 0⟩ = 0x0123456789ABCDEF ∧
    (r 0x28011C (r 0x280118 (w 0x28011C 0x01234567 s))).dev.outbox = [.word 0x89ABCDEF, .word 0x01234567] ∧
    (match exec (.pairLowRead 0x280118 2) s with | .next t => (t.dev.outbox, t.dev.logNext) | _ => ([], 0)) = ([.word 0], 1) := by decide +kernel

theorem witness_RegisterTypesAndPairs :
    tabokRuns (bootState 3 []).dev = true ∧ (bootState 3 []).dev.power = .running ∧
    ⟨.CFG_VER_FLOOR, 0, 0, 0⟩ ∉ (bootState 3 []).dev.onceWritten ∧
    ∃ t, exec (.registerWrite (regOffset ⟨.CFG_VER_FLOOR, 0, 0, 0⟩) 4 7) (bootState 3 []) = .next t ∧ t.dev.power = .running ∧ tabokRuns t.dev = true ∧
      t.dev.onceWritten = [⟨.CFG_VER_FLOOR, 0, 0, 0⟩] :=
  ⟨by decide +kernel, by decide +kernel, by decide +kernel, _, rfl, by decide +kernel, by decide +kernel, by decide +kernel⟩

theorem witness_CommandsCompleteAndKeepTheQueue :
    (Instr.powerUp).wf = true ∧ (Instr.tileSelfTestDone 1439 true).wf = true ∧ (Instr.tileSelfTestDone 1440 true).wf = false ∧
    (Instr.ucieFlitRx 7 true).wf = true := by decide

theorem witness_IdleAndReset : State.reset.pending = [] ∧ Runs State.reset ∧ ({ dev := { power := .off } } : State).pending = [] ∧
    ¬ Runs { dev := { power := .off } } := by
  unfold Runs; decide

theorem witness_FusesOnlyBurn :
    let s : State := { bootState 2 [] { fuseOp := some (.advance 5) } { arbCount := 4, ownerBurned := 3, ownerRevoked := 1, idModulus := 9 } with pending := [.fuseOpDone true] }
    (∃ t, step s = .next t ∧ t.nv.arbCount = 5) ∧ s.nv.ownerBurned.testBit 1 = true ∧ s.nv.ownerRevoked.testBit 0 = true ∧ s.nv.idModulus ≠ 0 :=
  ⟨⟨_, rfl, by decide +kernel⟩, by decide +kernel⟩

theorem witness_FabricTimeNeverGoesBack :
    let s : State := { ctlState' 0x22 (2 ^ 21) [] 0 [(⟨.LNK_HOIST_PARENT, 0, 0, 0⟩, 35)] with pending := [.time 35] }
    s.dev.power = .running ∧ (match step s with | .next t => decide (s.clk.ft + 2 < t.clk.ft) && decide (t.dev.power = .running) | _ => false) = true := by
  decide +kernel

/-! The block of R391 signed by an owner key made for this test (its numbers come from a separate implementation of
SHA-256 and RSASSA-PSS); witnesses of the check of R393. -/

/-- A number evaluated before it is used. -/
def fz {α : Type} (x : Nat) (g : Nat → α) : α := match x with
  | 0 => g 0
  | n + 1 => g (n + 1)

theorem fz_eq {α : Type} (x : Nat) (g : Nat → α) : fz x g = g x := match_self g x

/-- A list of numbers, each evaluated before it is used. -/
def fzAll {α : Type} : List Nat → (List Nat → α) → α
  | [], g => g []
  | x :: xs, g => fz x (fun y => fzAll xs (fun ys => g (y :: ys)))

theorem fzAll_eq {α : Type} (l : List Nat) (g : List Nat → α) : fzAll l g = g l := by
  induction l generalizing g with
  | nil => rfl
  | cons x xs ih => rw [fzAll, fz_eq, ih]

def fastRounds : List Nat → List Nat → List Nat → List Nat × List Nat → List Nat × List Nat
  | [], _, _, s => s
  | k :: ks, w, m, s =>
    fz (match m with
      | y :: _ => y
      | [] => scheduled w) (fun x => fzAll (hashRound s (k + x)).1 (fun a => fzAll (hashRound s (k + x)).2 (fun e => fastRounds ks (x :: w) (m.drop 1) (a, e))))

theorem scheduled_take (w : List Nat) : scheduled (w.take 16) = scheduled w := by
  simp [scheduled, List.getD_eq_getElem?_getD]

theorem fastRounds_eq (ks w m : List Nat) (s : List Nat × List Nat) : hashRounds ks (w.take 16) m s = fastRounds ks w m s := by
  induction ks generalizing w m s with
  | nil => cases m <;> rfl
  | cons k ks ih =>
    cases m <;> simp only [hashRounds, fastRounds, fz_eq, fzAll_eq, ← ih, scheduled_take, List.take_take, List.take_succ_cons] <;> rfl

def fastBlocks : Nat → List Nat → List Nat × List Nat → List Nat × List Nat
  | 0, _, s => s
  | n + 1, ws, s =>
    let add (a b : List Nat) : List Nat := (a.zip b).map (fun x => (x.1 + x.2) % 2 ^ 32)
    let r := fastRounds roundWords [] (ws.take 16) s
    fzAll (add s.1 r.1) (fun a => fzAll (add s.2 r.2) (fun e => fastBlocks n (ws.drop 16) (a, e)))

theorem beWords_split (n k : Nat) (bs : List Byte) :
    (beWords (n + k) bs).take n = beWords n (bs.take (4 * n)) ∧ (beWords (n + k) bs).drop n = beWords k (bs.drop (4 * n)) := by
  induction n generalizing bs with
  | zero => simp [beWords]
  | succ n ih =>
    rw [show n + 1 + k = (n + k) + 1 by omega, beWords, beWords, List.take_succ_cons, List.drop_succ_cons, (ih _).1, (ih _).2]
    refine ⟨?_, ?_⟩
    · rw [List.take_take, List.drop_take, show min 4 (4 * (n + 1)) = 4 by omega, show 4 * (n + 1) - 4 = 4 * n by omega]
    · rw [List.drop_drop]; congr 2; omega

theorem beWords_take (n : Nat) (bs : List Byte) : beWords n (bs.take (4 * n)) = beWords n bs := by
  induction n generalizing bs with
  | zero => rfl
  | succ n ih =>
    rw [beWords, beWords, List.take_take, List.drop_take, show min 4 (4 * (n + 1)) = 4 by omega, show 4 * (n + 1) - 4 = 4 * n by omega, ih]

theorem fastBlocks_eq (n : Nat) (bs : List Byte) (s : List Nat × List Nat) : hashBlocks n bs s = fastBlocks n (beWords (16 * n) bs) s := by
  induction n generalizing bs s with
  | zero => rfl
  | succ n ih =>
    have h := beWords_split 16 (16 * n) bs
    rw [hashBlocks, fastBlocks, fzAll_eq, fzAll_eq, show 16 * (n + 1) = 16 + 16 * n by omega, h.1, h.2, ih, ← fastRounds_eq, beWords_take]
    rfl

/-- SHA-256 with every number evaluated as it is made. -/
def fastSha (bs : List Byte) : List Byte :=
  let whole := bs ++ (0x80 :: List.replicate ((119 - bs.length % 64) % 64) 0) ++ beBytes (bs.length * 8) 8
  let s := fzAll (beWords (16 * (whole.length / 64)) whole) (fun ws => fastBlocks (whole.length / 64) ws startChains)
  (s.1 ++ s.2).flatMap (fun w => beBytes w 4)

theorem fastSha_eq : sha256 = fastSha := by
  funext bs
  rw [sha256, fastSha]
  simp only [fzAll_eq, fastBlocks_eq]

/-- The key: modulus, KEY_ID, full hash. -/
def ownerN : Nat :=
  0xbcc19303f77bbaccc5f6b198f3e6cdc4b28f0758c8408b66c8e88b7b330a8b0e5152826de6990811cd9bc52dc1c15c85e6c5e6a5007964d3dc18ccf416f220acde819224a3af6975316427f1e7206b12cf19d750f4e785377a96ffdde8544de5ba032e2ef9ffa46d5378dd5e06194dd4b4a9c44a6ef57e3d16cd0566b7d03ce26a5bb3151b4e7d08cbadf6606cc1fe88ac6d93907e2486a30195b8fed62c9ac71bb2777de7bd54be5f8dd756996243426aff61b098374a07bafc1ab0c7053e95d67ed8e1df5d8bac02440abd5f159ef3e1fcfc934597bbadcfebb8c21f051b836056b66af170f744561d5691c3a0fa55c14bfe9587206c23d288c5e8c17230779fec99e1edfd22736428da1bbd64b7342cf651a7fd7252c645fb5b8df8882ef65406f87582b392a55598fcbe206c1475ee5bbe85fd6765e4de0f26f627070650c80390be6a86afea2e0b3103ad99844d669e5c33637541b8f9da608ea75ca1e5d5180509e2316300ebae905af985c19b945a547d96ec401171f7da1b5341f873
def ownerKid : Nat := 0x7ad9df7bd8f972ed
def ownerHash : List Byte := beBytes 0xed72f9d87bdfd97a17ae354e38b6bc74f52449d07bae15bbff2fc5032c2972d8 32

/-- The self-signed owner key record and the configuration block without their signatures. -/
def certBody : List Byte :=
  leBytes (packFields [(32, 0x54524543), (16, 1), (8, 6), (8, 0), (64, ownerKid), (64, 0), (8, 127)]) 0x40 ++ beBytes ownerN 384 ++ beBytes 65537 4 ++
    List.replicate 0xB4 0 ++ leBytes ownerKid 8
def blockBody : List Byte :=
  leBytes (packFields [(32, 0x47464356), (16, 1), (16, 0), (32, 1024), (32, 7), (64, 1), (16, 4000), (16, 0x1FF), (32, 15), (64, 2 ^ 36 - 1),
    (48, 0x010000000002)]) 0x1FC ++ leBytes 0x63749287 4 ++ List.replicate 0x78 0 ++ leBytes ownerKid 8

def certSig : Nat :=
  0x1d1908627a9c3f104b3e4bd3b79d7e483d8718de3f90b281f917d08a315afec6429f56003393c1801ac80188ff8e7c87dd140a17f6e099911e0640c94f1defd008814beac737fb292ebae63667eb1f8da90362cc6ff0ea4a745941a573503cea5cea8222fa2dcf85774b692727a1a7765b7bc5394ddac98bacd10668da53f2c81cd3995ece8cca6723707e34d5e7f20c5a46c122f48e0616e104af6f27f9b1dc685eb0c3dcbb17a247e5d0c4ff2827dd52ab2915e0590f4fb6956f8f0498127fa9ded415993e244a88a49536511d4333e73dd13f660c11157711826983802e2bee7eafe94513358bbc4896b94a24514582020d58c90cfca62d4a512707684f155531e9cfc5ace3cfd6351f6b51ef02245800b52c5bb5bc826c857116286648b9080cf5b9bc4a58d2f47859dcbf3d79e7cea3db6b77e567bb0aea27f4b6bcf1664fb6397e7e55468f531b46d48fda569e49663f4dcc130db39f0b2115de618567bfed904ab628fec07bc4b7dd18c918bb0dae9dfd4ded180ef1bf0f17dc106e81
def blockSig : Nat :=
  0x43d55d9b681711a966196eb572ced689f94dad85876f290e2c64fa72aa16dcd4b61c938b531ec0c9f80cbefb97d872491ec4efc02d61b4c5ebeb9c93447878b589a1c61e8b8dd46002eb6943e3271a18d13535fcb6ceaaa9906ddd00114cffbad5de45b3aa246033da389530b856d197cbea9e33abf356e3b32027dc05e407eae7140d30b116263d1aa19fd1ccfe9d309d844e93ad5c5a70b638679959a97a36d5f3927949ca81fd643a6272d5eb06e36565df4ee9a8a2007a4e4790d03c4a0b37cf68c7f5b9e0244747794313af7105aa4b9683acea22e0656edc0c48bb7662b7806c291e2af75ad59bf5f0c776d3734f2b2ba405b9a8c3dbe695633f2812eed5edb9582029c02d5e84c580a8695c10c907a8907e6bcfa13c7d84ebeaeafe1b22dae74745a1aa1fe2391f82df7701fd3b47736eb9f3d4b8532f6c26e06d7efedb06978da210ae674e01962c3c38db87d65013c5e5ec4459cdce77189901cc8d3842712f6ab2049a333ba89071ebd15a1704f08b30b6263301382934fc39de50

def ownerBytes : List Byte := certBody ++ beBytes certSig 384
def signedBlock : List Byte := blockBody ++ beBytes blockSig 384

theorem test_key_hash : keyHash ownerN = ownerHash := by rw [keyHash, fastSha_eq]; decide +kernel
theorem test_cert_digest : sha256 certBody = beBytes 0xce70a4508266d552a5fbe99b6ca27fd0f28fd7180382fa4300874197d24fcac1 32 := by rw [fastSha_eq]; decide +kernel
theorem test_block_digest : sha256 blockBody = beBytes 0x84578a6006001049dd9c78909af8b8684e1dfd5d349b9f4b544f4e9c8ad98944 32 := by rw [fastSha_eq]; decide +kernel
theorem test_owner_fields : certOf ownerBytes = some { purpose := 6, keyId := ownerKid, subject := 0, maxArb := 127, modulus := ownerN, issuer := ownerKid, body := certBody, sig := beBytes certSig 384 } := by
  have h : keyId (beNat ((ownerBytes.drop 0x40).take 384)) = ownerKid := by rw [keyId, keyHash, fastSha_eq]; decide +kernel
  simp only [certOf, h]
  decide +kernel

theorem test_cert_signature : rsaOk ownerN certBody (beBytes certSig 384) = true := by
  simp only [rsaOk, pssOk, mgf1, fastSha_eq]; decide +kernel

theorem test_block_signature : rsaOk ownerN blockBody (beBytes blockSig 384) = true := by
  simp only [rsaOk, pssOk, mgf1, fastSha_eq]; decide +kernel

/-- Fuses with the owner's key in slot 0, and its record in boot flash. -/
def ownerNv (serial : Nat) (rec : List Byte) : NonVol := { serial := serial, ownerBurned := 1, ownerHash := [(0, ownerHash)], ownerRec := rec }

/-- The owner key record as a certificate. -/
def ownerCert : Cert :=
  { purpose := 6, keyId := ownerKid, subject := 0, maxArb := 127, modulus := ownerN, issuer := ownerKid, body := certBody, sig := beBytes certSig 384 }

theorem test_owner_key (serial : Nat) (rec : List Byte) : ownerKey (ownerNv serial rec) ownerBytes = some ownerCert := by
  have a : ownerActive (ownerNv serial rec) = some 0 := by
    show List.find? (fun k => (1 : Nat).testBit k && !(0 : Nat).testBit k) (List.range 4) = some 0
    decide
  have k : keyId ownerN = ownerKid := by rw [keyId, test_key_hash]; decide +kernel
  have b : ownerFuse (ownerNv serial rec) 0 = ownerHash := rfl
  have z : (ownerNv serial rec).arbCount = 0 := rfl
  simp only [ownerKey, ownerRecord, a, test_owner_fields, selfSigned, certSignedBy, test_cert_signature, test_key_hash, k, b, z, ownerCert]
  simp

/-- Registers of a device with a check under way: CFG_STATE, MOD_SLOT_ID, floor, and a block staged. -/
def commitDev (block : List Byte) (st slot floor mask : Nat) : Dev :=
  { regs := [(⟨.CFG_STATE, 0, 0, 0⟩, st), (⟨.CFG_SLOT_ID, 0, 0, 0⟩, slot), (⟨.CFG_VER_FLOOR, 0, 0, 0⟩, floor)] ++
      ((List.range 256).map (fun w => ((⟨.CFG_STAGE, w, 0, 0⟩ : RegKey), leNat ((block.drop (4 * w)).take 4)))).filter (·.2 ≠ 0) ++
      [(⟨.CFG_COMMIT_BUSY, 0, 0, 0⟩, 1)], stageMask := mask }

/-- The signed block, the same with the low byte of its CRC 0, with that of its KEY_ID 0, and a block of zeros. -/
def badCrc : List Byte := signedBlock.set 0x1FC 0
def badKey : List Byte := signedBlock.set 0x278 0
def noBlock : List Byte := List.replicate 1024 0

theorem leBytes_leNat (bs : List Byte) : leBytes (leNat bs) bs.length = bs := by
  induction bs with
  | nil => rfl
  | cons b bs ih =>
    have hb : b.toNat < 256 := b.isLt
    rw [leNat, List.length_cons, leBytes, show (b.toNat + 256 * leNat bs) / 256 = leNat bs by omega, ih]
    congr 1
    apply BitVec.eq_of_toNat_eq
    simpa using hb

theorem leNat_lt (bs : List Byte) : leNat bs < 256 ^ bs.length := by
  induction bs with
  | nil => simp [leNat]
  | cons b bs ih =>
    have hb : b.toNat < 256 := b.isLt
    rw [leNat, List.length_cons, Nat.pow_succ]; omega

theorem tblGet_words (f : Nat → Nat) (tl : List (RegKey × Nat)) (v : Nat) (h : tblGet tl ⟨.CFG_STAGE, v, 0, 0⟩ 0 = 0) (l : List Nat) :
    tblGet ((l.map (fun w => ((⟨.CFG_STAGE, w, 0, 0⟩ : RegKey), f w))).filter (·.2 ≠ 0) ++ tl) ⟨.CFG_STAGE, v, 0, 0⟩ 0 = if v ∈ l then f v else 0 := by
  induction l with
  | nil => simpa using h
  | cons w l ih =>
    rw [List.map_cons, List.filter_cons]
    by_cases hw : v = w
    · subst hw
      by_cases hf : f v = 0
      · simp [hf] at ih ⊢; exact ih
      · simp [hf, tblGet]
    · have hw' : w ≠ v := fun h => hw h.symm
      by_cases hf : f w = 0
      · simpa [hf, hw] using ih
      · simpa [hf, hw, hw', tblGet] using ih

theorem flatMap_words (n : Nat) (b : List Byte) : (List.range n).flatMap (fun w => (b.drop (4 * w)).take 4) = b.take (4 * n) := by
  induction n with
  | zero => simp
  | succ n ih => rw [List.range_succ, List.flatMap_append, ih, List.flatMap_singleton, Nat.mul_succ, List.take_add]

theorem staged_of (block : List Byte) (h : block.length = 1024) (st slot floor mask : Nat) :
    stagedBlock (commitDev block st slot floor mask) = block := by
  have hw : ∀ w ∈ List.range 256, leBytes (rget (commitDev block st slot floor mask) ⟨.CFG_STAGE, w, 0, 0⟩) 4 = (block.drop (4 * w)).take 4 := by
    intro w hw
    have hl : ((block.drop (4 * w)).take 4).length = 4 := by simp at hw ⊢; omega
    have hb := leNat_lt ((block.drop (4 * w)).take 4)
    have hx : tblGet (commitDev block st slot floor mask).regs ⟨.CFG_STAGE, w, 0, 0⟩ 0 = leNat ((block.drop (4 * w)).take 4) := by
      have := tblGet_words (fun w => leNat ((block.drop (4 * w)).take 4)) [(⟨.CFG_COMMIT_BUSY, 0, 0, 0⟩, 1)] w (by simp [tblGet]) (List.range 256)
      rw [if_pos hw] at this
      rw [← this]; simp [commitDev, tblGet]
    have hr : rget (commitDev block st slot floor mask) ⟨.CFG_STAGE, w, 0, 0⟩ = leNat ((block.drop (4 * w)).take 4) := by
      unfold rget
      show tblGet _ _ 0 % 2 ^ 32 = _
      rw [hx]; exact Nat.mod_eq_of_lt (by rw [hl] at hb; exact hb)
    rw [hr]
    have := leBytes_leNat ((block.drop (4 * w)).take 4)
    rwa [hl] at this
  rw [stagedBlock, List.flatMap_def, List.map_congr_left hw, ← List.flatMap_def, flatMap_words, List.take_of_length_le (by omega)]

theorem crc_eq (bs : List Byte) : crc32c bs = run crcByte bs 0xFFFFFFFF ^^^ 0xFFFFFFFF := by rw [crc32c, run_eq]

theorem test_checks :
    (∀ b ∈ [signedBlock, badCrc, badKey], blockForm b = true) ∧ blockForm noBlock = false ∧
    (∀ b ∈ [signedBlock, badKey], fieldAt b 0x1FC 4 = crc32c (b.take 0x1FC)) ∧ fieldAt badCrc 0x1FC 4 ≠ crc32c (badCrc.take 0x1FC) ∧
    fieldAt signedBlock 0x278 8 = ownerKid ∧ fieldAt badKey 0x278 8 ≠ ownerKid ∧ signedBlock.take 0x280 = blockBody ∧
    signedBlock.drop 0x280 = beBytes blockSig 384 ∧ fieldAt signedBlock 0x10 8 = 1 ∧ fieldAt signedBlock 0x1A 2 = 0x1FF ∧
    fieldAt signedBlock 0xC 4 = 7 := by
  simp only [crc_eq]; decide +kernel

/-- The checks that fail, as the statement gives them. -/
def commitFails (nv : NonVol) (d : Dev) (k : Nat) : Prop :=
  let get (r : Reg) : Nat := rget d ⟨r, 0, 0, 0⟩
  let b := stagedBlock d
  let slots := fieldAt b 0x1A 2
  let record := nv.ownerRec
  (k = 1 ∧ get .CFG_STATE ≠ 2) ∨ (k = 2 ∧ popCount d.stageMask 256 ≠ 256) ∨ (k = 3 ∧ blockForm b = false) ∨
  (k = 4 ∧ fieldAt b 0x1FC 4 ≠ crc32c (b.take 0x1FC)) ∨ (k = 5 ∧ ownerKey nv record = none) ∨
  (k = 6 ∧ ∀ c, ownerKey nv record = some c → fieldAt b 0x278 8 ≠ c.keyId ∨ rsaOk c.modulus (b.take 0x280) (b.drop 0x280) = false) ∨
  (k = 7 ∧ fieldAt b 0x10 8 ≠ nv.serial) ∨ (k = 8 ∧ slots.testBit 6 = true ∧ slots % 64 ≠ get .CFG_SLOT_ID) ∨
  (k = 9 ∧ fieldAt b 0xC 4 < get .CFG_VER_FLOOR)

/-- In each of ten states the check under way has its first failure where it says; in the last none fails. -/
theorem witness_ConfigurationsAreStagedAndCommitted :
    let rec_ (s : Nat) : NonVol := ownerNv s ownerBytes
    let full := 2 ^ 256 - 1
    let first (nv : NonVol) (d : Dev) (k : Nat) : Prop := commitFails nv d k ∧ ∀ j, j < k → ¬ commitFails nv d j
    first (rec_ 1) (commitDev signedBlock 3 63 7 full) 1 ∧ first (rec_ 1) (commitDev signedBlock 2 63 7 (full - 2 ^ 255)) 2 ∧
    first (rec_ 1) (commitDev noBlock 2 63 7 full) 3 ∧ first (rec_ 1) (commitDev badCrc 2 63 7 full) 4 ∧
    first (ownerNv 1 []) (commitDev signedBlock 2 63 7 full) 5 ∧ first (rec_ 1) (commitDev badKey 2 63 7 full) 6 ∧
    first (rec_ 2) (commitDev signedBlock 2 63 7 full) 7 ∧ first (rec_ 1) (commitDev signedBlock 2 62 7 full) 8 ∧
    first (rec_ 1) (commitDev signedBlock 2 63 8 full) 9 ∧ ∀ k, ¬ commitFails (rec_ 1) (commitDev signedBlock 2 63 7 full) k := by
  obtain ⟨f1, f2, c1, c2, k1, k2, t1, t2, s1, l1, v1⟩ := test_checks
  have fs := f1 signedBlock (by simp)
  have fc := f1 badCrc (by simp)
  have fk := f1 badKey (by simp)
  have cs := c1 signedBlock (by simp)
  have ck := c1 badKey (by simp)
  have e := test_owner_key
  have none5 : ownerKey (ownerNv 1 []) [] = none := by
    have a : certOf [] = none := by unfold certOf; simp
    unfold ownerKey ownerRecord; rw [a]; cases ownerActive (ownerNv 1 []) <;> rfl
  have p1 : popCount (2 ^ 256 - 1) 256 = 256 := by decide +kernel
  have p2 : popCount (2 ^ 256 - 1 - 2 ^ 255) 256 ≠ 256 := by decide +kernel
  have ls : signedBlock.length = 1024 := by decide +kernel
  have lc : badCrc.length = 1024 := by rw [badCrc, List.length_set, ls]
  have lk : badKey.length = 1024 := by rw [badKey, List.length_set, ls]
  have ln : noBlock.length = 1024 := List.length_replicate
  have sig : rsaOk ownerN (signedBlock.take 0x280) (signedBlock.drop 0x280) = true := by rw [t1, t2]; exact test_block_signature
  have q1 (b : List Byte) (st slot floor mask : Nat) : rget (commitDev b st slot floor mask) ⟨.CFG_STATE, 0, 0, 0⟩ = st % 8 := rfl
  have q2 (b : List Byte) (st slot floor mask : Nat) : rget (commitDev b st slot floor mask) ⟨.CFG_SLOT_ID, 0, 0, 0⟩ = slot % 64 := rfl
  have q3 (b : List Byte) (st slot floor mask : Nat) : rget (commitDev b st slot floor mask) ⟨.CFG_VER_FLOOR, 0, 0, 0⟩ = floor % 2 ^ 32 := rfl
  have q4 (b : List Byte) (st slot floor mask : Nat) : (commitDev b st slot floor mask).stageMask = mask := rfl
  have n1 (s : Nat) (r : List Byte) : (ownerNv s r).ownerRec = r := rfl
  have n2 (s : Nat) (r : List Byte) : (ownerNv s r).serial = s := rfl
  have bit : (0x1FF : Nat).testBit 6 = true := by decide
  have o1 : ownerCert.keyId = ownerKid := rfl
  have o2 : ownerCert.modulus = ownerN := rfl
  simp only [commitFails, staged_of _ ls, staged_of _ lc, staged_of _ lk, staged_of _ ln, q1, q2, q3, q4, n1, n2, e, none5, p1, fs, fc, fk, f2, s1, l1, v1, bit]
  refine ⟨?_, ?_, ?_, ?_, ?_, ?_, ?_, ?_, ?_, ?_⟩
  · exact ⟨by simp, fun j hj h => by simp at h; omega⟩
  · exact ⟨.inr (.inl ⟨by simp, p2⟩), fun j hj h => by rcases h with ⟨rfl, h⟩ | ⟨rfl, h⟩ | h <;> first | omega | (simp at h)⟩
  · exact ⟨by simp, fun j hj h => by rcases h with ⟨rfl, h⟩ | ⟨rfl, h⟩ | ⟨rfl, h⟩ | h <;> first | omega | (simp at h)⟩
  · exact ⟨by simp [c2], fun j hj h => by rcases h with ⟨rfl, h⟩ | ⟨rfl, h⟩ | ⟨rfl, h⟩ | ⟨rfl, h⟩ | h <;> first | omega | (simp at h)⟩
  · exact ⟨by simp, fun j hj h => by rcases h with ⟨rfl, h⟩ | ⟨rfl, h⟩ | ⟨rfl, h⟩ | ⟨rfl, h⟩ | ⟨rfl, h⟩ | h <;> first | omega | (simp at h)⟩
  · refine ⟨.inr (.inr (.inr (.inr (.inr (.inl ⟨by simp, fun c hc => ?_⟩))))), fun j hj h => ?_⟩
    · cases hc; exact .inl (by rw [o1]; exact k2)
    · rcases h with ⟨rfl, h⟩ | ⟨rfl, h⟩ | ⟨rfl, h⟩ | ⟨rfl, h⟩ | ⟨rfl, h⟩ | ⟨rfl, h⟩ | h <;> first | omega | (simp at h)
  all_goals
    have six : ¬ ∀ c, some ownerCert = some c → fieldAt signedBlock 0x278 8 ≠ c.keyId ∨ rsaOk c.modulus (signedBlock.take 0x280) (signedBlock.drop 0x280) = false := by
      intro h
      have := h _ rfl
      rw [o1, o2, k1, sig] at this
      simp at this
  · refine ⟨by simp, fun j hj h => ?_⟩
    rcases h with ⟨rfl, h⟩ | ⟨rfl, h⟩ | ⟨rfl, h⟩ | ⟨rfl, h⟩ | ⟨rfl, h⟩ | ⟨rfl, h⟩ | ⟨rfl, h⟩ | h
    all_goals first | exact six h | (simp [cs] at h; done) | omega
  · refine ⟨by simp, fun j hj h => ?_⟩
    rcases h with ⟨rfl, h⟩ | ⟨rfl, h⟩ | ⟨rfl, h⟩ | ⟨rfl, h⟩ | ⟨rfl, h⟩ | ⟨rfl, h⟩ | ⟨rfl, h⟩ | ⟨rfl, h⟩ | h
    all_goals first | exact six h | (simp [cs] at h; done) | omega
  · refine ⟨by simp, fun j hj h => ?_⟩
    rcases h with ⟨rfl, h⟩ | ⟨rfl, h⟩ | ⟨rfl, h⟩ | ⟨rfl, h⟩ | ⟨rfl, h⟩ | ⟨rfl, h⟩ | ⟨rfl, h⟩ | ⟨rfl, h⟩ | ⟨rfl, h⟩
    all_goals first | exact six h | (simp [cs] at h; done) | omega
  · intro j h
    rcases h with ⟨rfl, h⟩ | ⟨rfl, h⟩ | ⟨rfl, h⟩ | ⟨rfl, h⟩ | ⟨rfl, h⟩ | ⟨rfl, h⟩ | ⟨rfl, h⟩ | ⟨rfl, h⟩ | ⟨rfl, h⟩
    all_goals first | exact six h | (simp [cs] at h; done) | omega

/-- The hash of the root key that the model starts with stands in the fuses (R396, R398). -/
theorem test_root_key : rootMeets {} = true := by
  simp only [rootMeets, rootKey, keyHash, fastSha_eq]; decide +kernel

theorem witness_BootBringsTheModuleToService :
    let off (a b : Bool) : NonVol := { slotA := { present := a }, slotB := { present := b } }
    let passes (nv : NonVol) (n : Nat) : Prop :=
      let f := if n = 0 then nv.slotA else nv.slotB
      f.present = true ∧ nv.arbCount ≤ f.svn ∧ nv.arbCount ≤ f.maxArb ∧ nv.arbCount ≤ nv.rootRec.maxArb ∧
        nv.rootRec.selfSigned = true ∧ keyHash nv.rootRec.modulus = leBytes nv.rootHash 32
    let up (v : Nat) (r : List (Nat × Nat)) : State := bootState 3 [(.CFG_UCIE_UP, v)] { ucieReplays := r } {} 5000
    let down (retrain fails : Nat) : State := bootState 3 [] { ucieRetrain := retrain, ucieFails := tblSet (fun k => k) [] 7 fails 0 }
    let recent (s : State) (m : Nat) : Nat :=
      ((s.dev.ucieReplays.filter (fun x => s.clk.ns < x.2 + 1000) ++ [(m, s.clk.ns)]).filter (fun x => x.1 = m)).length
    (bootState 0 [] {} (off true false)).dev.power = .running ∧ rget (bootState 0 []).dev ⟨.CFG_STATE, 0, 0, 0⟩ = 0 ∧
    passes (off true false) 0 ∧ ¬ passes (off false true) 0 ∧ passes (off false true) 1 ∧
    ¬ passes (off false false) 0 ∧ ¬ passes (off false false) 1 ∧ ¬ passes { off true true with arbCount := 1 } 0 ∧
    ({} : NonVol).idModulus = 0 ∧ 2 ^ 3071 ≤ 2 ^ 3071 + 1 ∧ 2 ^ 3071 + 1 < 2 ^ 3072 ∧ ({ idModulus := 2 ^ 3071 + 1 } : NonVol).idModulus ≠ 0 ∧
    tabokRuns (bootState 3 []).dev = true ∧ rget (bootState 3 []).dev ⟨.TILE_STATE, 1439, 0, 0⟩ = 0 ∧
    (∀ x ∈ [(0, 0), (2 ^ 7, 1), (2 ^ 7, 2)], (rget (down x.1 x.2).dev ⟨.CFG_UCIE_OFF, 0, 0, 0⟩).testBit 7 = false ∧
      (rget (down x.1 x.2).dev ⟨.CFG_UCIE_UP, 0, 0, 0⟩).testBit 7 = false ∧ (down x.1 x.2).dev.ucieRetrain = x.1 ∧
      tblGet (down x.1 x.2).dev.ucieFails 7 0 = x.2 ∧ tabokRuns (down x.1 x.2).dev = true) ∧
    (rget (up 255 []).dev ⟨.CFG_UCIE_UP, 0, 0, 0⟩).testBit 7 = true ∧
    recent (up 255 (List.replicate 15 (7, 4001) ++ [(7, 4000)])) 7 = 16 ∧ recent (up 255 (List.replicate 16 (7, 4001))) 7 = 17 ∧
    rget (bootState 1 []).dev ⟨.CFG_STATE, 0, 0, 0⟩ = 1 ∧ (bootState 1 []).dev.fwWait = 0 := by
  simp only [keyHash, fastSha_eq]; decide +kernel

end Sys2Proof.Tests
end

section
/-! SUPPORT. Accesses of the register window (R13, R266, R434, R436): how a command reaches the window, and the rules of width,
alignment and place by which it reads or writes there. -/

namespace Sys2Proof.Machine

/-! How a command reaches the window. -/

/-- While Tabok serves, a command that may also write the boot flash gives what its meaning says. -/
theorem actTNv_of_serves {s : State} (h : Serves s) (f : Env → Dev → NonVol × Dev) :
    actTNv s f = .next { s with nv := (f s.env s.dev).1, dev := inCycle s.dev (f s.env s.dev).2 } := by
  obtain ⟨hpower, htabok⟩ := h
  simp [actTNv, actNv, hpower, htabok, State.env]

theorem actT_of_serves {s : State} (h : Serves s) (f : Env → Dev → Dev) :
    actT s true f = .next { s with dev := inCycle s.dev (f s.env s.dev) } := by
  obtain ⟨hpower, htabok⟩ := h
  simp [actT, act, hpower, htabok, State.env]

theorem gives_congr {i : Instr} {s : State} {d d' : Dev} (h : Gives i s d) (hd : d = d') : Gives i s d' := hd ▸ h

theorem powered_iff (d : Dev) : powered d = true ↔ d.power = .inReset ∨ d.power = .running := by
  simp [powered]

theorem actP_of_powered {s : State} (hp : powered s.dev = true) (hpins : pinsTaken s.dev = false) (f : Env → Dev → Dev) :
    actP s f = .next { s with dev := inCycle s.dev (f s.env s.dev) } := by
  simp [actP, hp, hpins, State.env]

theorem registerWrite_of_serves {s : State} (h : Serves s) (off width : Nat) (v : Word) :
    exec (.registerWrite off width v) s = .next { s with
      nv := (writeWord s.env off width v.toNat s.dev).1, dev := inCycle s.dev (writeWord s.env off width v.toNat s.dev).2 } :=
  actTNv_of_serves h (fun e d => writeWord e off width v.toNat d)

theorem pairLowRead_of_serves {s : State} (h : Serves s) (off width : Nat) :
    Gives (.pairLowRead off width) s (readUcie off width s.env s.dev) :=
  actT_of_serves h _

/-- A command of the management port that reaches it at its dynamic address. -/
theorem regRead_of_addressed {s : State} (hp : powered s.dev = true) (hpins : pinsTaken s.dev = false)
    (ha : s.dev.i3c.addr ≠ none) (off : Nat) (cmd : BitVec 8) :
    Gives (.regRead off cmd) s (i3cCommand cmd.toNat off s.env s.dev) := by
  have hsome : s.dev.i3c.addr.isSome = true := Option.isSome_iff_ne_none.2 ha
  have hact := actP_of_powered hp hpins (addressed (i3cCommand cmd.toNat off))
  rw [addressed, if_pos hsome] at hact
  exact hact

/-! The window's rules of width, alignment and place (R13, R266, R434). -/

theorem offsetOk_iff (off : Nat) : offsetOk off = true ↔ off % 4 = 0 ∧ inBlock off = true := by
  simp [offsetOk]

theorem writeWord_of_ok {off width : Nat} (e : Env) (v : Nat) (d : Dev) (h : offsetOk off = true ∧ width = 4) :
    writeWord e off width v d = writeListed e off v [] d := if_pos h

theorem writeWord_of_not_ok {off width : Nat} (e : Env) (v : Nat) (d : Dev) (h : ¬ (offsetOk off = true ∧ width = 4)) :
    writeWord e off width v d = (e.nv, regAccess e off true d) := if_neg h

theorem readWord_of_ok {off width : Nat} (e : Env) (d : Dev) (h : offsetOk off = true ∧ width = 4) :
    readWord e off width d =
      ((readPaired e d d.pairHigh off).1, { d with pairHigh := (readPaired e d d.pairHigh off).2 }) := if_pos h

theorem readWord_of_not_ok {off width : Nat} (e : Env) (d : Dev) (h : ¬ (offsetOk off = true ∧ width = 4)) :
    readWord e off width d = (0, regAccess e off false d) := if_neg h

theorem readUcie_of_ok {off width : Nat} (e : Env) (d : Dev) (h : offsetOk off = true ∧ width = 4) :
    readUcie off width e d =
      emit (.word (readPaired e d d.pairHigh off).1) { d with pairHigh := (readPaired e d d.pairHigh off).2 } := by
  rw [readUcie, readWord_of_ok e d h]

theorem readUcie_of_not_ok {off width : Nat} (e : Env) (d : Dev) (h : ¬ (offsetOk off = true ∧ width = 4)) :
    readUcie off width e d = emit (.word 0) (regAccess e off false d) := by
  rw [readUcie, readWord_of_not_ok e d h]

theorem readI3c_of_reached {off : Nat} (e : Env) (d : Dev) (h : i3cReaches off = true ∧ off % 4 = 0) :
    readI3c off e d = emit (.i3c (leBytes (readPaired e d d.pairHighI3c off).1 4))
      { d with pairHighI3c := (readPaired e d d.pairHighI3c off).2 } := if_pos h

theorem readI3c_of_not_reached {off : Nat} (e : Env) (d : Dev) (h : ¬ (i3cReaches off = true ∧ off % 4 = 0)) :
    readI3c off e d = emit (.i3c [0, 0, 0, 0]) d := if_neg h

theorem i3cCommand_of_other {cmd : BitVec 8} (h : cmd ∉ ([1, 2, 3] : List (BitVec 8))) (off : Nat) (e : Env) (d : Dev) :
    i3cCommand cmd.toNat off e d = emit .nack d := by
  simp only [List.mem_cons, List.not_mem_nil, or_false, not_or, ← BitVec.toNat_inj] at h
  obtain ⟨h1, h2, h3⟩ := h
  unfold i3cCommand
  split
  · exact absurd ‹_› h1
  · exact absurd ‹_› h2
  · exact absurd ‹_› h3
  · rfl

/-! DBG_ACCESS (R436). -/

/-- A command of the test access port, TCK running; the pins come back where it ends an instruction that held them. -/
theorem actTap_of_powered {s : State} (hp : powered s.dev = true) (f : Env → Dev → NonVol × Dev) :
    actTap s f = .next (
      let r := f s.env (tckRuns s.dev)
      let t := { s with nv := r.1, dev := inCycle s.dev r.2 }
      if pinsTaken s.dev ∧ !pinsTaken t.dev then pinsBack t else t) := if_pos hp

/-- The device as DBG_ACCESS has sent out the data of the access before it. -/
def dbgSent (d : Dev) : Dev :=
  emit (.word (d.jtag.data + b2n d.jtag.refused * 2 ^ 59)) { d with jtag := { d.jtag with instr := .dbgAccess } }

theorem tckRuns_eq (d : Dev) :
    tckRuns d = { d with free := d.free + 1, jtag := { d.jtag with tck := some (Config.freeNat d.free % 51) } } := rfl

theorem debugAccess_of_forbidden {d x : Dev} (hx : dbgSent d = x) (h : sget x .CFG_JTAG_ALLOW = 0) (dr : Nat) (e : Env) :
    debugAccess dr e d = (e.nv, { x with jtag := { x.jtag with refused := true, data := 0 } }) := by
  subst hx
  exact if_pos h

theorem debugAccess_of_write {d x : Dev} {dr : Nat} (hx : dbgSent d = x) (h : sget x .CFG_JTAG_ALLOW ≠ 0)
    (hw : dr.testBit 58 = true) (e : Env) :
    debugAccess dr e d =
      let r := writeWord e (bitsOf dr 57 32) 4 (bitsOf dr 31 0) x
      (r.1, { r.2 with jtag := { r.2.jtag with refused := false } }) := by
  subst hx
  exact (if_neg h).trans (if_pos hw)

theorem debugAccess_of_read {d x : Dev} {dr : Nat} (hx : dbgSent d = x) (h : sget x .CFG_JTAG_ALLOW ≠ 0)
    (hr : dr.testBit 58 = false) (e : Env) :
    debugAccess dr e d =
      let r := readWord e (bitsOf dr 57 32) 4 x
      (e.nv, { r.2 with jtag := { r.2.jtag with refused := false, data := r.1 } }) := by
  subst hx
  exact (if_neg h).trans (if_neg (by simp [bitOf, hr]))

theorem jtagAllow_ne_zero_iff (d : Dev) : sget d .CFG_JTAG_ALLOW ≠ 0 ↔ rget d ⟨.CFG_JTAG_ALLOW, 0, 0, 0⟩ = 1 := by
  have hlt : rget d ⟨.CFG_JTAG_ALLOW, 0, 0, 0⟩ < 2 := rget_lt d ⟨.CFG_JTAG_ALLOW, 0, 0, 0⟩
  unfold sget
  omega

/-- Settles O59: each command is its meaning on the device (the port that it comes over decides when), and that meaning is a
read or a write by the window's rules. -/
theorem registersAreReadAndWritten : Obligations.RegistersAreReadAndWritten := by
  intro s off width cmd v dr e d lies out on after r i sent ends allowed w x free_
  have hok : lies ↔ offsetOk off = true := (offsetOk_iff off).symm
  have hpow : on → powered d = true := (powered_iff d).2
  have hsent : dbgSent (tckRuns d) = sent := by rw [tckRuns_eq]; rfl
  have hallow : sget sent .CFG_JTAG_ALLOW ≠ 0 ↔ allowed := jtagAllow_ne_zero_iff d
  have tap (hon : on) (q : NonVol × Dev) (hq : debugAccess dr.toNat e (tckRuns d) = q) :
      exec (.dbgAccess dr) s = .next (ends (after q)) := by
    refine (actTap_of_powered (hpow hon) (debugAccess dr.toNat)).trans ?_
    simp only [hq, ends, after, d, e, Bool.not_eq_true']
  refine ⟨fun hs hl hw => ?_, fun hs hn => ?_, fun hs hl hw => ?_, fun hs hn => ?_, fun hon hf ha hc hr hm => ?_,
    fun hon hf ha hc hr => ?_, fun hon hf ha hc => ?_, fun hon hna => ?_, fun hon hal hb => ?_, fun hon hal hb => ?_⟩
  · rw [registerWrite_of_serves hs, writeWord_of_ok _ _ _ ⟨hok.1 hl, hw⟩]
  · rw [hok] at hn
    rw [Gives, registerWrite_of_serves hs, writeWord_of_not_ok _ _ _ hn]
    rfl
  · exact gives_congr (pairLowRead_of_serves hs off width) (readUcie_of_ok e d ⟨hok.1 hl, hw⟩)
  · rw [hok] at hn
    exact gives_congr (pairLowRead_of_serves hs off width) (readUcie_of_not_ok e d hn)
  · subst hc
    exact gives_congr (regRead_of_addressed (hpow hon) hf ha off 1) (readI3c_of_reached e d ⟨hr, hm⟩)
  · subst hc
    have hnot : ¬ (i3cReaches off = true ∧ off % 4 = 0) := by simpa [imp_iff_not_or] using hr
    exact gives_congr (regRead_of_addressed (hpow hon) hf ha off 1) (readI3c_of_not_reached e d hnot)
  · exact gives_congr (regRead_of_addressed (hpow hon) hf ha off cmd) (i3cCommand_of_other hc off e d)
  · have hforbid : sget sent .CFG_JTAG_ALLOW = 0 := by
      by_contra hne
      exact hna (hallow.1 hne)
    exact tap hon _ (debugAccess_of_forbidden hsent hforbid _ e)
  · exact tap hon _ (debugAccess_of_write hsent (hallow.2 hal) hb e)
  · exact tap hon _ (debugAccess_of_read hsent (hallow.2 hal) hb e)

end Sys2Proof.Machine
end

section
/-! SUPPORT. Words of the register window below the tiles' blocks (R13, R14, R266): the fields that a word holds, what a
read of it answers and what a write of it does, by the type of its fields. -/

namespace Sys2Proof.Machine

/-! The fields of a word. -/

theorem folded_row_in_tiles : ∀ row ∈ winRows, row.reg.folded = true → 0x1000000 ≤ row.base := by decide +kernel

theorem rowAt_half {row : WinRow} (hrow : row ∈ winRows) {off : Nat} (hoff : off < 0x1000000) (half : Nat) :
    rowAt row off half = rowAt row off 0 := by
  by_cases hf : row.reg.folded = true
  · have hlt : off < row.base := lt_of_lt_of_le hoff (folded_row_in_tiles row hrow hf)
    simp only [rowAt, if_pos hlt]
  · simp only [rowAt, if_neg hf]

/-- Below the tiles' blocks no field depends on the half of a folded tile that is shown. -/
theorem fieldsAt_half {off : Nat} (hoff : off < 0x1000000) (half : Nat) : fieldsAt off half = fieldsAt off 0 :=
  List.filterMap_congr (fun _ hrow => by rw [rowAt_half hrow hoff])

theorem wordFields_of_fieldsAt {off : Nat} {l : List (WinRow × RegKey)} (hoff : off < 0x1000000) (hl : fieldsAt off 0 = l)
    (hqp : ∀ x ∈ l, perQp x.2.reg = false) (d : Dev) : wordFields d off = l := by
  have hmap : ∀ x ∈ l, (x.1, if perQp x.2.reg then { x.2 with j := rget d ⟨.ETH_QP_SEL, x.2.i, 0, 0⟩ } else x.2) = x :=
    fun x hx => by simp [hqp x hx]
  rw [wordFields, fieldsAt_half hoff, hl, List.map_congr_left hmap, List.map_id']

/-- A field that is all of the word at `off`: bits from `part` upwards of a register of the module. -/
def wholeField (off : Nat) (r : Reg) (part : Nat) (t : FieldType) : WinRow × RegKey :=
  (⟨off, [], 31, 0, r, part, t⟩, ⟨r, 0, 0, 0⟩)

/-- One field fills the word at an offset, of a block that is not the tiles'. -/
structure FillsWord (off : Nat) (r : Reg) (part : Nat) (t : FieldType) : Prop where
  below : off < 0x1000000
  ok : offsetOk off = true
  noQp : perQp r = false
  fields : fieldsAt off 0 = [wholeField off r part t]

/-- A register fills two words, each the other's partner (R13). -/
structure PairAt (lo : Nat) (r : Reg) (t : FieldType) : Prop where
  low : FillsWord lo r 0 t
  high : FillsWord (lo + 4) r 32 t
  pair : isPair r = true
  up : partner (wholeField lo r 0 t) lo = lo + 4
  down : partner (wholeField (lo + 4) r 32 t) (lo + 4) = lo

section
variable {off part lo : Nat} {r : Reg} {t : FieldType}

theorem FillsWord.wordFields (h : FillsWord off r part t) (d : Dev) : wordFields d off = [wholeField off r part t] :=
  wordFields_of_fieldsAt h.below h.fields (fun x hx => by rw [List.mem_singleton.1 hx]; exact h.noQp) d

/-! Reads. -/

theorem FillsWord.wordView (h : FillsWord off r part t) (ht : t ≠ .wo) (e : Env) (d : Dev) :
    wordView e d off = regView e d ⟨r, 0, 0, 0⟩ / 2 ^ part % 2 ^ 32 := by
  simp [Machine.wordView, h.wordFields, fieldBits, wholeField, ht]

/-- A word whose first field is of no pair reads what stands in it. -/
theorem readPaired_of_single {x : WinRow × RegKey} {xs : List (WinRow × RegKey)} {d : Dev} (hf : wordFields d off = x :: xs)
    (hx : isPair x.1.reg = false) (e : Env) (latch : List (Nat × Nat)) : readPaired e d latch off = (wordView e d off, latch) := by
  simp [readPaired, hf, hx]

theorem PairAt.readPaired_low (h : PairAt lo r t) (e : Env) (d : Dev) (latch : List (Nat × Nat)) :
    readPaired e d latch lo = (wordView e d lo, tblSet (fun k => k) latch (lo + 4) (wordView e d (lo + 4) + 1) 0) := by
  have hup := h.up
  simp only [wholeField] at hup
  simp [readPaired, h.low.wordFields, wholeField, h.pair, hup]

theorem PairAt.readPaired_high_latched (h : PairAt lo r t) (e : Env) (d : Dev) {latch : List (Nat × Nat)} {n : Nat}
    (hn : tblGet latch (lo + 4) 0 = n + 1) : (readPaired e d latch (lo + 4)).1 = n := by
  simp [readPaired, h.high.wordFields, wholeField, h.pair, hn]

/-- A read of four bytes raises no record: it answers, and a pair's high word is latched. -/
theorem pairLowRead_next {s : State} (hs : Serves s) (ho : offsetOk off = true) :
    exec (.pairLowRead off 4) s = .next { s with
      dev := emit (.word (readPaired s.env s.dev s.dev.pairHigh off).1)
        { s.dev with pairHigh := (readPaired s.env s.dev s.dev.pairHigh off).2 } } := by
  have hgives := pairLowRead_of_serves hs off 4
  rw [readUcie_of_ok s.env s.dev ⟨ho, rfl⟩, Gives, inCycle_of_logNext (by rfl)] at hgives
  exact hgives

theorem pairLowRead_answers {s : State} (hs : Serves s) (ho : offsetOk off = true) {x : Nat}
    (hx : (readPaired s.env s.dev s.dev.pairHigh off).1 = x) :
    ∃ t, exec (.pairLowRead off 4) s = .next t ∧ t.dev.outbox = s.dev.outbox ++ [.word x] :=
  ⟨_, pairLowRead_next hs ho, by rw [← hx]; rfl⟩

/-! Writes. -/

/-- A register whose writes do what the type of its fields says, and nothing else. -/
structure PlainReg (k : RegKey) : Prop where
  noSec : ∀ e v d, writeSec e v k d = none
  noCore : ∀ e off v d, writeCore e off v k d = none
  noUnits : ∀ e v d, writeUnits e v k d = none
  noTest : ∀ e v imgs d, writeTest e v imgs k d = none
  may : ∀ d v, mayWrite d k v = true
  noMore : ∀ e d, afterWrite e k d = d

theorem writeListed_of_plain {x : WinRow × RegKey} {xs : List (WinRow × RegKey)} {d : Dev} (hf : wordFields d off = x :: xs)
    (hx : PlainReg x.2) (e : Env) (v : Nat) (imgs : List LoadImage) : writeListed e off v imgs d = (e.nv, putWord off v d) := by
  simp [writeListed, hf, hx.noSec, hx.noCore, hx.noUnits, hx.noTest, plainWrite, hx.may, hx.noMore]

theorem putField_logNext (v : Nat) (d : Dev) (x : WinRow × RegKey) : (putField v d x).logNext = d.logNext := by
  unfold putField
  dsimp only
  split
  · exact rset_logNext ..
  · exact rset_logNext ..
  · split
    · exact rset_logNext ..
    · rfl
  · rfl

theorem putPair_logNext (off v : Nat) (x : WinRow × RegKey) (d : Dev) : (putPair off v x d).logNext = d.logNext := by
  unfold putPair
  split
  · rfl
  · exact rset_logNext ..

theorem putWord_logNext (off v : Nat) (d : Dev) : (putWord off v d).logNext = d.logNext := by
  unfold putWord
  split
  · rfl
  · split
    · exact putPair_logNext ..
    · exact List.foldlRecOn _ _ (motive := fun d' => d'.logNext = d.logNext) rfl
        (fun d' h x _ => (putField_logNext v d' x).trans h)

/-- A write of four bytes to a plain word raises no record. -/
theorem registerWrite_of_plain {s : State} (hs : Serves s) (ho : offsetOk off = true) {x : WinRow × RegKey}
    {xs : List (WinRow × RegKey)} (hf : wordFields s.dev off = x :: xs) (hx : PlainReg x.2) (v : Word) :
    exec (.registerWrite off 4 v) s = .next { s with dev := putWord off v.toNat s.dev } := by
  rw [registerWrite_of_serves hs, writeWord_of_ok _ _ _ ⟨ho, rfl⟩, writeListed_of_plain hf hx,
    inCycle_of_logNext (putWord_logNext off _ _)]
  rfl

theorem FillsWord.putWord_ro (h : FillsWord off r part .ro) (v : Nat) (d : Dev) : putWord off v d = d := by
  simp [putWord, h.wordFields, wholeField, putField]

theorem FillsWord.putWord_sat (h : FillsWord off r part .sat) (v : Nat) (d : Dev) :
    putWord off v d = if v = 0 then rset d ⟨r, 0, 0, 0⟩ 0 else d := by
  simp [putWord, h.wordFields, wholeField, putField]

theorem PairAt.putWord_low (h : PairAt lo r .rw) (v : Nat) (d : Dev) :
    putWord lo v d = { d with pairLow := tblSet (fun k => k) d.pairLow lo (v + 1) 0 } := by
  simp [putWord, h.low.wordFields, wholeField, h.pair, putPair]

/-- The high word of a pair applies both words where the low one waits. -/
theorem PairAt.putWord_high (h : PairAt lo r .rw) (v : Nat) {d : Dev} {n : Nat} (hn : tblGet d.pairLow lo 0 = n + 1) :
    putWord (lo + 4) v d =
      rset { d with pairLow := tblSet (fun k => k) d.pairLow lo 0 0 } ⟨r, 0, 0, 0⟩ (n + bitsOf v 31 0 * 2 ^ 32) := by
  have hdown := h.down
  simp only [wholeField] at hdown
  simp [putWord, h.high.wordFields, wholeField, h.pair, putPair, hdown, hn]

end

theorem bitsOf_toNat_word (v : Word) : bitsOf v.toNat 31 0 = v.toNat := by
  simpa [bitsOf] using v.isLt

/-- A bit is cleared by a 1 written to it, and only so. -/
theorem clearBits_one {a : Nat} (ha : a < 2) (v n : Nat) : clearBits 1 a (bitsOf v n n) = if v.testBit n then 0 else a := by
  have hbit : bitsOf v n n = (v.testBit n).toNat := by
    simp [bitsOf, Nat.toNat_testBit, Nat.shiftRight_eq_div_pow]
  rw [hbit]
  cases v.testBit n <;> interval_cases a <;> rfl

/-! The words that stand for the types of R14. -/

theorem pairAt_rc : PairAt 0x280100 .CLK_RC .ro where
  low := ⟨by decide, by decide, rfl, by decide +kernel⟩
  high := ⟨by decide, by decide, rfl, by decide +kernel⟩
  pair := by decide +kernel
  up := by decide +kernel
  down := by decide +kernel

theorem pairAt_ft : PairAt 0x280108 .CLK_FT .ro where
  low := ⟨by decide, by decide, rfl, by decide +kernel⟩
  high := ⟨by decide, by decide, rfl, by decide +kernel⟩
  pair := by decide +kernel
  up := by decide +kernel
  down := by decide +kernel

theorem pairAt_rcSet : PairAt 0x280118 .CLK_RC_SET .rw where
  low := ⟨by decide, by decide, rfl, by decide +kernel⟩
  high := ⟨by decide, by decide, rfl, by decide +kernel⟩
  pair := by decide +kernel
  up := by decide +kernel
  down := by decide +kernel

theorem fillsWord_dbIgnored : FillsWord 0x100004 .RING_DB_IGNORED 0 .sat :=
  ⟨by decide, by decide, rfl, by decide +kernel⟩

theorem fillsWord_verFloor : FillsWord 0x20 .CFG_VER_FLOOR 0 .rwo := ⟨by decide, by decide, rfl, by decide +kernel⟩

theorem regOffset_dbIgnored : regOffset ⟨.RING_DB_IGNORED, 0, 0, 0⟩ = 0x100004 := by decide +kernel

theorem regOffset_verFloor : regOffset ⟨.CFG_VER_FLOOR, 0, 0, 0⟩ = 0x20 := by decide +kernel

/-- A bit of the word at an offset. -/
def bitField (off n : Nat) (r : Reg) (t : FieldType) : WinRow × RegKey := (⟨off, [], n, n, r, 0, t⟩, ⟨r, 0, 0, 0⟩)

theorem wordFields_status (d : Dev) : wordFields d 0x280110 =
    [bitField 0x280110 0 .CLK_RC_BOUND .ro, bitField 0x280110 1 .CLK_FT_SYNCED .ro, bitField 0x280110 2 .CLK_FT_MASTER .ro,
     bitField 0x280110 3 .CLK_STEP_LIMIT .w1c, bitField 0x280110 4 .CLK_BAD_ADVANCE .w1c,
     bitField 0x280110 5 .CLK_BAD_SET .w1c] :=
  wordFields_of_fieldsAt (by decide) (by decide +kernel) (by decide) d

theorem wordFields_triggers (d : Dev) : wordFields d 0x28012C =
    [bitField 0x28012C 0 .CLK_ARM_GO .wo, bitField 0x28012C 1 .CLK_ARM_CANCEL .wo, bitField 0x28012C 2 .CLK_RC_SET_GO .wo] :=
  wordFields_of_fieldsAt (by decide) (by decide +kernel) (by decide) d

theorem plain_rc : PlainReg ⟨.CLK_RC, 0, 0, 0⟩ := by constructor <;> intros <;> rfl

theorem plain_rcBound : PlainReg ⟨.CLK_RC_BOUND, 0, 0, 0⟩ := by constructor <;> intros <;> rfl

theorem plain_rcSet : PlainReg ⟨.CLK_RC_SET, 0, 0, 0⟩ := by constructor <;> intros <;> rfl

theorem plain_dbIgnored : PlainReg ⟨.RING_DB_IGNORED, 0, 0, 0⟩ := by constructor <;> intros <;> rfl

theorem regView_rc (e : Env) (d : Dev) : regView e d ⟨.CLK_RC, 0, 0, 0⟩ = d.rc := rfl

theorem regView_ft (e : Env) (d : Dev) : regView e d ⟨.CLK_FT, 0, 0, 0⟩ = e.clk.ft := rfl

theorem regView_dbIgnored (e : Env) (d : Dev) :
    regView e d ⟨.RING_DB_IGNORED, 0, 0, 0⟩ = rget d ⟨.RING_DB_IGNORED, 0, 0, 0⟩ % 2 ^ 32 := rfl

theorem regView_verFloor (e : Env) (d : Dev) :
    regView e d ⟨.CFG_VER_FLOOR, 0, 0, 0⟩ = rget d ⟨.CFG_VER_FLOOR, 0, 0, 0⟩ := rfl

theorem regView_w1c (e : Env) (d : Dev) :
    ∀ r ∈ [Reg.CLK_STEP_LIMIT, .CLK_BAD_ADVANCE, .CLK_BAD_SET], regView e d ⟨r, 0, 0, 0⟩ = rget d ⟨r, 0, 0, 0⟩ := by
  simp only [List.forall_mem_cons]
  exact ⟨rfl, rfl, rfl, by simp⟩

theorem wordView_status_bits (e : Env) (d : Dev) :
    bitsOf (wordView e d 0x280110) 3 3 = rget d ⟨.CLK_STEP_LIMIT, 0, 0, 0⟩ % 2 ∧
    bitsOf (wordView e d 0x280110) 4 4 = rget d ⟨.CLK_BAD_ADVANCE, 0, 0, 0⟩ % 2 ∧
    bitsOf (wordView e d 0x280110) 5 5 = rget d ⟨.CLK_BAD_SET, 0, 0, 0⟩ % 2 := by
  have hview := regView_w1c e d
  simp only [List.forall_mem_cons] at hview
  obtain ⟨hstep, hadv, hset, -⟩ := hview
  simp only [wordView, wordFields_status, bitField, fieldBits, bitsOf, List.map_cons, List.map_nil, List.sum_cons, List.sum_nil,
    reduceCtorEq, if_false, Nat.shiftRight_eq_div_pow, hstep, hadv, hset]
  omega

/-- A W1C bit of the module as bit x.2 of the word v is written. -/
def clearWritten (v : Nat) (d : Dev) (x : Reg × Nat) : Dev :=
  rset d ⟨x.1, 0, 0, 0⟩ (clearBits x.1.bits (rget d ⟨x.1, 0, 0, 0⟩) (bitsOf v x.2 x.2))

theorem rget_clearWritten (v : Nat) (d : Dev) {x : Reg × Nat} (hx : x.1.bits = 1) :
    rget (clearWritten v d x) ⟨x.1, 0, 0, 0⟩ = if v.testBit x.2 then 0 else rget d ⟨x.1, 0, 0, 0⟩ := by
  have hlt : rget d ⟨x.1, 0, 0, 0⟩ < 2 := by simpa [hx] using rget_lt d ⟨x.1, 0, 0, 0⟩
  rw [clearWritten, rget_rset_same, hx, clearBits_one hlt]
  split
  · rfl
  · exact Nat.mod_eq_of_lt hlt

theorem rget_clearWritten_ne (v : Nat) (d : Dev) {x : Reg × Nat} {r : Reg} (hr : r ≠ x.1) :
    rget (clearWritten v d x) ⟨r, 0, 0, 0⟩ = rget d ⟨r, 0, 0, 0⟩ :=
  rget_rset_ne d _ (by simpa using hr)

theorem rget_foldl_clearWritten_of_not_mem (v : Nat) {r : Reg} {l : List (Reg × Nat)} (hr : ∀ x ∈ l, r ≠ x.1) (d : Dev) :
    rget (l.foldl (clearWritten v) d) ⟨r, 0, 0, 0⟩ = rget d ⟨r, 0, 0, 0⟩ := by
  induction l generalizing d with
  | nil => rfl
  | cons x l ih =>
    rw [List.foldl_cons, ih (fun y hy => hr y (List.mem_cons_of_mem x hy)), rget_clearWritten_ne v d (hr x List.mem_cons_self)]

/-- A write of a word of W1C bits of different registers clears those written 1, and no other. -/
theorem rget_foldl_clearWritten (v : Nat) {l : List (Reg × Nat)} (hl : l.Pairwise (fun x y => x.1 ≠ y.1))
    (hbits : ∀ x ∈ l, x.1.bits = 1) (d : Dev) : ∀ x ∈ l,
      rget (l.foldl (clearWritten v) d) ⟨x.1, 0, 0, 0⟩ = if v.testBit x.2 then 0 else rget d ⟨x.1, 0, 0, 0⟩ := by
  induction l generalizing d with
  | nil => simp
  | cons y l ih =>
    obtain ⟨hy, hl⟩ := List.pairwise_cons.1 hl
    intro x hx
    rw [List.foldl_cons]
    rcases List.mem_cons.1 hx with rfl | hx
    · rw [rget_foldl_clearWritten_of_not_mem v hy, rget_clearWritten v d (hbits x List.mem_cons_self)]
    · rw [ih hl (fun z hz => hbits z (List.mem_cons_of_mem y hz)) _ x hx, rget_clearWritten_ne v d (hy x hx).symm]

/-- The W1C bits of the status word. -/
def statusBits : List (Reg × Nat) := [(.CLK_STEP_LIMIT, 3), (.CLK_BAD_ADVANCE, 4), (.CLK_BAD_SET, 5)]

theorem putWord_status (v : Nat) (d : Dev) : putWord 0x280110 v d = statusBits.foldl (clearWritten v) d := by
  simp [putWord, wordFields_status, bitField, putField, clearWritten, statusBits]

/-- An RWO register takes its first write only (R14). -/
theorem writeListed_verFloor (e : Env) (v : Nat) (imgs : List LoadImage) (d : Dev) : writeListed e 0x20 v imgs d =
    (e.nv, if ⟨.CFG_VER_FLOOR, 0, 0, 0⟩ ∈ d.onceWritten then regAccess e 0x20 true d
      else rset { d with onceWritten := d.onceWritten ++ [⟨.CFG_VER_FLOOR, 0, 0, 0⟩] } ⟨.CFG_VER_FLOOR, 0, 0, 0⟩ v) := by
  simp [writeListed, fillsWord_verFloor.wordFields, wholeField, writeSec, writeCore]

/-! A read and a write of a word of each type, and of a pair. -/

section
variable {s : State} (hs : Serves s)
include hs

theorem FillsWord.read_answers {off : Nat} {r : Reg} {t : FieldType} (h : FillsWord off r 0 t) (ht : t ≠ .wo)
    (hr : isPair r = false) : ∃ u, exec (.pairLowRead off 4) s = .next u ∧
      u.dev.outbox = s.dev.outbox ++ [.word (regView s.env s.dev ⟨r, 0, 0, 0⟩ % 2 ^ 32)] := by
  refine pairLowRead_answers hs h.ok ?_
  rw [readPaired_of_single (h.wordFields s.dev) hr, h.wordView ht, pow_zero, Nat.div_one]

theorem PairAt.read_low_answers {lo : Nat} {r : Reg} {t : FieldType} (h : PairAt lo r t) (ht : t ≠ .wo) :
    ∃ u, exec (.pairLowRead lo 4) s = .next u ∧
      u.dev.outbox = s.dev.outbox ++ [.word (regView s.env s.dev ⟨r, 0, 0, 0⟩ % 2 ^ 32)] := by
  refine pairLowRead_answers hs h.low.ok ?_
  rw [h.readPaired_low, h.low.wordView ht, pow_zero, Nat.div_one]

theorem PairAt.read_low_latches {lo : Nat} {r : Reg} {t : FieldType} (h : PairAt lo r t) (ht : t ≠ .wo) :
    ∃ u, exec (.pairLowRead lo 4) s = .next u ∧ Serves u ∧
      u.dev.outbox = s.dev.outbox ++ [.word (regView s.env s.dev ⟨r, 0, 0, 0⟩ % 2 ^ 32)] ∧
      tblGet u.dev.pairHigh (lo + 4) 0 = regView s.env s.dev ⟨r, 0, 0, 0⟩ / 2 ^ 32 % 2 ^ 32 + 1 := by
  have hlow := pairLowRead_next hs h.low.ok
  rw [h.readPaired_low, h.low.wordView ht, h.high.wordView ht, pow_zero, Nat.div_one] at hlow
  refine ⟨_, hlow, hs, rfl, ?_⟩
  dsimp only [emit]
  exact tblGet_tblSet_same ..

/-- The next read of the high word answers what was latched, whatever the clock says by then. -/
theorem PairAt.read_both_answer {lo : Nat} {r : Reg} {t : FieldType} (h : PairAt lo r t) (ht : t ≠ .wo) (later : Clock) :
    ∃ u, exec (.pairLowRead lo 4) s = .next u ∧
      u.dev.outbox = s.dev.outbox ++ [.word (regView s.env s.dev ⟨r, 0, 0, 0⟩ % 2 ^ 32)] ∧
      ∃ w, exec (.pairLowRead (lo + 4) 4) { u with clk := later } = .next w ∧
        w.dev.outbox = u.dev.outbox ++ [.word (regView s.env s.dev ⟨r, 0, 0, 0⟩ / 2 ^ 32 % 2 ^ 32)] := by
  obtain ⟨u, hlow, hu, hout, hlatch⟩ := h.read_low_latches hs ht
  have hlater : Serves { u with clk := later } := hu
  exact ⟨u, hlow, hout, pairLowRead_answers hlater h.high.ok (h.readPaired_high_latched _ _ hlatch)⟩

theorem read_triggers_answers_zero : ∃ u, exec (.pairLowRead 0x28012C 4) s = .next u ∧
    u.dev.outbox = s.dev.outbox ++ [.word 0] := by
  refine pairLowRead_answers hs (by decide) ?_
  rw [readPaired_of_single (wordFields_triggers s.dev) (by decide +kernel)]
  simp [wordView, wordFields_triggers, bitField, fieldBits]

theorem read_status_answers : ∃ u, exec (.pairLowRead 0x280110 4) s = .next u ∧
    u.dev.outbox = s.dev.outbox ++ [.word (wordView s.env s.dev 0x280110)] := by
  refine pairLowRead_answers hs (by decide) ?_
  rw [readPaired_of_single (wordFields_status s.dev) (by decide +kernel)]

theorem PairAt.write_low_waits {lo : Nat} {r : Reg} (h : PairAt lo r .rw) (hp : PlainReg ⟨r, 0, 0, 0⟩) (low : Word) :
    ∃ t, exec (.registerWrite lo 4 low) s = .next t ∧ Serves t ∧ rget t.dev ⟨r, 0, 0, 0⟩ = rget s.dev ⟨r, 0, 0, 0⟩ ∧
      tblGet t.dev.pairLow lo 0 = low.toNat + 1 := by
  have hlow := registerWrite_of_plain hs h.low.ok (h.low.wordFields s.dev) hp low
  rw [h.putWord_low] at hlow
  refine ⟨_, hlow, hs, rfl, ?_⟩
  dsimp only
  exact tblGet_tblSet_same ..

/-- A pair is applied whole, as its high word is written. -/
theorem PairAt.write_both {lo : Nat} {r : Reg} (h : PairAt lo r .rw) (hp : PlainReg ⟨r, 0, 0, 0⟩) (hr : r.bits = 64)
    (low high : Word) :
    ∃ t, exec (.registerWrite lo 4 low) s = .next t ∧ rget t.dev ⟨r, 0, 0, 0⟩ = rget s.dev ⟨r, 0, 0, 0⟩ ∧
      ∃ u, exec (.registerWrite (lo + 4) 4 high) t = .next u ∧
        rget u.dev ⟨r, 0, 0, 0⟩ = low.toNat + high.toNat * 2 ^ 32 := by
  obtain ⟨t, hlow, ht, hkeep, hwaits⟩ := h.write_low_waits hs hp low
  refine ⟨t, hlow, hkeep, _, registerWrite_of_plain ht h.high.ok (h.high.wordFields t.dev) hp high, ?_⟩
  dsimp only
  rw [h.putWord_high _ hwaits, rget_rset_same, hr, bitsOf_toNat_word]
  have hl := low.isLt
  have hh := high.isLt
  omega

theorem write_ro_ignored {lo : Nat} {r : Reg} {part : Nat} (h : FillsWord lo r part .ro) (hp : PlainReg ⟨r, 0, 0, 0⟩) (v : Word) :
    exec (.registerWrite lo 4 v) s = .next s := by
  rw [registerWrite_of_plain hs h.ok (h.wordFields s.dev) hp, h.putWord_ro]

theorem write_sat {off : Nat} {r : Reg} {part : Nat} (h : FillsWord off r part .sat) (hp : PlainReg ⟨r, 0, 0, 0⟩) (v : Word) :
    ∃ t, exec (.registerWrite off 4 v) s = .next t ∧
      rget t.dev ⟨r, 0, 0, 0⟩ = if v = 0 then 0 else rget s.dev ⟨r, 0, 0, 0⟩ := by
  refine ⟨_, registerWrite_of_plain hs h.ok (h.wordFields s.dev) hp v, ?_⟩
  dsimp only
  rw [h.putWord_sat]
  have hzero : v.toNat = 0 ↔ v = 0 := BitVec.toNat_inj (y := 0)
  by_cases hv : v = 0
  · simp [hv]
  · rw [if_neg (hzero.not.2 hv), if_neg hv]

theorem write_status (v : Word) : ∃ t, exec (.registerWrite 0x280110 4 v) s = .next t ∧
    ∀ x ∈ statusBits, rget t.dev ⟨x.1, 0, 0, 0⟩ = if v.toNat.testBit x.2 then 0 else rget s.dev ⟨x.1, 0, 0, 0⟩ := by
  have hwrite := registerWrite_of_plain hs (by decide) (wordFields_status s.dev) plain_rcBound v
  rw [putWord_status] at hwrite
  exact ⟨_, hwrite, rget_foldl_clearWritten v.toNat (by decide) (by decide) s.dev⟩

theorem write_verFloor_again (h : (⟨.CFG_VER_FLOOR, 0, 0, 0⟩ : RegKey) ∈ s.dev.onceWritten) (v : Word) :
    Gives (.registerWrite 0x20 4 v) s (regAccess s.env 0x20 true s.dev) := by
  rw [Gives, registerWrite_of_serves hs, writeWord_of_ok _ _ _ ⟨fillsWord_verFloor.ok, rfl⟩, writeListed_verFloor, if_pos h]
  rfl

theorem write_verFloor_first (h : (⟨.CFG_VER_FLOOR, 0, 0, 0⟩ : RegKey) ∉ s.dev.onceWritten) (v : Word) :
    ∃ t, exec (.registerWrite 0x20 4 v) s = .next t ∧ rget t.dev ⟨.CFG_VER_FLOOR, 0, 0, 0⟩ = v.toNat ∧
      (⟨.CFG_VER_FLOOR, 0, 0, 0⟩ : RegKey) ∈ t.dev.onceWritten := by
  have hwrite := registerWrite_of_serves hs 0x20 4 v
  rw [writeWord_of_ok _ _ _ ⟨fillsWord_verFloor.ok, rfl⟩, writeListed_verFloor, if_neg h] at hwrite
  refine ⟨_, hwrite, ?_, ?_⟩
  · dsimp only
    rw [rget_inCycle _ _ (by decide), rget_rset_same]
    exact Nat.mod_eq_of_lt v.isLt
  · simp

end

/-- Settles O60: each word named is of the kind that its type's lemma speaks of. -/
theorem registerTypesAndPairs : Obligations.RegisterTypesAndPairs := by
  intro s v lo hi later get write reads cleared hs
  have hrc := pairAt_rc.read_low_answers hs (by decide)
  have hft := pairAt_ft.read_both_answer hs (by decide) later
  have hignored := fillsWord_dbIgnored.read_answers hs (by decide) (by decide +kernel)
  have hfloor := fillsWord_verFloor.read_answers hs (by decide) (by decide +kernel)
  rw [regView_rc] at hrc
  rw [regView_ft] at hft
  rw [regView_dbIgnored, Nat.mod_mod, ← regOffset_dbIgnored] at hignored
  rw [regView_verFloor, ← regOffset_verFloor] at hfloor
  obtain ⟨hstep, hadv, hset⟩ := wordView_status_bits s.env s.dev
  obtain ⟨t, ht, hw1c⟩ := write_status hs v
  refine ⟨hrc, read_triggers_answers_zero hs, hignored, hfloor, ⟨_, read_status_answers hs, hstep, hadv, hset⟩,
    write_ro_ignored hs pairAt_rc.low plain_rc v,
    ⟨t, ht, hw1c (.CLK_STEP_LIMIT, 3) (by decide), hw1c (.CLK_BAD_ADVANCE, 4) (by decide), hw1c (.CLK_BAD_SET, 5) (by decide)⟩,
    ?_, fun hfirst => ?_, pairAt_rcSet.write_both hs plain_rcSet rfl lo hi, hft⟩
  · rw [regOffset_dbIgnored]
    exact write_sat hs fillsWord_dbIgnored plain_dbIgnored v
  · obtain ⟨t, hnext, hval, honce⟩ := write_verFloor_first hs hfirst v
    rw [regOffset_verFloor]
    exact ⟨t, hnext, hval, fun u hu heq => write_verFloor_again hu (heq ▸ honce) lo⟩

end Sys2Proof.Machine
end

section
/-! SUPPORT. Fabric time (R46, R305, R377): what a step may do to the clock. Commands let no time pass, but for TIME from the
parent; a nanosecond without a command brings fabric time forward by at most 2. -/

namespace Sys2Proof.Machine

/-- In t the count of nanoseconds is that of c, and so is fabric time as long as the module runs. -/
structure TimeStands (c : Clock) (t : State) : Prop where
  ns : t.clk.ns = c.ns
  ft : Runs t → t.clk.ft = c.ft

theorem TimeStands.of_clk {c : Clock} {t : State} (h : t.clk = c) : TimeStands c t := ⟨by rw [h], fun _ => by rw [h]⟩

/-- An outcome after which no time has passed. -/
def Stands (c : Clock) (o : Host.Outcome State Fault Refusal) : Prop := ∀ t, o = .next t → TimeStands c t

theorem stands_next {c : Clock} {t : State} (h : TimeStands c t) : Stands c (.next t) := by
  rintro u ⟨⟩; exact h

theorem stands_refused (c : Clock) (r : Refusal) : Stands c (.refused r) := by rintro t ⟨⟩

theorem stands_ite {c : Clock} {p : Prop} [Decidable p] {a b : Host.Outcome State Fault Refusal} (ha : Stands c a)
    (hb : Stands c b) : Stands c (if p then a else b) := by split <;> assumption

/-! The ways in which commands reach the device. -/

theorem stands_act (s : State) (ok : Bool) (f : Env → Dev → Dev) : Stands s.clk (act s ok f) :=
  stands_ite (stands_next (.of_clk rfl)) (stands_refused _ _)

theorem stands_actT (s : State) (ok : Bool) (f : Env → Dev → Dev) : Stands s.clk (actT s ok f) := stands_act s ok _

theorem stands_actNv (s : State) (f : Env → Dev → NonVol × Dev) : Stands s.clk (actNv s f) :=
  stands_ite (stands_next (.of_clk rfl)) (stands_next (.of_clk rfl))

theorem stands_actTNv (s : State) (f : Env → Dev → NonVol × Dev) : Stands s.clk (actTNv s f) := stands_actNv s _

theorem stands_actP (s : State) (f : Env → Dev → Dev) : Stands s.clk (actP s f) := stands_next (.of_clk rfl)

/-! Supplies and reset: where the state is lost, the module does not run. -/

section
variable {c : Clock} {s : State} (hc : s.clk = c)
include hc

theorem timeStands_loseAll {pw : Power} (hpw : pw ≠ .running) (pwrgd : Bool) : TimeStands c (loseAll pw pwrgd s) :=
  ⟨by rw [← hc]; rfl, fun hruns => absurd hruns hpw⟩

theorem timeStands_shutDown : TimeStands c (shutDown s) := by
  unfold shutDown
  refine timeStands_loseAll ?_ (by decide) false
  exact hc

theorem timeStands_vinFails : TimeStands c (vinFails s) := ⟨(timeStands_shutDown hc).ns, (timeStands_shutDown hc).ft⟩

theorem timeStands_throttlePin (high : Bool) : TimeStands c (throttlePin high s) := by
  unfold throttlePin
  exact .of_clk hc

theorem timeStands_softStart : TimeStands c (softStart s) := by
  unfold softStart
  split <;> exact .of_clk hc

theorem timeStands_resetSeen : TimeStands c (resetSeen s) := by
  unfold resetSeen
  dsimp only
  split
  · exact .of_clk hc
  · split
    · split <;> exact .of_clk hc
    · split
      · refine timeStands_loseAll ?_ (by decide) true
        exact hc
      · exact .of_clk hc

theorem timeStands_railsUp : TimeStands c (railsUp s) := by
  unfold railsUp
  split
  · exact timeStands_resetSeen hc
  · exact .of_clk hc

theorem timeStands_identityMade (modulus : Nat) (signer cert : List Byte) :
    TimeStands c (identityMade modulus signer cert s) := by
  unfold identityMade
  split <;> exact .of_clk hc

theorem timeStands_pinsBack : TimeStands c (pinsBack s) := by
  unfold pinsBack
  exact timeStands_resetSeen hc

end

theorem stands_actTap (s : State) (f : Env → Dev → NonVol × Dev) : Stands s.clk (actTap s f) := by
  refine stands_ite (stands_next ?_) (stands_next (.of_clk rfl))
  split
  · exact timeStands_pinsBack rfl
  · exact .of_clk rfl

theorem stands_actJ (s : State) (f : Env → Dev → Dev) : Stands s.clk (actJ s f) := stands_actTap s _

theorem stands_execRefclk100ALoss (s : State) : Stands s.clk (execRefclk100ALoss s) := by
  refine stands_next ?_
  dsimp only
  split <;> exact ⟨rfl, fun _ => rfl⟩

/-- No command but TIME moves fabric time while the module runs. -/
theorem exec_stands {i : Instr} (hi : ∀ n, i ≠ .time n) (s : State) : Stands s.clk (exec i s) := by
  cases i <;> dsimp only [exec]
  case time n => exact absurd rfl (hi n)
  case refclk100ALoss => exact stands_execRefclk100ALoss s
  case undervoltageShutdown | overvoltageShutdown => exact stands_next (timeStands_vinFails rfl)
  case refclk100BLoss | breakerTrip => exact stands_next (timeStands_shutDown rfl)
  case modMatedNHigh => exact stands_next (timeStands_shutDown rfl)
  case powerUp => exact stands_next (timeStands_softStart rfl)
  case modMatedNLow => exact stands_next (timeStands_softStart rfl)
  case modRstNAssert | modRstNDeassert => exact stands_next (timeStands_resetSeen rfl)
  case railsInRegulation => exact stands_next (timeStands_railsUp rfl)
  case identityKeyGenerated => exact stands_next (timeStands_identityMade rfl _ _ _)
  case throttleAssert | throttleRelease => exact stands_next (timeStands_throttlePin rfl _)
  case cfgCommitDone | fuseOpDone | verifyDone => exact stands_actNv s _
  case secFwAlive | secCalApply | registerWrite => exact stands_actTNv s _
  case monConfigWrite => exact stands_ite (stands_actTNv s _) (stands_refused _ _)
  case regRead | mboxWrite | mboxRead | entdaa | rstdaa | enec | disec | getpid | getbcr | getdcr | getstatus | getmwl | getmrl
    | hotJoin => exact stands_actP s _
  case extest | idcode | samplePreload | clamp | highz | jtagTrstN => exact stands_actJ s _
  case dbgAccess => exact stands_actTap s _
  case bypass => exact stands_ite (stands_actJ s _) (stands_next (.of_clk rfl))
  case ringDoorbell | ringCmdRetry | ringEn | ringCqCons | ringEqCons | ethDoorbell | ethQpEn | tileDmaPause | tileDmaResume
    | tileHalt | tileResume | tilePenWrite | tileCtxEn | hbmRetireGo | clkArmGo | clkArmCancel | clkRcSetGo | lnkEnSet
    | lnkEnClear | lnkRetrainGo | lnkLaneRetire | lnkHoistEnter | lnkHoistAbandon | testRcpGo | testRcpAbort | pwrBudgetW
    | cfgStage | cfgStageClear | cfgCommit | cfgMboxInAck | cfgMboxOutPost | secArbAdvance | secOwnerBurn | secOwnerRevoke
    | secVerifyGo | secFwHandover | secUcGo | secAttGo | testMarkSuspect | testMarkNote | testDrain | testPackLoad | testLGo
    | testLAbort | testLTile | monClear | monSnapGo | logDrainEn | logRingCons | pairLowRead => exact stands_actT s _ _
  all_goals exact stands_act s _ _

/-! TIME, and one nanosecond without a command. -/

/-- What a clock may become in one step of a module that runs: fabric time does not fall, and it rises by more than 2 ns only
under `jump`. -/
structure TimeAdvances (jump : Prop) (c c' : Clock) : Prop where
  ns : c.ns ≤ c'.ns
  ft : c.ft ≤ c'.ft
  bound : c.ft + 2 < c'.ft → jump

theorem TimeAdvances.of_same {jump : Prop} {c c' : Clock} (hns : c'.ns = c.ns) (hft : c'.ft = c.ft) : TimeAdvances jump c c' :=
  ⟨hns.ge, hft.ge, fun h => by omega⟩

theorem timeAdvances_tickClock (jump : Prop) (c : Clock) : TimeAdvances jump c (tickClock c) := by
  unfold tickClock
  dsimp only
  split
  · exact ⟨by simp, by simp, by simp⟩
  · split
    · exact ⟨by simp, by simp, by simp⟩
    · split <;> exact ⟨by simp, by simp, by simp⟩

/-- A TIME moves fabric time only at the first alignment, forward (R46, R305). -/
theorem timeAdvances_discipline (synced : Bool) (x : Nat) (c : Clock) :
    TimeAdvances (synced = false) c (discipline synced x c) := by
  unfold discipline
  dsimp only
  cases synced with
  | false =>
    rw [if_pos (by rfl)]
    split
    · exact ⟨le_rfl, by assumption, fun _ => rfl⟩
    · exact .of_same rfl rfl
  | true =>
    rw [if_neg (by simp)]
    split <;> exact .of_same rfl rfl

theorem freeWords_regs (inp : Nat) (p : Pkt) (d : Dev) : (freeWords inp p d).regs = d.regs := by
  unfold freeWords
  split <;> rfl

theorem takeHead_regs {d d' : Dev} {inp v : Nat} {ok : Queued → Bool} {q : Queued} (h : takeHead d inp v ok = some (q, d')) :
    d'.regs = d.regs := by
  unfold takeHead at h
  dsimp only at h
  split at h
  · split at h
    · have hd := congrArg Prod.snd (Option.some.inj h)
      dsimp only at hd
      rw [← hd, freeWords_regs]
      rfl
    · cases h
  · cases h

/-- Taking a control packet changes no register. -/
theorem takeCtl_regs {d d' : Dev} {n type : Nat} {p : Pkt} (h : takeCtl d n type = some (p, d')) : d'.regs = d.regs := by
  obtain ⟨⟨q, d1⟩, hhead, hq⟩ := Option.map_eq_some_iff.1 h
  have hd : d1 = d' := congrArg Prod.snd hq
  exact hd ▸ takeHead_regs hhead

theorem rget_congr {d d' : Dev} (h : d'.regs = d.regs) (k : RegKey) : rget d' k = rget d k := by rw [rget, h, rget]

theorem ftSynced_congr {d d' : Dev} (h : d'.regs = d.regs) : ftSynced d' = ftSynced d := by
  simp only [ftSynced, ftMaster, rget_congr h]

/-- TIME on link n: only as the parent's does it jump, before the first alignment. -/
theorem timeAdvances_timeArrives (n : Nat) (s : State) :
    TimeAdvances (ftSynced s.dev = false ∧ rget s.dev ⟨.LNK_HOIST_PARENT, 0, 0, 0⟩ = n) s.clk (timeArrives n s).clk := by
  unfold timeArrives
  split
  · exact .of_same rfl rfl
  · rename_i p d hctl
    have hregs := takeCtl_regs hctl
    split
    · rename_i hparent
      obtain ⟨hns, hft, hjump⟩ := timeAdvances_discipline (ftSynced d) (p.body + lget d .LNK_DELAY n / 16) s.clk
      refine ⟨hns, hft, fun h => ⟨ftSynced_congr hregs ▸ hjump h, ?_⟩⟩
      rwa [rget_congr hregs] at hparent
    · exact .of_same rfl rfl

/-- What a step may do to the clock: forward by at most 2 ns but under `jump`, as long as the module runs. -/
structure TimeKept (jump : Prop) (s t : State) : Prop where
  ns : s.clk.ns ≤ t.clk.ns
  running : Runs s → Runs t → TimeAdvances jump s.clk t.clk

theorem TimeAdvances.kept {jump : Prop} {s t : State} (h : TimeAdvances jump s.clk t.clk) : TimeKept jump s t :=
  ⟨h.ns, fun _ _ => h⟩

theorem TimeStands.kept {s t : State} (h : TimeStands s.clk t) (jump : Prop) : TimeKept jump s t :=
  ⟨h.ns.ge, fun _ ht => .of_same h.ns (h.ft ht)⟩

theorem tick_kept (jump : Prop) (s : State) : TimeKept jump s (tick s) := by
  have h := timeAdvances_tickClock jump s.clk
  unfold tick
  dsimp only
  split
  · exact TimeAdvances.kept h
  · exact ⟨h.ns, fun hs => absurd hs ‹_›⟩

theorem exec_time_kept {n : Nat} {s t : State} (h : exec (.time n) s = .next t) :
    TimeKept (ftSynced s.dev = false ∧ rget s.dev ⟨.LNK_HOIST_PARENT, 0, 0, 0⟩ = n) s t := by
  dsimp only [exec, execTime] at h
  split at h
  · simp only [Host.Outcome.next.injEq] at h
    subst h
    split
    · exact (timeAdvances_timeArrives n s).kept
    · exact (TimeStands.of_clk rfl).kept _
  · cases h

/-- The step keeps time; a jump is a TIME of the parent before the first alignment. -/
theorem step_kept {s t : State} (h : step s = .next t) :
    TimeKept (ftSynced s.dev = false ∧
      ∃ rest, s.pending = .time (rget s.dev ⟨.LNK_HOIST_PARENT, 0, 0, 0⟩) :: rest) s t := by
  unfold step at h
  split at h
  · simp only [Host.Outcome.next.injEq] at h
    exact h ▸ tick_kept _ s
  · rename_i i rest hq
    by_cases hi : ∃ n, i = .time n
    · obtain ⟨n, rfl⟩ := hi
      obtain ⟨hns, hrun⟩ := exec_time_kept h
      refine ⟨hns, fun hs ht => ?_⟩
      obtain ⟨hns', hft, hjump⟩ := hrun hs ht
      refine ⟨hns', hft, fun hlarge => ?_⟩
      obtain ⟨hsync, hparent⟩ := hjump hlarge
      exact ⟨hsync, rest, by rw [hq, ← hparent]⟩
    · have hstands : TimeStands s.clk t := exec_stands (not_exists.1 hi) { s with pending := rest } t h
      exact hstands.kept _

/-- Settles O5: no command but TIME moves fabric time, and TIME moves it only forward, before the first alignment. -/
theorem fabricTimeNeverGoesBack : Obligations.FabricTimeNeverGoesBack := by
  intro s t h
  obtain ⟨hns, hrun⟩ := step_kept h
  exact ⟨hns, fun hs ht => ⟨(hrun hs ht).ft, (hrun hs ht).bound⟩⟩

end Sys2Proof.Machine
end

section
/-! SUPPORT. The idle step and the state after reset (R46, R388, R432), and control records (R84, R85). -/

namespace Sys2Proof.Machine

/-! The idle step. -/

theorem step_idle {s : State} (h : s.pending = []) : step s = .next (tick s) := by rw [step, h]

theorem tickClock_ns (c : Clock) : (tickClock c).ns = c.ns + 1 := by
  unfold tickClock
  dsimp only
  split_ifs <;> rfl

theorem tick_of_runs {s : State} (h : Runs s) :
    tick s = { s with clk := tickClock s.clk, dev := tickDev ⟨tickClock s.clk, s.nv⟩ (s.clk.ns + 1) s.dev } := by
  rw [← tickClock_ns]
  exact if_pos h

theorem tick_of_not_runs {s : State} (h : ¬ Runs s) : tick s = { s with clk := { s.clk with ns := s.clk.ns + 1 } } := by
  rw [← tickClock_ns]
  exact if_neg h

/-- Settles O2: the idle step is one nanosecond, and reset is the state with nothing written. -/
theorem idleAndReset : Obligations.IdleAndReset := by
  refine ⟨fun s hs => ⟨tick s, step_idle hs, ?_⟩, rfl, rfl, rfl, rfl, fun k => rfl, fun a => ⟨rfl, rfl, rfl, rfl, rfl⟩,
    rfl, rfl, rfl, rfl, rfl, rfl⟩
  by_cases h : Runs s
  · rw [tick_of_runs h]
    exact ⟨tickClock_ns _, rfl, hs, fun _ => ⟨rfl, rfl⟩, fun hn => absurd h hn⟩
  · rw [tick_of_not_runs h]
    exact ⟨rfl, rfl, hs, fun hr => absurd hr h, fun _ => ⟨rfl, rfl⟩⟩

/-! Control records. -/

theorem loopNext_last (b : Nat) (l : List (Nat × Nat)) : loopNext ((b, 1) :: l) = l := rfl

theorem loopNext_again (b : Nat) {n : Nat} (hn : 1 < n) (l : List (Nat × Nat)) : loopNext ((b, n) :: l) = (b, n - 1) :: l :=
  if_neg (by omega)

section
variable {s : State} {p h c : Nat} {x : (List WinEnt × WinEnt) × Nat}

theorem nop_gives (hx : NextControl s p h c 0x00 x) : Gives (.nop p h c) s (issuedControl s p h c x).2 := by
  simpa only [runNop] using gives_of_control (run := runNop) (i := .nop p h c) hx rfl

theorem loopStart_gives (hx : NextControl s p h c 0x01 x) :
    let w := (issuedControl s p h c x).1
    let d := (issuedControl s p h c x).2
    Gives (.loopStart p h c) s (setStrm d p h c
      { getStrm d p h c with loops := (w.idx + 1, paramOf w.a 0) :: (getStrm d p h c).loops }) :=
  gives_of_control (run := runLoopStart) hx rfl

theorem loopEnd_gives {left : List (Nat × Nat)} (hx : NextControl s p h c 0x02 x)
    (hleft : loopNext (getStrm (issuedControl s p h c x).2 p h c).loops = left) :
    let d := (issuedControl s p h c x).2
    Gives (.loopEnd p h c) s (setStrm d p h c { getStrm d p h c with loops := left }) :=
  hleft ▸ gives_of_control (run := runLoopEnd) hx rfl

theorem advance_gives (hx : NextControl s p h c 0x03 x) :
    let w := (issuedControl s p h c x).1
    let d := (issuedControl s p h c x).2
    Gives (.advance p h c) s (runAdvance s.env p h c w d).dev :=
  gives_of_control (run := runAdvance) hx rfl

theorem endStream_gives (hx : NextControl s p h c 0x04 x) :
    let d := (issuedControl s p h c x).2
    Gives (.endStream p h c) s (setStrm d p h c { getStrm d p h c with ended := true }) :=
  gives_of_control (run := runEnd) hx rfl

end

/-- Settles O12: each record's run, as the oldest unissued record of its stream. -/
theorem controlRecords : Obligations.ControlRecords := by
  intro s p h c x
  exact ⟨nop_gives, loopStart_gives, fun b l hx hl => loopEnd_gives hx (hl ▸ loopNext_last b l),
    fun b n l hx hl hn => loopEnd_gives hx (hl ▸ loopNext_again b hn l), advance_gives, endStream_gives⟩

end Sys2Proof.Machine
end

section
/-! SUPPORT. Groups of advances (R34, R35, R49, R325), armed events (R37 to R41, R51) and the coordinate set (R43): what each
verdict, code and firing does. -/

namespace Sys2Proof.Machine

/-- A command on a unit that exists gives what its meaning says, while the module runs. -/
theorem gives_of_act {s : State} {i : Instr} {ok : Bool} {f : Env → Dev → Dev} (hi : exec i s = act s ok f) (hok : ok = true)
    (h : Runs s) : Gives i s (f s.env s.dev) := by
  unfold Runs at h
  simp [Gives, hi, act, hok, h, State.env]

/-! The verdict on a group. -/

section
variable {d : Dev} {c pos v : Nat} {vs : List (Option Nat)}

theorem judgeGroup_eq (hg : groupValues d c (getCtx d c).judged = some vs) (hfirst : (vs.filterMap id).head? = some v) :
    judgeGroup d c pos =
      if vs.any (fun x => x ≠ some v) then .differs v
      else if rcStep v = 2 ^ 40 - 1 then .limit v
      else if v ≤ pos then .notGreater v
      else .takes v := by
  obtain ⟨l, hl⟩ := List.head?_eq_some_iff.1 hfirst
  unfold judgeGroup
  simp only [hg]
  rw [hl]

variable (hg : groupValues d c (getCtx d c).judged = some vs) (hfirst : (vs.filterMap id).head? = some v)
include hg hfirst

theorem judgeGroup_differs (hsame : ¬ ∀ y ∈ vs, y = some v) : judgeGroup d c pos = .differs v := by
  rw [judgeGroup_eq hg hfirst, if_pos (by simpa using hsame)]

variable (hsame : ∀ y ∈ vs, y = some v)
include hsame

theorem judgeGroup_same : judgeGroup d c pos =
    if rcStep v = 2 ^ 40 - 1 then .limit v else if v ≤ pos then .notGreater v else .takes v := by
  rw [judgeGroup_eq hg hfirst, if_neg (by simpa using hsame)]

theorem judgeGroup_limit (hlimit : rcStep v = 2 ^ 40 - 1) : judgeGroup d c pos = .limit v := by
  rw [judgeGroup_same hg hfirst hsame, if_pos hlimit]

theorem judgeGroup_notGreater (hlimit : ¬ rcStep v = 2 ^ 40 - 1) (hle : v ≤ pos) : judgeGroup d c pos = .notGreater v := by
  rw [judgeGroup_same hg hfirst hsame, if_neg hlimit, if_pos hle]

theorem judgeGroup_takes (hlimit : ¬ rcStep v = 2 ^ 40 - 1) (hlt : pos < v) : judgeGroup d c pos = .takes v := by
  rw [judgeGroup_same hg hfirst hsame, if_neg hlimit, if_neg (Nat.not_le.2 hlt)]

end

/-! What follows on a verdict: for the pacing context, and for another. -/

/-- The device after a group of the pacing context is judged. -/
def advanceVerdict (e : Env) (c : Nat) (d : Dev) : GroupVerdict → Dev
  | .waits => d
  | .differs v => badAdvance e c v (groupJudged c d)
  | .notGreater v => badAdvance e c v (groupJudged c d)
  | .limit v => stepLimit e c v (groupJudged c d)
  | .takes v => takeCoord e c v (groupJudged c d)

/-- The device after a group of another context is judged. -/
def positionVerdict (e : Env) (c : Nat) (d : Dev) : GroupVerdict → Dev
  | .waits => d
  | .differs _ => badPosition e c (groupJudged c d)
  | .notGreater _ => badPosition e c (groupJudged c d)
  | .limit v => stepLimit e c v (groupJudged c d)
  | .takes v => updCtx (ratioLeaves c (getCtx d c).pos (groupJudged c d)) c (fun x => { x with pos := v })

theorem advanceJudged_eq {d : Dev} {c : Nat} {g : GroupVerdict} (hp : pacingCtx d = some c) (hstop : d.rcStopped = false)
    (hg : judgeGroup d c d.rc = g) (e : Env) : advanceJudged e d = advanceVerdict e c d g := by
  simp only [advanceJudged, hp, hstop, hg]
  cases g <;> simp only [advanceVerdict, Bool.false_eq_true, if_false]

theorem positionJudged_eq {d : Dev} {c : Nat} {g : GroupVerdict} (hp : pacingCtx d ≠ some c) (hstop : d.rcStopped = false)
    (hg : judgeGroup d c (getCtx d c).pos = g) (e : Env) : positionJudged e c d = positionVerdict e c d g := by
  simp only [positionJudged, hp, hstop, hg, Bool.false_eq_true, or_self, if_false]
  cases g <;> simp only [positionVerdict]

theorem advanceGroupJudge_gives {s : State} {c : Nat} {g : GroupVerdict} (hr : Runs s) (hstop : s.dev.rcStopped = false)
    (hp : pacingCtx s.dev = some c) (hg : judgeGroup s.dev c s.dev.rc = g) :
    Gives .advanceGroupJudge s (advanceVerdict s.env c s.dev g) :=
  advanceJudged_eq hp hstop hg s.env ▸ gives_of_act (f := fun e d => advanceJudged e d) rfl rfl hr

theorem collectivePositionGroup_gives {s : State} {c : Nat} {g : GroupVerdict} (hc : c < 8) (hr : Runs s)
    (hstop : s.dev.rcStopped = false) (hp : pacingCtx s.dev ≠ some c) (hg : judgeGroup s.dev c (getCtx s.dev c).pos = g) :
    Gives (.collectivePositionGroup c) s (positionVerdict s.env c s.dev g) :=
  positionJudged_eq hp hstop hg s.env ▸
    gives_of_act (f := fun e d => positionJudged e c d) rfl (decide_eq_true hc) hr

/-- Settles O33: the verdict on the group, and what follows on it. -/
theorem advanceGroupsAreJudged : Obligations.AdvanceGroupsAreJudged := by
  intro s c v vs
  dsimp only
  intro hc hr hstop hg hfirst
  have pacing {g : GroupVerdict} (hp : pacingCtx s.dev = some c) := advanceGroupJudge_gives (g := g) hr hstop hp
  have other {g : GroupVerdict} (hp : pacingCtx s.dev ≠ some c) := collectivePositionGroup_gives (g := g) hc hr hstop hp
  refine ⟨fun hp => ⟨fun hs hl hlt => gives_congr (pacing hp (judgeGroup_takes hg hfirst hs hl hlt)) ?_,
      fun hs => gives_congr (pacing hp (judgeGroup_differs hg hfirst hs)) ?_,
      fun hs hl hle => gives_congr (pacing hp (judgeGroup_notGreater hg hfirst hs hl hle)) ?_,
      fun hs hl => gives_congr (pacing hp (judgeGroup_limit hg hfirst hs hl)) ?_⟩,
    fun hp => ⟨fun hs hl hlt => gives_congr (other hp (judgeGroup_takes hg hfirst hs hl hlt)) ?_,
      fun hs => gives_congr (other hp (judgeGroup_differs hg hfirst hs)) ?_,
      fun hs hl hle => gives_congr (other hp (judgeGroup_notGreater hg hfirst hs hl hle)) ?_,
      fun hs hl => gives_congr (other hp (judgeGroup_limit hg hfirst hs hl)) ?_⟩⟩
  all_goals simp only [advanceVerdict, positionVerdict, badAdvance, badPosition, stepLimit, groupJudged, updCtx, rbit]

end Sys2Proof.Machine
end

section
/-! SUPPORT. Armed events (R37 to R41, R51): what a firing changes in their table, and what an arm request, a cancel and a
coordinate set answer (R38, R41, R43, R52, R447). -/

namespace Sys2Proof.Machine

/-! What a firing and a leaving of a coordinate keep. -/

/-- The devices agree on the run coordinate and the table of armed events. -/
structure SameCoord (d d' : Dev) : Prop where
  rc : d'.rc = d.rc
  armed : d'.armed = d.armed

theorem SameCoord.refl (d : Dev) : SameCoord d d := ⟨rfl, rfl⟩

theorem SameCoord.trans {a b c : Dev} (h : SameCoord a b) (k : SameCoord b c) : SameCoord a c :=
  ⟨k.rc.trans h.rc, k.armed.trans h.armed⟩

theorem SameButLog.coord {d d' : Dev} (h : SameButLog d d') : SameCoord d d' := ⟨h.rc, h.armed⟩

theorem sameCoord_foldl {α : Type} (f : Dev → α → Dev) (hf : ∀ d a, SameCoord d (f d a)) (l : List α) (d : Dev) :
    SameCoord d (l.foldl f d) := by
  induction l generalizing d with
  | nil => exact .refl d
  | cons a l ih => exact (hf d a).trans (ih (f d a))

theorem sameCoord_rset (d : Dev) (k : RegKey) (v : Nat) : SameCoord d (rset d k v) := ⟨rfl, rfl⟩

theorem sameCoord_setStrm (d : Dev) (p h c : Nat) (x : Strm) : SameCoord d (setStrm d p h c x) := ⟨rfl, rfl⟩

theorem sameCoord_groupJudged (c : Nat) (d : Dev) : SameCoord d (groupJudged c d) := ⟨rfl, rfl⟩

theorem sameCoord_pushSample (x : Sample) (d : Dev) : SameCoord d (pushSample x d) := by
  unfold pushSample
  split <;> exact ⟨rfl, rfl⟩

theorem sameCoord_ratioLeaves (c old : Nat) (d : Dev) : SameCoord d (ratioLeaves c old d) := by
  unfold ratioLeaves
  dsimp only
  split
  · exact .refl d
  · have hbanks := sameCoord_foldl (fun d (t : Nat × Nat) =>
      setStrm d t.1 t.2 c { getStrm d t.1 t.2 c with banks := (getStrm d t.1 t.2 c).banks.drop 1 })
      (fun d t => sameCoord_setStrm d t.1 t.2 c _) (logicalTiles d c) d
    split
    · exact hbanks
    · exact hbanks.trans ((sameCoord_rset _ _ _).trans (sameCoord_pushSample _ _))

theorem sameCoord_monClear (d : Dev) (m : Nat) : SameCoord d (monClear m d) := by
  have hbuckets := sameCoord_foldl (fun d b => rset d ⟨.MON_BUCKET, m, b, 0⟩ 0) (fun d b => sameCoord_rset d _ 0)
    (List.range 32)
  constructor
  · simp only [monClear, fun x => (hbuckets x).rc, rset_rc]
  · simp only [monClear, fun x => (hbuckets x).armed, rset_armed]

theorem sameCoord_takeSnapshot (e : Env) (action : Nat) (d : Dev) : SameCoord d (takeSnapshot e action d) := by
  unfold takeSnapshot
  dsimp only
  split
  · exact .refl d
  · split
    · exact (sameButLog_satAdd _ _ _ _).coord
    · split
      · have hclear := sameCoord_foldl (fun d m => monClear m d) sameCoord_monClear
        refine SameCoord.trans ?_ (hclear _ _)
        exact ⟨rfl, rfl⟩
      · exact ⟨rfl, rfl⟩

theorem sameCoord_epPublish {g x : Nat} {d d' : Dev} (h : epPublish g x d = some d') : SameCoord d d' := by
  unfold epPublish at h
  split at h
  · cases h
  · cases h
    refine SameCoord.trans ?_ (((sameCoord_rset ..).trans (sameCoord_rset ..)).trans (sameCoord_rset ..))
    split
    · exact (sameCoord_rset ..).trans (sameCoord_rset ..)
    · exact .refl d

theorem sameCoord_fireEffect (e : Env) (a : Armed) (d : Dev) : SameCoord d (fireEffect e a d).1 := by
  unfold fireEffect
  split
  · split
    · exact sameCoord_epPublish ‹_›
    · exact .refl d
  · exact ⟨rfl, rfl⟩
  · exact ⟨rfl, rfl⟩
  · split <;> exact ⟨rfl, rfl⟩
  · exact sameCoord_takeSnapshot e a.action d
  · exact .refl d

/-! The table after what is due has fired. -/

/-- An entry after the entries of some places have fired. -/
def firedAt (slots : List Nat) (x : Armed) : Armed := { x with fired := x.fired || slots.contains x.slot }

theorem firedAt_firedAt (s t : List Nat) (x : Armed) : firedAt t (firedAt s x) = firedAt (s ++ t) x := by
  simp [firedAt, Bool.or_assoc]

theorem firedAt_nil (x : Armed) : firedAt [] x = x := by simp [firedAt]

theorem firedAt_singleton (slot : Nat) (x : Armed) :
    (if x.slot = slot then { x with fired := true } else x) = firedAt [slot] x := by
  by_cases h : x.slot = slot <;> simp [firedAt, h]

theorem fireOne_coord (e : Env) (d : Dev) (a : Armed) :
    SameCoord { d with armed := d.armed.map (firedAt [a.slot]) } (fireOne e d a) := by
  have hmap : d.armed.map (fun x => if x.slot = a.slot then { x with fired := true } else x) = d.armed.map (firedAt [a.slot]) :=
    List.map_congr_left (fun x _ => firedAt_singleton a.slot x)
  unfold fireOne
  rw [hmap]
  have heffect := sameCoord_fireEffect e a { d with armed := d.armed.map (firedAt [a.slot]) }
  have hevent (x : Dev) (body : Nat) : SameCoord x (pushEvent e a.ctx 1 body x) := (sameButLog_pushEvent _ _ _ _ _).coord
  dsimp only
  split
  · exact (heffect.trans (hevent _ _)).trans (sameButLog_logError _ _ _).coord
  · exact heffect.trans (hevent _ _)

theorem foldl_fireOne_coord (e : Env) (l : List Armed) (d : Dev) :
    SameCoord { d with armed := d.armed.map (firedAt (l.map Armed.slot)) } (l.foldl (fireOne e) d) := by
  induction l generalizing d with
  | nil => exact ⟨rfl, (List.map_id'' firedAt_nil d.armed).symm⟩
  | cons a l ih =>
    obtain ⟨hrc, harmed⟩ := fireOne_coord e d a
    obtain ⟨ihrc, iharmed⟩ := ih (fireOne e d a)
    refine ⟨ihrc.trans hrc, iharmed.trans ?_⟩
    dsimp only at harmed ⊢
    rw [harmed, List.map_map]
    exact List.map_congr_left (fun x _ => firedAt_firedAt [a.slot] (l.map Armed.slot) x)

/-- The places of the entries due at a coordinate. -/
def dueSlots (d : Dev) (v : Nat) : List Nat := (dueEvents d v).map Armed.slot

theorem mem_dueSlots {d : Dev} {v n : Nat} :
    n ∈ dueSlots d v ↔ ∃ a ∈ d.armed, a.fired = false ∧ a.coord ≤ v ∧ a.slot = n := by
  simp [dueSlots, dueEvents, and_assoc]

theorem fireDue_coord (e : Env) (v : Nat) (d : Dev) :
    SameCoord { d with armed := d.armed.map (firedAt (dueSlots d v)) } (fireDue e v d) :=
  foldl_fireOne_coord e (dueEvents d v) d

theorem takeCoord_rc (e : Env) (c v : Nat) (d : Dev) : (takeCoord e c v d).rc = v := (fireDue_coord e v _).rc

/-- Every entry that the taking of a coordinate leaves in the table stood there before, and has fired if its place was due. -/
theorem mem_takeCoord_armed {e : Env} {c v : Nat} {d : Dev} {b : Armed} (hb : b ∈ (takeCoord e c v d).armed) :
    ∃ a ∈ d.armed, b = firedAt (dueSlots d v) a := by
  have hleft := sameCoord_ratioLeaves c d.rc d
  have harmed := (fireDue_coord e v { ratioLeaves c d.rc d with rc := v }).armed
  have hfire := List.mem_of_mem_filter hb
  rw [harmed] at hfire
  obtain ⟨a, ha, rfl⟩ := List.mem_map.1 hfire
  have hslots : dueSlots { ratioLeaves c d.rc d with rc := v } v = dueSlots d v := by
    simp only [dueSlots, dueEvents, hleft.armed]
  exact ⟨a, hleft.armed ▸ ha, by rw [hslots]⟩

theorem firedAt_due {d : Dev} {v : Nat} {a : Armed} (ha : a ∈ d.armed) (hle : a.coord ≤ v) :
    (firedAt (dueSlots d v) a).fired = true := by
  cases hf : a.fired with
  | true => simp [firedAt, hf]
  | false =>
    have hdue : a.slot ∈ dueSlots d v := mem_dueSlots.2 ⟨a, ha, hf, hle, rfl⟩
    simp [firedAt, hdue]

theorem firedAt_not_due {d : Dev} {v : Nat} {a : Armed} (habove : ∀ x ∈ d.armed, x.slot = a.slot → v < x.coord) :
    (firedAt (dueSlots d v) a).fired = a.fired := by
  have hnot : a.slot ∉ dueSlots d v := by
    intro hdue
    obtain ⟨x, hx, -, hle, hslot⟩ := mem_dueSlots.1 hdue
    exact absurd hle (Nat.not_le.2 (habove x hx hslot))
  simp [firedAt, hnot]

theorem head?_filterMap_id_of_same {v : Nat} {vs : List (Option Nat)} (hv : some v ∈ vs) (hsame : ∀ y ∈ vs, y = some v) :
    (vs.filterMap id).head? = some v := by
  cases vs with
  | nil => cases hv
  | cons y vs => simp [hsame y List.mem_cons_self]

/-- Settles O34: the group takes the coordinate, and of the entries left in the table those have fired whose places were due. -/
theorem eventsFireWhenTheCoordinateReachesThem : Obligations.EventsFireWhenTheCoordinateReachesThem := by
  intro s c v vs hr hstop hp hg hv hsame hlimit hlt
  have hverdict := judgeGroup_takes hg (head?_filterMap_id_of_same hv hsame) hsame hlimit hlt
  have hgives := advanceGroupJudge_gives hr hstop hp hverdict
  have hjudged := sameCoord_groupJudged c s.dev
  refine ⟨_, hgives, ?_, fun b hb => ?_⟩
  · dsimp only
    rw [inCycle_rc, advanceVerdict, takeCoord_rc]
  · dsimp only at hb
    rw [inCycle_armed, advanceVerdict] at hb
    obtain ⟨a, ha, rfl⟩ := mem_takeCoord_armed hb
    exact ⟨a, ha, rfl, fun hle => firedAt_due ha hle, fun habove => firedAt_not_due habove⟩

/-! Arm requests. -/

/-- The reasons to refuse the arm request that stands in the registers, by their codes (R38). -/
def ArmRefused (d : Dev) (k : Nat) : Prop :=
  (k = 1 ∧ 256 ≤ d.armed.length) ∨
  (k = 2 ∧ (kget d .CLK_ARM_KIND = 0 ∨ 8 ≤ kget d .CLK_ARM_KIND ∨ 9 ≤ bitsOf (kget d .CLK_ARM_COORD) 23 20)) ∨
  (k = 3 ∧ kindAllows (kget d .CLK_ARM_KIND) (kget d .CLK_ARM_COORD) = false) ∨
  (k = 4 ∧ kget d .CLK_ARM_COORD ≤ d.rc) ∨
  (k = 5 ∧ ∃ a ∈ d.armed, a.fired = false ∧ a.kind = kget d .CLK_ARM_KIND ∧ a.ctx = kget d .CLK_ARM_CTX ∧
    a.coord = kget d .CLK_ARM_COORD)

/-- The code of the arm request that stands in the registers. -/
def armCodeOf (d : Dev) : Nat :=
  armCode d.armed d.rc (kget d .CLK_ARM_KIND) (kget d .CLK_ARM_CTX) (kget d .CLK_ARM_COORD)

theorem kindOrder_eq_none_iff (kind : Nat) : kindOrder kind = none ↔ kind = 0 ∨ 8 ≤ kind := by
  by_cases h : kind < 8
  · interval_cases kind <;> simp [kindOrder]
  · have h8 : 8 ≤ kind := Nat.not_lt.1 h
    unfold kindOrder
    split <;> simp_all

open Classical in
theorem armCodeOf_eq (d : Dev) : armCodeOf d =
    if ArmRefused d 1 then 1 else if ArmRefused d 2 then 2 else if ArmRefused d 3 then 3 else if ArmRefused d 4 then 4
    else if ArmRefused d 5 then 5 else 0 := by
  simp only [armCodeOf, armCode, ArmRefused, kindOrder_eq_none_iff, rcPhase, List.any_eq_true]
  simp [and_assoc, or_assoc]

theorem armCodeOf_lowest {d : Dev} {k : Nat} (hk : ArmRefused d k) (hlow : ∀ j < k, ¬ ArmRefused d j) : armCodeOf d = k := by
  have hcode : k = 1 ∨ k = 2 ∨ k = 3 ∨ k = 4 ∨ k = 5 := by
    rcases hk with h | h | h | h | h <;> simp [h.1]
  rw [armCodeOf_eq]
  rcases hcode with rfl | rfl | rfl | rfl | rfl <;> simp [hk, hlow]

theorem armCodeOf_zero {d : Dev} (hnone : ∀ k, ¬ ArmRefused d k) : armCodeOf d = 0 := by
  simp [armCodeOf_eq, hnone]

theorem exists_free_place {armed : List Armed} (h : armed.length < 256) : ∃ n < 256, ∀ a ∈ armed, a.slot ≠ n := by
  have hcard : (armed.map Armed.slot).toFinset.card < (Finset.range 256).card := by
    have hle := List.toFinset_card_le (armed.map Armed.slot)
    rw [List.length_map] at hle
    rw [Finset.card_range]
    omega
  obtain ⟨n, hn, hfree⟩ := Finset.exists_mem_notMem_of_card_lt_card hcard
  simp only [List.mem_toFinset, List.mem_map, not_exists, not_and] at hfree
  exact ⟨n, Finset.mem_range.1 hn, hfree⟩

/-- While the table is not full, the search finds a place that no entry holds. -/
theorem freePlace_free (f : Nat) {armed : List Armed} (h : armed.length < 256) :
    freePlace f armed < 256 ∧ ∀ a ∈ armed, a.slot ≠ freePlace f armed := by
  obtain ⟨n, hn, hfree⟩ := exists_free_place h
  unfold freePlace
  cases hfind : ((List.range 256).map (fun k => (f + k) % 256)).find? (fun k => armed.all (fun a => a.slot ≠ k)) with
  | none =>
    have hmem : n ∈ (List.range 256).map (fun k => (f + k) % 256) :=
      List.mem_map.2 ⟨(n + (256 - f % 256)) % 256, List.mem_range.2 (Nat.mod_lt _ (by decide)), by omega⟩
    have hnot := List.find?_eq_none.1 hfind n hmem
    exact absurd (List.all_eq_true.2 fun a ha => decide_eq_true (hfree a ha)) hnot
  | some k =>
    obtain ⟨j, -, hj⟩ := List.mem_map.1 (List.mem_of_find?_eq_some hfind)
    have hall : armed.all (fun a => a.slot ≠ k) = true :=
      List.find?_some (p := fun k => armed.all (fun a => a.slot ≠ k)) hfind
    exact ⟨hj ▸ Nat.mod_lt _ (by decide), fun a ha => of_decide_eq_true (List.all_eq_true.1 hall a ha)⟩

theorem armGo_refused {d : Dev} (hcode : armCodeOf d ≠ 0) : armGo d = rset d ⟨.CLK_ARM_RES_CODE, 0, 0, 0⟩ (armCodeOf d) :=
  if_neg hcode

theorem kget_rset_ne (d : Dev) {r q : Reg} (h : q ≠ r) (v : Nat) : kget (rset d ⟨r, 0, 0, 0⟩ v) q = kget d q :=
  rget_rset_ne d v (by simpa using h)

/-- The device with the entry that the registers describe added at a place, and the request answered with code 0. -/
def armedAt (slot : Nat) (d : Dev) : Dev :=
  let a : Armed := ⟨slot, kget d .CLK_ARM_COORD, kget d .CLK_ARM_KIND, kget d .CLK_ARM_CTX, kget d .CLK_ARM_ACTION, false⟩
  rset { rset d ⟨.CLK_ARM_RES_CODE, 0, 0, 0⟩ 0 with armed := d.armed ++ [a], free := d.free + 1 }
    ⟨.CLK_ARM_RES_SLOT, 0, 0, 0⟩ slot

theorem armGo_armed {d : Dev} (hcode : armCodeOf d = 0) : armGo d = armedAt (freePlace (Config.freeNat d.free) d.armed) d := by
  have haction := kget_rset_ne d (r := .CLK_ARM_RES_CODE) (q := .CLK_ARM_ACTION) (by decide) 0
  unfold armCodeOf at hcode
  simp only [armGo, armedAt, hcode, if_true, takeFree, ← haction]
  rfl

/-- Settles O35: the code is the lowest that applies, and where none does the table has room. -/
theorem armRequestsAreRefusedForTheLowestCode : Obligations.ArmRequestsAreRefusedForTheLowestCode := by
  intro s get coord kind ctx holds hs
  have hgives : Gives .clkArmGo s (armGo s.dev) := actT_of_serves hs (fun _ d => armGo d)
  refine ⟨fun k hk hlow => ?_, fun hnone => ?_⟩
  · have hcode : armCodeOf s.dev = k := armCodeOf_lowest hk hlow
    have hk0 : k ≠ 0 := by
      rcases hk with h | h | h | h | h <;> omega
    subst hcode
    exact gives_congr hgives (armGo_refused hk0)
  · have hcode : armCodeOf s.dev = 0 := armCodeOf_zero hnone
    have hroom : s.dev.armed.length < 256 := Nat.not_le.1 fun hfull => hnone 1 (.inl ⟨rfl, hfull⟩)
    obtain ⟨hlt, hfree⟩ := freePlace_free (Config.freeNat s.dev.free) hroom
    exact ⟨_, hlt, hfree, gives_congr hgives (armGo_armed hcode)⟩

/-! Cancels and sets. -/

section
variable {d : Dev} {a : Armed}

theorem armCancel_unfired (ha : d.armed.find? (fun x => x.slot = kget d .CLK_ARM_SLOT) = some a) (hf : a.fired = false) :
    armCancel d =
      rset { d with armed := d.armed.filter (fun x => x.slot ≠ kget d .CLK_ARM_SLOT) } ⟨.CLK_ARM_RES_CODE, 0, 0, 0⟩ 0 := by
  simp only [armCancel, ha, hf, Bool.false_eq_true, if_false]

theorem armCancel_fired (ha : d.armed.find? (fun x => x.slot = kget d .CLK_ARM_SLOT) = some a) (hf : a.fired = true) :
    armCancel d = rset d ⟨.CLK_ARM_RES_CODE, 0, 0, 0⟩ 6 := by
  simp only [armCancel, ha, hf, if_true]

theorem armCancel_empty (hnone : ∀ x ∈ d.armed, x.slot ≠ kget d .CLK_ARM_SLOT) :
    armCancel d = rset d ⟨.CLK_ARM_RES_CODE, 0, 0, 0⟩ 7 := by
  have hfind : d.armed.find? (fun x => x.slot = kget d .CLK_ARM_SLOT) = none :=
    List.find?_eq_none.2 fun x hx => by simpa using hnone x hx
  simp only [armCancel, hfind]

end

/-- A context runs a launch or quiesces. -/
def ctxBusy (d : Dev) : Prop := ∃ c < 8, ctxState d c = 2 ∨ ctxState d c = 4

theorem setCode_reserved {d : Dev} {v : Nat} (h : 9 ≤ rcPhase v) : setCode d v = 2 := if_pos h

theorem setCode_busy {d : Dev} {v : Nat} (h : rcPhase v < 9) (hbusy : ctxBusy d) : setCode d v = 8 := by
  have hany : (List.range 8).any (fun c => ctxState d c = 2 || ctxState d c = 4) = true := by
    simpa [ctxBusy, List.any_eq_true] using hbusy
  rw [setCode, if_neg (Nat.not_le.2 h), if_pos hany]

theorem setCode_free {d : Dev} {v : Nat} (h : rcPhase v < 9) (hbusy : ¬ ctxBusy d) : setCode d v = 0 := by
  have hany : ¬ (List.range 8).any (fun c => ctxState d c = 2 || ctxState d c = 4) = true := by
    simpa [ctxBusy, List.any_eq_true] using hbusy
  rw [setCode, if_neg (Nat.not_le.2 h), if_neg hany]

theorem setGo_refused {d : Dev} {k : Nat} (hcode : setCode d (kget d .CLK_RC_SET) = k) (hk : k ≠ 0) (e : Env) :
    setGo e d = rset (rset d ⟨.CLK_ARM_RES_CODE, 0, 0, 0⟩ k) ⟨.CLK_BAD_SET, 0, 0, 0⟩ 1 := by
  subst hcode
  exact if_neg hk

theorem setGo_accepted {d : Dev} (hcode : setCode d (kget d .CLK_RC_SET) = 0) (e : Env) :
    setGo e d = setCoord e (kget d .CLK_RC_SET) (rset d ⟨.CLK_ARM_RES_CODE, 0, 0, 0⟩ 0) := by
  rw [setGo, hcode]
  exact if_pos rfl

/-- Settles O36: what stands at the place of a cancel, and the code of a set. -/
theorem cancelsAndSetsAreJudged : Obligations.CancelsAndSetsAreJudged := by
  intro s a slot v res busy hs
  have hcancel : Gives .clkArmCancel s (armCancel s.dev) := actT_of_serves hs (fun _ d => armCancel d)
  have hset : Gives .clkRcSetGo s (setGo s.env s.dev) := actT_of_serves hs (fun e d => setGo e d)
  exact ⟨fun ha hf => gives_congr hcancel (armCancel_unfired ha hf), fun ha hf => gives_congr hcancel (armCancel_fired ha hf),
    fun hnone => gives_congr hcancel (armCancel_empty hnone),
    fun hv => gives_congr hset (setGo_refused (setCode_reserved hv) (by decide) s.env),
    fun hv hb => gives_congr hset (setGo_refused (setCode_busy hv hb) (by decide) s.env),
    fun hv hb => gives_congr hset (setGo_accepted (setCode_free hv hb) s.env)⟩

end Sys2Proof.Machine
end

section
/-! SUPPORT. Ends of launches (R218, R221, R235, R449). -/

namespace Sys2Proof.Machine

section
variable {d : Dev} {c : Nat} {l : Launch}

/-- The record of a launch that completes (R234, R274). -/
def completedRecord (e : Env) (d : Dev) (c : Nat) (l : Launch) : Done :=
  { doneNow e d l.seq 0 0 0 false with late := l.late, ovf := ctxOverflow d c, ofLaunch := true, ready := false }

theorem completeLaunch_eq (e : Env) (hcur : (getCtx d c).cur = some l) (hstarted : l.started = true)
    (hending : (getCtx d c).ending = .running) (hdecided : (getCtx d c).decided = false) (hhalt : ctxHalted d c = false)
    (hjudged : allJudged d c = true) (hends : (halvesOf d c).all (fun t => (getStrm d t.1 t.2 c).endDone) = true) :
    completeLaunch e c d = (halvesOf d c).foldl (hazKind5 e c)
      (setCtx d c { getCtx d c with decided := true, waiting := (getCtx d c).waiting ++ [completedRecord e d c l] }) := by
  unfold completeLaunch
  simp only [hcur, hstarted, hending, hdecided, hhalt, hjudged, hends, completedRecord, Bool.not_false, and_self, if_true]

/-- The launch of SEQ q has a deadline that has come and that was not reported (R221). -/
def deadlineDue (e : Env) (q : Nat) (l : Launch) : Bool :=
  l.seq = q && !l.late && l.deadline ≠ 2 ^ 64 - 1 && l.deadline ≤ e.clk.ft

/-- A launch as its deadline passes. -/
def markedLate (e : Env) (q : Nat) (l : Launch) : Launch := if deadlineDue e q l then { l with late := true } else l

theorem deadlinePasses_eq {e : Env} {q : Nat}
    (hfind : ((getCtx d c).queue ++ (if (getCtx d c).decided then [] else (getCtx d c).cur.toList)).find? (deadlineDue e q) =
      some l) :
    deadlinePasses e c q d = satAdd e ⟨.CLK_CTX_LATE, c, 0, 0⟩ 1 (pushEvent e c 2 (deadlineBody e d l)
      (setCtx d c { getCtx d c with
        queue := (getCtx d c).queue.map (markedLate e q),
        cur := if (getCtx d c).decided then (getCtx d c).cur else (getCtx d c).cur.map (markedLate e q) })) := by
  unfold deadlineDue at hfind
  unfold deadlinePasses
  simp only [hfind]
  rfl

/-- The device as a launch that ended early is quiet: counters zero, channels free, records ready (R235 item 5, R449). -/
def quieted (c : Nat) (d : Dev) : Dev :=
  updCtx ((tilesOf d c).foldl (freeChans c) ((halvesOf d c).foldl (zeroCounters c) d)) c
    (fun x => { x with waiting := x.waiting.map (fun r => { r with ready := true }) })

theorem quiesce_eq {how : Ending} (hending : (getCtx d c).ending = how) (hdecided : (getCtx d c).decided = true)
    (hquiet : ctxQuiet d c = true) (hwait : (getCtx d c).waiting.any (fun r => !r.ready) = true) :
    quiesce c how d = if how = .aborting then resumeCtx c (quieted c d) else quieted c d := by
  unfold quiesce
  simp only [hending, hdecided, hquiet, hwait, quieted, and_self, if_true]

end

/-- Settles O22: each command's effect, its conditions met. -/
theorem launchesEnd : Obligations.LaunchesEnd := by
  intro s c q l x r due late marked zeroed ready hc hr
  have hc8 : decide (c < 8) = true := decide_eq_true hc
  refine ⟨fun hcur hst hen hde hha hju hends => ?_, fun hfind => ?_, fun hen hde hqu hwa => ?_, fun hen hde hqu hwa => ?_⟩
  · exact gives_congr (gives_of_act (i := .launchComplete c) (f := fun e d => completeLaunch e c d) rfl hc8 hr)
      (completeLaunch_eq s.env hcur hst hen hde hha hju hends)
  · exact gives_congr (gives_of_act (i := .deadlinePass c q) (f := fun e d => deadlinePasses e c q d) rfl hc8 hr)
      (deadlinePasses_eq (e := s.env) hfind)
  · exact gives_congr (gives_of_act (i := .abortQuiesced c) (f := fun _ d => quiesce c .aborting d) rfl hc8 hr)
      (quiesce_eq hen hde hqu hwa)
  · exact gives_congr (gives_of_act (i := .failQuiesced c) (f := fun _ d => quiesce c .failing d) rfl hc8 hr)
      (quiesce_eq hen hde hqu hwa)

end Sys2Proof.Machine
end

section
/-! SUPPORT. Changes of placement (R40, R43, R169, R362) and frames of snapshots (R420, R450). The changes that wait are not
touched as logical tiles move. -/

namespace Sys2Proof.Machine

/-! What the moves keep: the changes that wait. -/

/-- The devices agree on the fired changes of placement that are still to be made. -/
def SameDue (d d' : Dev) : Prop := d'.placeDue = d.placeDue

theorem SameDue.refl (d : Dev) : SameDue d d := rfl

theorem SameDue.trans {a b c : Dev} (h : SameDue a b) (k : SameDue b c) : SameDue a c := Eq.trans k h

theorem SameButLog.due {d d' : Dev} (h : SameButLog d d') : SameDue d d' := h.placeDue

theorem SameButFail.due {d d' : Dev} (h : SameButFail d d') : SameDue d d' := h.placeDue

theorem sameDue_foldl {α : Type} {f : Dev → α → Dev} (hf : ∀ d a, SameDue d (f d a)) (l : List α) (d : Dev) :
    SameDue d (l.foldl f d) := by
  induction l generalizing d with
  | nil => exact .refl d
  | cons a l ih => exact (hf d a).trans (ih (f d a))

theorem sameDue_rset (d : Dev) (k : RegKey) (v : Nat) : SameDue d (rset d k v) := rfl

theorem sameDue_setStrm (d : Dev) (p h c : Nat) (x : Strm) : SameDue d (setStrm d p h c x) := rfl

theorem sameDue_setTile (d : Dev) (p : Nat) (t : TileSt) : SameDue d (setTile d p t) := rfl

theorem sameDue_setChan (d : Dev) (p n : Nat) (ch : Chan) : SameDue d (setChan d p n ch) := rfl

theorem sameDue_withLineTags (d : Dev) (l : List LineTag) : SameDue d { d with lineTags := l } := rfl

theorem sameDue_withShadowBases (d : Dev) (l : List (Nat × Nat)) : SameDue d { d with shadowBases := l } := rfl

theorem sameDue_withTs (d : Dev) (m : List Host.Cell) : SameDue d { d with ts := m } := rfl

theorem sameDue_withWcb (d : Dev) (l : List WcbEnt) : SameDue d { d with wcb := l } := rfl

theorem sameDue_hbmPutLine (line : Nat) (data : List Byte) (d : Dev) : SameDue d (hbmPutLine line data d) := rfl

theorem sameDue_tbPut (a : Nat) (bs : List Byte) (d : Dev) : SameDue d (tbPut a bs d) := rfl

theorem sameDue_satAdd (e : Env) (k : RegKey) (n : Nat) (d : Dev) : SameDue d (satAdd e k n d) := (sameButLog_satAdd e k n d).due

theorem sameDue_logError (e : Env) (r : Err) (d : Dev) : SameDue d (logError e r d) := (sameButLog_logError e r d).due

theorem sameDue_evictFail (e : Env) (w : WcbEnt) (d : Dev) : SameDue d (evictFail e w d) := by
  unfold evictFail
  split
  · exact ((sameDue_withWcb ..).trans (sameDue_rset ..)).trans (sameButFail_failWith ..).due
  · exact ((sameDue_withWcb ..).trans (sameDue_rset ..)).trans (sameDue_logError ..)

theorem sameDue_entryMet (e : Env) (d : Dev) (line : Nat) : SameDue d (entryMet e d line) := by
  unfold entryMet
  split
  · split
    · exact sameDue_evictFail ..
    · exact .refl d
  · exact .refl d

theorem sameDue_patrolCount (e : Env) (s pc : Nat) (d : Dev) : SameDue d (patrolCount e s pc d) := by
  have hcount (t : List (Nat × Nat)) : SameDue d (satAdd e ⟨.HBM_PC_CE, s, pc, 0⟩ 1 { d with patrolCe := t }) :=
    SameDue.trans (b := { d with patrolCe := t }) rfl (sameDue_satAdd ..)
  have hover (x : Dev) (l : List Nat) (o : List Out) : SameDue x { x with patrolOver := l, outbox := o } := rfl
  unfold patrolCount
  dsimp only
  split
  · exact (((hcount _).trans (hover ..)).trans (sameDue_rset ..)).trans (sameDue_logError ..)
  · exact hcount _

theorem sameDue_lineChecked (e : Env) (d : Dev) (line : Nat) : SameDue d (lineChecked e d line) := by
  unfold lineChecked
  split
  · split
    · exact .refl d
    · exact (sameDue_logError ..).trans (sameDue_patrolCount ..)
  · exact .refl d

theorem sameDue_evictEntry (e : Env) (w : WcbEnt) (d : Dev) : SameDue d (evictEntry e w d) := by
  unfold evictEntry
  split
  · exact sameDue_evictFail ..
  · split
    · exact ((sameDue_rset ..).trans (sameDue_satAdd ..)).trans (sameDue_evictFail ..)
    · exact ((sameDue_lineChecked ..).trans (sameDue_hbmPutLine ..)).trans (sameDue_satAdd ..)

theorem sameDue_wcbRoom (e : Env) (s : Nat) (d : Dev) : SameDue d (wcbRoom e s d) := by
  unfold wcbRoom
  split
  · split
    · exact sameDue_evictEntry ..
    · exact .refl d
  · exact .refl d

theorem sameDue_hbmAcceptLine (e : Env) (ctx : Option Nat) (a : Nat) (bs : List Byte) (d : Dev) :
    SameDue d (hbmAcceptLine e ctx a bs d) := by
  unfold hbmAcceptLine
  dsimp only
  split
  · exact sameDue_hbmPutLine ..
  · generalize hx : (if (wcbOf (entryMet e d (a / 64)) (a / 64)).isSome then entryMet e d (a / 64)
      else wcbRoom e (hbmStack a) (entryMet e d (a / 64))) = x
    have hroom : SameDue d x := by
      rw [← hx]
      split
      · exact sameDue_entryMet ..
      · exact (sameDue_entryMet ..).trans (sameDue_wcbRoom ..)
    refine hroom.trans ?_
    split_ifs
    · exact (sameDue_hbmPutLine ..).trans (sameDue_satAdd ..)
    · exact sameDue_withWcb ..
    · exact sameDue_withWcb ..

theorem sameDue_hbmAccept (e : Env) (ctx : Option Nat) (a : Nat) (bs : List Byte) (d : Dev) :
    SameDue d (hbmAccept e ctx a bs d) :=
  sameDue_foldl (fun _ _ => sameDue_hbmAcceptLine ..) _ d

theorem sameDue_locWrite (e : Env) (c : Nat) (bs : List Byte) (d : Dev) (l : Loc) : SameDue d (locWrite e c bs d l) := by
  cases l with
  | ts a | gs a | tb a => rfl
  | hbm a =>
    dsimp only [locWrite]
    split
    · exact .refl d
    · exact sameDue_hbmAccept ..

theorem sameDue_storeWrite (e : Env) (p h c space off : Nat) (bs : List Byte) (d : Dev) :
    SameDue d (storeWrite e p h c space off bs d) :=
  sameDue_foldl (fun _ _ => sameDue_locWrite ..) _ d

theorem sameDue_spoil (d : Dev) (l : Loc) : SameDue d (spoil d l) := by cases l <;> rfl

theorem sameDue_spoilSame (d0 : Dev) (n : Nat) (src dst : Nat → Loc) (d : Dev) : SameDue d (spoilSame d0 n src dst d) :=
  sameDue_foldl (fun _ _ => sameDue_spoil ..) _ d

theorem sameDue_clearPlace (d : Dev) (p h : Nat) : SameDue d (clearPlace d p h) := by
  have hctxs := sameDue_foldl (f := fun d c => movedRegs.foldl (fun d r => rset d ⟨r, p, c, h⟩ r.reset) (setStrm d p h c {}))
    (fun d c => (sameDue_setStrm d p h c {}).trans (sameDue_foldl (fun _ _ => sameDue_rset ..) ..)) (List.range 8) d
  exact (hctxs.trans (sameDue_withLineTags ..)).trans (sameDue_rset ..)

theorem sameDue_moveCtxs (d0 : Dev) (m : Move) (d : Dev) : SameDue d (moveCtxs d0 m d) :=
  sameDue_foldl (fun _ _ => (sameDue_setStrm ..).trans (sameDue_foldl (fun _ _ => sameDue_rset ..) ..)) _ d

theorem sameDue_moveCounts (d0 : Dev) (m : Move) (d : Dev) : SameDue d (moveCounts d0 m d) := by
  unfold moveCounts
  exact (((sameDue_foldl (fun _ _ => sameDue_rset ..) ..).trans
    (sameDue_foldl (fun _ _ => (sameDue_rset ..).trans (sameDue_rset ..)) ..)).trans
    (sameDue_foldl (fun _ _ => sameDue_rset ..) ..)).trans (sameDue_withShadowBases ..)

theorem sameDue_moveBytes (e : Env) (d0 : Dev) (m : Move) (c space lo n : Nat) (d : Dev) :
    SameDue d (moveBytes e d0 m c space lo n d) :=
  (sameDue_storeWrite ..).trans (sameDue_spoilSame ..)

theorem sameDue_moveShares (e : Env) (d0 : Dev) (m : Move) (d : Dev) (c : Nat) : SameDue d (moveShares e d0 m d c) := by
  unfold moveShares
  split
  · exact ((sameDue_moveBytes ..).trans (sameDue_moveBytes ..)).trans (sameDue_withTs ..)
  · exact .refl d

theorem sameDue_moveBuffer (e : Env) (d0 : Dev) (m : Move) (d : Dev) : SameDue d (moveBuffer e d0 m d) := by
  unfold moveBuffer
  refine SameDue.trans ?_ (sameDue_spoilSame ..)
  split
  · exact sameDue_hbmAccept ..
  · exact sameDue_tbPut ..

theorem sameDue_moveTags (d0 : Dev) (m : Move) (d : Dev) : SameDue d (moveTags d0 m d) := by
  unfold moveTags
  exact ((sameDue_withLineTags ..).trans (sameDue_setTile ..)).trans
    (sameDue_foldl (fun _ _ => (sameDue_setChan ..).trans (sameDue_rset ..)) ..)

theorem sameDue_moveState (e : Env) (d0 d : Dev) (m : Move) : SameDue d (moveState e d0 d m) := by
  unfold moveState
  exact ((((sameDue_moveCtxs ..).trans (sameDue_moveCounts ..)).trans (sameDue_foldl (sameDue_moveShares e d0 m) ..)).trans
    (sameDue_moveBuffer ..)).trans (sameDue_moveTags ..)

theorem sameDue_nameTile (d0 d : Dev) (m : Move) : SameDue d (nameTile d0 d m) := (sameDue_rset ..).trans (sameDue_rset ..)

theorem sameDue_vacate (d : Dev) (m : Move) : SameDue d (vacate d m) := by
  unfold vacate
  split
  · exact (sameDue_rset ..).trans (sameDue_setTile ..)
  · exact .refl d

theorem sameDue_makeMoves (e : Env) (ms : List Move) (d : Dev) : SameDue d (makeMoves e ms d) := by
  unfold makeMoves
  exact (((sameDue_foldl (fun _ _ => sameDue_clearPlace ..) ..).trans (sameDue_foldl (sameDue_nameTile d) ..)).trans
    (sameDue_foldl (sameDue_moveState e d) ..)).trans (sameDue_foldl sameDue_vacate ..)

/-! A change of placement. -/

section
variable {e : Env} {d : Dev} {ms : List Move} (gone : List Nat)

theorem restoreMap_none (h : d.undo = []) : restoreMap e d = d := by
  rw [restoreMap, h]
  rfl

theorem restoreMap_one {back : List Move} (h : d.undo = [back]) (hok : movesOk d back = true)
    (hquiet : movesQuiet d back = true) : restoreMap e d = { makeMoves e back d with undo := [] } := by
  have hback : takeBack e d = { makeMoves e back d with undo := [] } := by
    simp only [takeBack, h, hok, hquiet, Bool.not_true, Bool.false_eq_true, if_false, if_true]
  rw [restoreMap, h]
  exact hback

theorem changePlacement_none (hundo : (restoreMap e d).undo = []) (hdue : (restoreMap e d).placeDue = []) :
    changePlacement e [] gone d = gone.foldl retireTile (restoreMap e d) := by
  simp only [changePlacement, hundo, hdue, if_true]

theorem changePlacement_due {v : Nat} {due : List Nat} (hundo : d.undo = []) (hdue : d.placeDue = v :: due)
    (hok : movesOk d ms = true) (hquiet : movesQuiet d ms = true) : changePlacement e ms gone d =
      gone.foldl retireTile { makeMoves e ms d with placeDue := due, mapLog := d.mapLog ++ [(v, ms)] } := by
  simp only [changePlacement, restoreMap_none hundo, hundo, hdue, hok, hquiet, Bool.and_self, if_true]

end

theorem movesQuiet_of {d : Dev} {ms : List Move} (hover : transfersOver d = true)
    (hplaces : ∀ m ∈ ms, placeQuiet d m.fromP m.fromH = true) : movesQuiet d ms = true := by
  simpa [movesQuiet, hover] using hplaces

theorem placementChange_gives {s : State} {ms : List Move} {gone : List Nat} (hr : Runs s)
    (hms : ms.all (fun m => m.fromP < 1440 && m.fromH < 2 && m.toP < 1440 && m.toH < 2) = true)
    (hgone : ∀ p ∈ gone, p < 1440) :
    Gives (.placementChange ms gone) s (changePlacement s.env ms gone s.dev) := by
  have hretired : gone.all (fun p => p < 1440) = true := by simpa using hgone
  exact gives_of_act (f := fun e d => changePlacement e ms gone d) rfl (by rw [hms, hretired]; rfl) hr

/-! Snapshots. -/

/-- Where frame number n of the snapshots lies (R420). -/
def snapAddr (d : Dev) (n : Nat) : Nat :=
  let frames := rget d ⟨.MON_SNAP_FRAMES, 0, 0, 0⟩
  rbase d ⟨.MON_SNAP_ADDR, 0, 0, 0⟩ + 0x8000 * (if frames = 0 then 0 else n % frames)

section
variable {e : Env} {d : Dev} {f : Snap}

theorem hostWrite_inTabok {a : Nat} {bs : List Byte} (h : a + bs.length ≤ 2 ^ 36) :
    hostWrite e a bs d = { d with lp := memWrite d.lp a bs } := if_pos (decide_eq_true h)

theorem writeSnapshot_inTabok (hf : d.snap = some f) (hin : inTabok (snapAddr d f.num) f.data.length = true)
    (hlen : 64 ≤ f.data.length) : writeSnapshot e d =
      rset { d with
          snap := none
          lp := memWrite (memWrite d.lp (snapAddr d f.num + 64) (f.data.drop 64)) (snapAddr d f.num) (f.data.take 64) }
        ⟨.MON_SNAP_COUNT, 0, 0, 0⟩ (f.num + 1) := by
  have hle : snapAddr d f.num + f.data.length ≤ 2 ^ 36 := of_decide_eq_true hin
  have hhead : snapAddr d f.num + (f.data.take 64).length ≤ 2 ^ 36 := by rw [List.length_take]; omega
  have hblocks : snapAddr d f.num + 64 + (f.data.drop 64).length ≤ 2 ^ 36 := by rw [List.length_drop]; omega
  unfold writeSnapshot
  simp only [hf]
  change (if inTabok (snapAddr d f.num) f.data.length = true then _ else _) = _
  rw [if_pos hin]
  change rset (hostWrite e (snapAddr d f.num) _ (hostWrite e (snapAddr d f.num + 64) _ _)) _ _ = _
  rw [hostWrite_inTabok hblocks, hostWrite_inTabok hhead]

theorem writeSnapshot_missed (hf : d.snap = some f) (hin : inTabok (snapAddr d f.num) f.data.length = false) :
    writeSnapshot e d =
      satAdd e ⟨.MON_SNAP_MISSED, 0, 0, 0⟩ 1 (hostAccess e (snapAddr d f.num) true { d with snap := none }) := by
  unfold writeSnapshot
  simp only [hf]
  exact if_neg (Bool.eq_false_iff.1 hin)

end

theorem snapshotFrameWrite_gives {s : State} (hr : Runs s) : Gives .snapshotFrameWrite s (writeSnapshot s.env s.dev) :=
  gives_of_act (f := fun e d => writeSnapshot e d) rfl rfl hr

/-- Settles O37: what the change finds waiting decides; a frame is written where its address reaches memory. -/
theorem placementsChangeAndSnapshotsAreWritten : Obligations.PlacementsChangeAndSnapshotsAreWritten := by
  intro s ms gone f e frames a d d1 d2 hms hgone hr
  have hsnap := snapshotFrameWrite_gives hr
  refine ⟨fun hnil hundo hdue => ?_, fun v due hundo hdue hok hover hplaces => ?_, fun back hundo hdue hok hquiet => ?_,
    fun hf hin hlen => gives_congr hsnap (writeSnapshot_inTabok hf hin hlen),
    fun hf hin => gives_congr hsnap (writeSnapshot_missed hf hin)⟩
  · subst hnil
    have hmap : restoreMap e s.dev = s.dev := restoreMap_none hundo
    refine gives_congr (placementChange_gives hr hms hgone) ((changePlacement_none gone ?_ ?_).trans ?_)
    · rw [hmap, hundo]
    · rw [hmap, hdue]
    · rw [hmap]
  · exact gives_congr (placementChange_gives hr hms hgone)
      (changePlacement_due gone hundo hdue hok (movesQuiet_of hover hplaces))
  · have hmap : restoreMap e s.dev = { makeMoves e back s.dev with undo := [] } := restoreMap_one hundo hok hquiet
    refine gives_congr (placementChange_gives hr rfl hgone) ((changePlacement_none gone ?_ ?_).trans ?_)
    · rw [hmap]
    · rw [hmap]
      exact Eq.trans (sameDue_makeMoves e back s.dev) hdue
    · rw [hmap]

end Sys2Proof.Machine
end

section
/-! SUPPORT. Element operations of the vector engine (R67 to R71): what a record of one, two or three sources gives when its
operands can be read. -/

namespace Sys2Proof.Machine

theorem runParts_of_ok {g : Nat} {f : Nat → Nat → Nat → WinEnt → Dev → Except StoreRes (List Part2)} {p h c : Nat} {w : WinEnt}
    {d : Dev} {parts : List Part2} (hf : f p h c w d = .ok parts) (e : Env) :
    runParts g f e p h c w d = putResults e p h c g w false parts d := by
  simp only [runParts, hf]

section
variable {s : State} {p op : Nat} {o : Offer} {i : Instr} {a b x : Source} {k : Sink}

theorem src1_of_reads (ha : Reads s p o (issued s p o).1.a 0 a) (hk : Sinks s p o k) :
    src1 (issued s p o).2 p o.h o.c (issued s p o).1 = .ok (a, k) := by
  unfold Reads at ha
  unfold Sinks at hk
  rw [src1, ha, hk]
  rfl

theorem src2_of_reads (ha : Reads s p o (issued s p o).1.a 0 a) (hb : Reads s p o (issued s p o).1.b 0 b)
    (hk : Sinks s p o k) : src2 (issued s p o).2 p o.h o.c (issued s p o).1 = .ok (a, b, k) := by
  unfold Reads at ha hb
  unfold Sinks at hk
  rw [src2, ha, hb, hk]
  rfl

theorem src3_of_reads (ha : Reads s p o (issued s p o).1.a 0 a) (hb : Reads s p o (issued s p o).1.b 0 b)
    (hx : Reads s p o (issued s p o).1.c 0 x) (hk : Sinks s p o k) :
    src3 (issued s p o).2 p o.h o.c (issued s p o).1 = .ok (a, b, x, k) := by
  unfold Reads at ha hb hx
  unfold Sinks at hk
  rw [src3, ha, hb, hx, hk]
  rfl

variable (ha : Reads s p o (issued s p o).1.a 0 a) (hk : Sinks s p o k)
include ha hk

theorem unary_issues {f : Val → Conv} (hn : NextRecord s p 1 op o)
    (hi : exec i s = act s (p < 1440) (issueEngine 1 op (runUnary f) p)) :
    Issues i s p o (vectorResult s p o k.scales (fun i j =>
      narrowElem k i j (f (srcVal a i j)) (srcCode a i j) 0 0)) := by
  have hrun := issues_of_run hn hi
  rw [runUnary, runParts_of_ok (by rw [src1_of_reads ha hk]; rfl)] at hrun
  exact hrun

theorem convert_issues (hn : NextRecord s p 1 op o) (hi : exec i s = act s (p < 1440) (issueEngine 1 op runCvt p)) :
    Issues i s p o (vectorResult s p o k.scales (fun i j =>
      convertElem k i j (fmtIsInt a.fmt) (srcVal a i j) (srcCode a i j))) := by
  have hrun := issues_of_run hn hi
  rw [runCvt, runParts_of_ok (by rw [src1_of_reads ha hk]; rfl)] at hrun
  exact hrun

variable (hb : Reads s p o (issued s p o).1.b 0 b)
include hb

theorem binary_issues {f : Bool → Val → Val → Conv} (hn : NextRecord s p 1 op o)
    (hi : exec i s = act s (p < 1440) (issueEngine 1 op (runBinary f) p)) :
    Issues i s p o (vectorResult s p o k.scales (fun i j =>
      narrowElem k i j (f (fcmpCtx (issued s p o).2 o.c) (srcVal a i j) (srcVal b i j)) (srcCode a i j) (srcCode b i j) 0)) := by
  have hrun := issues_of_run hn hi
  rw [runBinary, runParts_of_ok (by rw [src2_of_reads ha hb hk]; rfl)] at hrun
  exact hrun

theorem fma_issues (hx : Reads s p o (issued s p o).1.c 0 x) (hn : NextRecord s p 1 op o)
    (hi : exec i s = act s (p < 1440) (issueEngine 1 op runFma p)) :
    Issues i s p o (vectorResult s p o k.scales (fun i j =>
      narrowElem k i j (fmaOp (srcVal a i j) (srcVal b i j) (srcVal x i j)) (srcCode a i j) (srcCode b i j) (srcCode x i j))) := by
  have hrun := issues_of_run hn hi
  rw [runFma, runParts_of_ok (by rw [src3_of_reads ha hb hx hk]; rfl)] at hrun
  exact hrun

end

/-- Settles O6: each opcode runs its operation through the lemma for its number of sources. -/
theorem vectorArithmeticRecords : Obligations.VectorArithmeticRecords := by
  refine ⟨fun s p o a b k ha hb hk => ?_, fun s p o a b x k ha hk => ?_⟩
  · have issues {op : Nat} {i : Instr} (f : Bool → Val → Val → Conv) := binary_issues (op := op) (i := i) (f := f) ha hk hb
    exact ⟨fun hn => issues (fun _ => addOp) hn rfl, fun hn => issues (fun _ => subOp) hn rfl,
      fun hn => issues (fun _ => mulOp) hn rfl, fun hn => issues (fun _ => divOp) hn rfl,
      fun hn => issues (pickOp true) hn rfl, fun hn => issues (pickOp false) hn rfl⟩
  · have issues {op : Nat} {i : Instr} (f : Val → Conv) := unary_issues (op := op) (i := i) (f := f) ha hk
    exact ⟨fun hn => issues rcpOp hn rfl, fun hn => issues sqrtOp hn rfl, fun hn => issues rsqrtOp hn rfl,
      fun hn => issues exp2Op hn rfl, fun hn => issues log2Op hn rfl, fun hn => convert_issues ha hk hn rfl,
      fun hb hx hn => fma_issues ha hk hb hx hn rfl⟩

end Sys2Proof.Machine
end

section
/-! SUPPORT. Little-endian words (R9), rounded codes (R63) and the ordered sum of a collective (R322, R333). -/

namespace Sys2Proof.Machine

/-! Words of a byte list. -/

@[simp] theorem length_leBytes (n len : Nat) : (leBytes n len).length = len := by
  induction len generalizing n with
  | zero => rfl
  | succ len ih => rw [leBytes, List.length_cons, ih]

theorem leNat_leBytes (n len : Nat) : leNat (leBytes n len) = n % 256 ^ len := by
  induction len generalizing n with
  | zero => simp [leBytes, leNat, Nat.mod_one]
  | succ len ih =>
    rw [leBytes, leNat, ih, BitVec.toNat_ofNat]
    change n % 256 + 256 * (n / 256 % 256 ^ len) = n % 256 ^ (len + 1)
    rw [Nat.pow_succ', Nat.mod_mul]

/-- The j-th little-endian word of a byte list. -/
def wordAt (l : List Byte) (j : Nat) : Nat := leNat ((l.drop (4 * j)).take 4)

theorem wordAt_drop (l : List Byte) (j : Nat) : wordAt (l.drop 4) j = wordAt l (j + 1) := by
  rw [wordAt, wordAt, List.drop_drop, Nat.mul_succ, Nat.add_comm]

theorem wordAt_leBytes_zero {v : Nat} (hv : v < 2 ^ 32) (l : List Byte) : wordAt (leBytes v 4 ++ l) 0 = v := by
  rw [wordAt, List.drop_zero, List.take_left' (length_leBytes v 4), leNat_leBytes]
  exact Nat.mod_eq_of_lt hv

theorem wordAt_leBytes_succ (v : Nat) (l : List Byte) (j : Nat) : wordAt (leBytes v 4 ++ l) (j + 1) = wordAt l j := by
  rw [← wordAt_drop, List.drop_left' (length_leBytes v 4)]

/-! Codes of Vf32 results. -/

theorem roundTo_lt (f : FpFmt) (mode r rbits : Nat) (x : Rat) : (roundTo f mode r rbits x).1 < 2 ^ (f.E + f.M + 1) := by
  have htop : 0 < 2 ^ (f.E + f.M) := Nat.two_pow_pos _
  unfold roundTo
  dsimp only
  split_ifs <;> omega

theorem nanOut_code_lt (cause : Nat) : (nanOut cause).code < 2 ^ 32 :=
  show nan32 < 2 ^ 32 by decide

theorem exact32_code_lt (x : Rat) : (exact32 x).code < 2 ^ 32 := roundTo_lt vf32 0 0 0 x

theorem addOp_code_lt (a b : Val) : (addOp a b).code < 2 ^ 32 := by
  cases a <;> cases b
  case some.some x y => exact exact32_code_lt (x + y)
  all_goals exact nanOut_code_lt 4

/-! The sum. -/

/-- The addition of the j-th words of two byte lists. -/
def wordSum (a b : List Byte) (j : Nat) : Conv := addOp (fpValue vf32 (wordAt a j)) (fpValue vf32 (wordAt b j))

theorem wordSum_drop (a b : List Byte) (j : Nat) : wordSum (a.drop 4) (b.drop 4) j = wordSum a b (j + 1) := by
  rw [wordSum, wordAt_drop, wordAt_drop, wordSum]

theorem addBytes_succ_fst (n i : Nat) (a b : List Byte) : (addBytes (n + 1) i a b).1 =
    leBytes (wordSum a b 0).code 4 ++ (addBytes n (i + 1) (a.drop 4) (b.drop 4)).1 := rfl

theorem addBytes_succ_ov (n i : Nat) (a b : List Byte) : (addBytes (n + 1) i a b).2.1 =
    ((wordSum a b 0).ov || (addBytes n (i + 1) (a.drop 4) (b.drop 4)).2.1) := rfl

theorem length_addBytes (n i : Nat) (a b : List Byte) : (addBytes n i a b).1.length = 4 * n := by
  induction n generalizing i a b with
  | zero => rfl
  | succ n ih => rw [addBytes_succ_fst, List.length_append, length_leBytes, ih, Nat.mul_succ, Nat.add_comm]

theorem wordAt_addBytes {n j : Nat} (hj : j < n) (i : Nat) (a b : List Byte) :
    wordAt (addBytes n i a b).1 j = (wordSum a b j).code := by
  induction n generalizing i j a b with
  | zero => exact absurd hj (Nat.not_lt_zero j)
  | succ n ih =>
    rw [addBytes_succ_fst]
    cases j with
    | zero => exact wordAt_leBytes_zero (addOp_code_lt _ _) _
    | succ j => rw [wordAt_leBytes_succ, ih (Nat.lt_of_succ_lt_succ hj), wordSum_drop]

theorem addBytes_ov_iff (n i : Nat) (a b : List Byte) :
    (addBytes n i a b).2.1 = true ↔ ∃ j < n, (wordSum a b j).ov = true := by
  induction n generalizing i a b with
  | zero => simp [addBytes]
  | succ n ih => simp only [addBytes_succ_ov, Bool.or_eq_true, ih, wordSum_drop, Nat.exists_lt_succ_left]

/-- Settles O48: the sum by its words, of whatever length the lists are. -/
theorem orderedSumsAddElementByElement : Obligations.OrderedSumsAddElementByElement := by
  intro n first a b word add _ _
  exact ⟨length_addBytes n first a b, fun j hj => wordAt_addBytes hj first a b, addBytes_ov_iff n first a b⟩

end Sys2Proof.Machine
end

section
/-! SUPPORT. TILE_HALT and TILE_RESUME (R73, R105): what the word does to each context, one after another. -/

namespace Sys2Proof.Machine

/-- The word v names a context in both of its fields. -/
def namesBoth (v : Nat) : Bool := (List.range 8).any (fun c => v.testBit c && v.testBit (8 + c))

/-- What the word v does to context c of tile p. -/
def haltOrResume (p v : Nat) (d : Dev) (c : Nat) : Dev :=
  if v.testBit c then haltOn c d p else if v.testBit (8 + c) then resumeOn d p c else d

/-- The halt bit of context c after the word v, from the bit before. -/
def haltAfter (v c : Nat) (b : Bool) : Bool := if v.testBit c then true else if v.testBit (8 + c) then false else b

/-- The state of context c after the word v. -/
def armedAfter (v c : Nat) (x : Ctx) : Ctx :=
  if v.testBit c then x else if v.testBit (8 + c) then { x with trapArmed := true } else x

theorem haltAfter_idem (v c : Nat) (b : Bool) : haltAfter v c (haltAfter v c b) = haltAfter v c b := by
  unfold haltAfter
  split_ifs <;> rfl

theorem armedAfter_idem (v c : Nat) (x : Ctx) : armedAfter v c (armedAfter v c x) = armedAfter v c x := by
  unfold armedAfter
  split_ifs <;> rfl

theorem armedAfter_of_not_both {v c : Nat} (h : namesBoth v = false) (hc : c < 8) (x : Ctx) :
    armedAfter v c x = if v.testBit (8 + c) then { x with trapArmed := true } else x := by
  have hboth : v.testBit c = true → v.testBit (8 + c) = false := by
    simpa using List.any_eq_false.1 h c (List.mem_range.2 hc)
  unfold armedAfter
  split_ifs with hhalt hresume
  · exact absurd hresume (by rw [hboth hhalt]; decide)
  all_goals rfl

section
variable {e : Env} {p v : Nat} {d : Dev}

theorem writeHalt_of_both (h : namesBoth v = true) : writeHalt e p v d = regAccess e (tileOff p 0x14) true d := if_pos h

theorem writeHalt_of_not_both (h : namesBoth v = false) : writeHalt e p v d = (List.range 8).foldl (haltOrResume p v) d :=
  if_neg (Bool.eq_false_iff.1 h)

end

/-! The fields that the word leaves alone. -/

/-- The devices agree on everything but the halt bits of tile p and the contexts. -/
structure SameButHalts (p : Nat) (d d' : Dev) : Prop where
  device : d' = { d with tiles := d'.tiles, ctxs := d'.ctxs }
  tile : getTile d' p = { getTile d p with halt := (getTile d' p).halt }
  others : ∀ q, q ≠ p → getTile d' q = getTile d q

theorem SameButHalts.refl (p : Nat) (d : Dev) : SameButHalts p d d := ⟨rfl, rfl, fun _ _ => rfl⟩

theorem SameButHalts.trans {p : Nat} {d d' d'' : Dev} (h : SameButHalts p d d') (k : SameButHalts p d' d'') :
    SameButHalts p d d'' where
  device := k.device.trans (by rw [h.device])
  tile := k.tile.trans (by rw [h.tile])
  others q hq := (k.others q hq).trans (h.others q hq)

theorem sameButHalts_setTile (p : Nat) (d : Dev) (n : Nat) : SameButHalts p d (setTile d p { getTile d p with halt := n }) :=
  ⟨rfl, by rw [getTile_setTile_same], fun _ hq => getTile_setTile_ne d _ hq⟩

theorem sameButHalts_setCtx (p : Nat) (d : Dev) (c : Nat) (x : Ctx) : SameButHalts p d (setCtx d c x) :=
  ⟨rfl, rfl, fun _ _ => rfl⟩

theorem sameButHalts_haltOrResume (p v : Nat) (d : Dev) (c : Nat) : SameButHalts p d (haltOrResume p v d c) := by
  unfold haltOrResume
  split_ifs
  · exact sameButHalts_setTile p d _
  · exact (sameButHalts_setTile p d _).trans (sameButHalts_setCtx p _ c _)
  · exact .refl p d

theorem sameButHalts_foldl (p v : Nat) (l : List Nat) (d : Dev) : SameButHalts p d (l.foldl (haltOrResume p v) d) := by
  induction l generalizing d with
  | nil => exact .refl p d
  | cons c l ih => exact (sameButHalts_haltOrResume p v d c).trans (ih _)

/-! The halt bits and the traps. -/

theorem testBit_clearBits (w a b k : Nat) : (clearBits w a b).testBit k = (decide (k < w) && a.testBit k && !b.testBit k) := by
  rw [clearBits, Nat.testBit_and, Nat.testBit_xor, Nat.testBit_mod_two_pow, Nat.testBit_mod_two_pow,
    Nat.testBit_two_pow_sub_one]
  cases decide (k < w) <;> simp

theorem haltBit_haltOn (p : Nat) (d : Dev) (c k : Nat) :
    (getTile (haltOn c d p) p).halt.testBit k = if c = k then true else (getTile d p).halt.testBit k := by
  rw [haltOn, getTile_setTile_same, Nat.testBit_or, Nat.testBit_two_pow]
  by_cases h : c = k <;> simp [h]

theorem haltBit_resumeOn (p : Nat) (d : Dev) (c : Nat) {k : Nat} (hk : k < 8) :
    (getTile (resumeOn d p c) p).halt.testBit k = if c = k then false else (getTile d p).halt.testBit k := by
  rw [resumeOn, updCtx_eq, getTile_setCtx, getTile_setTile_same, testBit_clearBits, Nat.testBit_two_pow]
  by_cases h : c = k <;> simp [h, hk]

theorem getCtx_resumeOn (p : Nat) (d : Dev) (c k : Nat) :
    getCtx (resumeOn d p c) k = if c = k then { getCtx d k with trapArmed := true } else getCtx d k := by
  rw [resumeOn, updCtx_eq]
  split_ifs with h
  · rw [h, getCtx_setCtx_same, getCtx_setTile]
  · rw [getCtx_setCtx_ne _ _ (Ne.symm h), getCtx_setTile]

theorem haltBit_haltOrResume (p v : Nat) (d : Dev) (c : Nat) {k : Nat} (hk : k < 8) :
    (getTile (haltOrResume p v d c) p).halt.testBit k =
      if c = k then haltAfter v k ((getTile d p).halt.testBit k) else (getTile d p).halt.testBit k := by
  unfold haltOrResume
  by_cases h : c = k
  · subst h
    rw [if_pos rfl, haltAfter]
    split_ifs <;> simp only [haltBit_haltOn, haltBit_resumeOn p d c hk, if_true]
  · split_ifs <;> simp only [haltBit_haltOn, haltBit_resumeOn p d c hk, h, if_false]

theorem getCtx_haltOrResume (p v : Nat) (d : Dev) (c k : Nat) :
    getCtx (haltOrResume p v d c) k = if c = k then armedAfter v k (getCtx d k) else getCtx d k := by
  unfold haltOrResume
  by_cases h : c = k
  · subst h
    rw [if_pos rfl, armedAfter]
    split_ifs <;> simp only [haltOn, getCtx_setTile, getCtx_resumeOn, if_true]
  · split_ifs <;> simp only [haltOn, getCtx_setTile, getCtx_resumeOn, h, if_false]

/-- Where each step that names k changes what is seen of k by F, doing so again has no further effect, and no other step
changes it, all steps together change it by F or not at all. -/
theorem foldl_seen {α β : Type} {see : α → β} {F : β → β} {k : Nat} {f : α → Nat → α}
    (hf : ∀ a c, see (f a c) = if c = k then F (see a) else see a) (hF : ∀ b, F (F b) = F b) (l : List Nat) (a : α) :
    see (l.foldl f a) = if k ∈ l then F (see a) else see a := by
  induction l generalizing a with
  | nil => rfl
  | cons c l ih =>
    rw [List.foldl_cons, ih, hf]
    by_cases hc : k = c
    · rw [if_pos hc.symm, if_pos (List.mem_cons.2 (.inl hc)), hF, ite_self]
    · simp [hc, Ne.symm hc]

theorem haltBit_foldl (p v : Nat) (d : Dev) {k : Nat} (hk : k < 8) :
    (getTile ((List.range 8).foldl (haltOrResume p v) d) p).halt.testBit k = haltAfter v k ((getTile d p).halt.testBit k) := by
  rw [foldl_seen (see := fun d => (getTile d p).halt.testBit k) (fun d c => haltBit_haltOrResume p v d c hk)
    (haltAfter_idem v k), if_pos (List.mem_range.2 hk)]

theorem getCtx_foldl (p v : Nat) (d : Dev) (k : Nat) : getCtx ((List.range 8).foldl (haltOrResume p v) d) k =
    if k < 8 then armedAfter v k (getCtx d k) else getCtx d k := by
  rw [foldl_seen (see := fun d => getCtx d k) (fun d c => getCtx_haltOrResume p v d c k) (armedAfter_idem v k)]
  simp only [List.mem_range]

/-! The commands. -/

section
variable {s : State} {p : Nat} (v : Word) (hp : p < 1440) (hs : Serves s)
include hp hs

theorem tileHalt_gives : Gives (.tileHalt p v) s (writeHalt s.env p v.toNat s.dev) := by
  have hact := actT_of_serves hs (fun e d => writeHalt e p v.toNat d)
  rw [← decide_eq_true hp] at hact
  exact hact

theorem tileResume_gives : Gives (.tileResume p v) s (writeHalt s.env p v.toNat s.dev) := tileHalt_gives v hp hs

end

/-- Settles O16: the contexts' steps one after another, where no context is named in both fields. -/
theorem tileHaltAndResumeSetTheBits : Obligations.TileHaltAndResumeSetTheBits := by
  intro s p v both hp hs
  refine ⟨fun hboth => ?_, fun hboth => ?_⟩
  · have hkept := sameButHalts_foldl p v.toNat (List.range 8) s.dev
    have hgives := gives_congr (tileHalt_gives v hp hs) (writeHalt_of_not_both hboth)
    rw [Gives, inCycle_of_logNext (by rw [hkept.device])] at hgives
    refine ⟨_, hgives, hgives, fun c hc => haltBit_foldl p v.toNat s.dev hc, fun c => ?_, hkept.others, hkept.tile,
      by rw [← hkept.device]⟩
    rw [getCtx_foldl]
    by_cases hc : c < 8
    · simp only [armedAfter_of_not_both hboth hc, hc, true_and, if_true]
    · rw [if_neg hc, if_neg (fun h => hc h.1)]
  · exact ⟨gives_congr (tileHalt_gives v hp hs) (writeHalt_of_both hboth),
      gives_congr (tileResume_gives v hp hs) (writeHalt_of_both hboth)⟩

end Sys2Proof.Machine
end

section
/-! SUPPORT. Records of the sampler, the digest unit and the channels (R102, R103, R145 to R149, R199 to R203): what the run of a
record gives when its operands can be read, by what its data checks say. -/

namespace Sys2Proof.Machine

/-- A command that issues an engine's next record gives r, where the record's run does. -/
theorem issues_of_run_eq {s : State} {p g op : Nat} {o : Offer} {run : Run} {i : Instr} {r : Ran} (hn : NextRecord s p g op o)
    (hi : exec i s = act s (p < 1440) (issueEngine g op run p))
    (hr : run s.env p o.h o.c (issued s p o).1 (issued s p o).2 = r) : Issues i s p o r :=
  hr ▸ issues_of_run hn hi

/-! The sampler. -/

section
variable {e : Env} {p h c : Nat} {w : WinEnt} {d : Dev} {rows states tmpl cur : List (List Nat)}

section
variable (hrows : readCodes d p h c w.a = .ok rows) (hstates : readCodes d p h c w.b = .ok states)
include hrows hstates

theorem runSample_of_drawn {outs : List RowOut} (hids : idsOk w.b states = true)
    (houts : sampleRows (immOf w.raw) (rget d ⟨.TILE_SRL_KEY, p, c, h⟩) w.a w.d rows states = some outs) :
    let after : List Part2 :=
      if immOf w.raw = 1 then [] else [{ opd := w.b, rows := plainRows (outs.map (·.state)), fold := false }]
    let r := putResults e p h c 2 w false ({ opd := w.d, rows := outs.map (·.row) } :: after) d
    runSample e p h c w d = if r.failed then r else { r with dev := movePins c [] (outs.filterMap (·.unpin)) r.dev } := by
  rw [runSample, hrows, hstates]
  simp only [bind, Except.bind, hids, if_true, houts]
  rfl

theorem runSample_of_malformed (hbad : idsOk w.b states = false ∨
      sampleRows (immOf w.raw) (rget d ⟨.TILE_SRL_KEY, p, c, h⟩) w.a w.d rows states = none) :
    runSample e p h c w d = dataMalformed e p h c w d := by
  have hnone : (if idsOk w.b states then
      sampleRows (immOf w.raw) (rget d ⟨.TILE_SRL_KEY, p, c, h⟩) w.a w.d rows states else none) = none := by
    rcases hbad with hids | houts
    · rw [hids]; rfl
    · rw [houts, ite_self]
  rw [runSample, hrows, hstates]
  simp only [bind, Except.bind, hnone]
  rfl

end

section
variable (htmpl : readCodes d p h c w.a = .ok tmpl) (hcur : readCodes d p h c w.d = .ok cur)
include htmpl hcur

/-- The states are written where they were read, so that the writing does not fail (R145). -/
theorem runStateInit_of_opened {l : List (List Nat × Nat × Option Nat)}
    (hopen : openRows d c (bitOf (immOf w.raw) 0) w.d tmpl cur = some l) :
    let r := putResults e p h c 2 w false [{ opd := w.d, rows := plainRows (l.map (·.1)) }] d
    runStateInit e p h c w d =
      { r with dev := movePins c (l.map (fun r => r.2.1)) (l.filterMap (fun r => r.2.2)) r.dev } := by
  have hput : (putResults e p h c 2 w false [{ opd := w.d, rows := plainRows (l.map (·.1)) }] d).failed = false :=
    putResults_read hcur _
  rw [runStateInit, htmpl, hcur]
  simp only [bind, Except.bind, hopen, orStop, hput, Bool.false_eq_true, if_false]

theorem runStateInit_of_malformed (hopen : openRows d c (bitOf (immOf w.raw) 0) w.d tmpl cur = none) :
    runStateInit e p h c w d = dataMalformed e p h c w d := by
  rw [runStateInit, htmpl, hcur]
  simp only [bind, Except.bind, hopen]
  rfl

end
end

/-- Settles O10: each record's run by what its data checks say. -/
theorem samplerRecords : Obligations.SamplerRecords := by
  intro s p o
  dsimp only
  refine ⟨fun rows states outs hn ha hb hids houts => ⟨fun hput => ?_, fun hput => ?_⟩,
    fun rows states hn ha hb hbad => ?_, fun tmpl cur rows hn ha hd hopen => ?_, fun tmpl cur hn ha hd hopen => ?_⟩
  · exact issues_of_run_eq hn rfl ((runSample_of_drawn ha hb hids houts).trans (if_neg (Bool.eq_false_iff.1 hput)))
  · exact issues_of_run_eq hn rfl ((runSample_of_drawn ha hb hids houts).trans (if_pos hput))
  · exact issues_of_run_eq hn rfl (runSample_of_malformed ha hb hbad)
  · exact issues_of_run_eq hn rfl (runStateInit_of_opened ha hd hopen)
  · exact issues_of_run_eq hn rfl (runStateInit_of_malformed ha hd hopen)

/-! The digest unit and the channels. -/

theorem runDigest_of_read {p h c : Nat} {w : WinEnt} {d : Dev} {codes sc : List (List Nat)}
    (hread : readTensor d p h c w.a = .ok (codes, sc)) (e : Env) :
    runDigest e p h c w d = ⟨d, false, [(immOf w.raw % 32, digestOf w.a codes sc)]⟩ := by
  simp only [runDigest, hread]

section
variable {p h c : Nat} {w : WinEnt} {d : Dev} {codes : List (List Nat)} (hread : readCodes d p h c w.a = .ok codes) (e : Env)
include hread

theorem runDmaGo_of_judged (hok : chJudge d p h c (descNat codes) = .ok) :
    let n := immOf w.raw % 4
    let older := (getStrm d p h c).win.takeWhile (fun o => !(o.issued && o.order = w.order))
    runDmaGo e p h c w d = ⟨setChan (hazKind1 e p h c older w (descNat codes) d) p n { getChan d p n with
      shd := some { desc := descNat codes, c := c, h := h, idx := w.idx, issueNo := w.issueNo } }, false, []⟩ := by
  rw [runDmaGo, hread]
  simp only [bind, Except.bind, hok]
  rfl

theorem runDmaGo_of_failing (hbad : chJudge d p h c (descNat codes) ≠ .ok) :
    runDmaGo e p h c w d = ⟨channelFail e p c (immOf w.raw % 4) w (chJudge d p h c (descNat codes)) d, true, []⟩ := by
  rw [runDmaGo, hread]
  simp only [bind, Except.bind]
  rfl

end

/-- Settles O11: each record's run, its operand read. -/
theorem digestAndDmaGoRecords : Obligations.DigestAndDmaGoRecords := by
  intro s p o
  exact ⟨fun codes sc hn hread => issues_of_run_eq hn rfl (runDigest_of_read hread s.env),
    fun hn => issues_of_run (run := runDigestRead) hn rfl,
    fun codes hn hread hok => issues_of_run_eq hn rfl (runDmaGo_of_judged hread s.env hok),
    fun codes hn hread hbad => issues_of_run_eq hn rfl (runDmaGo_of_failing hread s.env hbad)⟩

end Sys2Proof.Machine
end

section
/-! SUPPORT. RECORD_DECODE (R81 to R86, R90): what a record does to the window and to decoding, by what it is judged. -/

namespace Sys2Proof.Machine

/-! What decoding goes on with after a record (R84, R85). -/

section
variable {w : WinEnt} (st : Strm)

theorem decodeOn_of_engine (hg : engineOf w.raw ≠ 6) : decodeOn w st = { st with next := w.idx + 1 } := if_pos hg

variable (hg : engineOf w.raw = 6)
include hg

theorem decodeOn_of_plain (hop : opcodeOf w.raw = 0x00 ∨ opcodeOf w.raw = 0x03) :
    decodeOn w st = { st with next := w.idx + 1 } := by
  rcases hop with hop | hop <;> simp [decodeOn, hg, hop]

theorem decodeOn_of_loopStart (hop : opcodeOf w.raw = 0x01) :
    decodeOn w st = { st with next := w.idx + 1, decLoops := (w.idx + 1, paramOf w.a 0) :: st.decLoops } := by
  simp [decodeOn, hg, hop]

theorem decodeOn_of_lastLoopEnd {b : Nat} {l : List (Nat × Nat)} (hop : opcodeOf w.raw = 0x02)
    (hl : st.decLoops = (b, 1) :: l) : decodeOn w st = { st with next := w.idx + 1, decLoops := l } := by
  simp [decodeOn, hg, hop, hl, loopNext_last]

theorem decodeOn_of_loopEnd {b n : Nat} {l : List (Nat × Nat)} (hop : opcodeOf w.raw = 0x02)
    (hl : st.decLoops = (b, n) :: l) (hn : 1 < n) :
    decodeOn w st = { st with next := b, decLoops := (b, n - 1) :: l } := by
  have hleft : n - 1 ≠ 0 := by omega
  simp [decodeOn, hg, hop, hl, hleft, loopNext_again b hn]

theorem decodeOn_of_end (hop : opcodeOf w.raw = 0x04) :
    decodeOn w st = { st with next := w.idx + 1, decoding := false } := by
  simp [decodeOn, hg, hop]

end

/-! What becomes of a record that is read. -/

/-- The next record w of a stream can be decoded: there is room for it, it lies in the share, and it can be read. -/
structure Decodes (d : Dev) (p h c : Nat) (w : WinEnt) : Prop where
  on : (getStrm d p h c).on = true
  decoding : (getStrm d p h c).decoding = true
  room : (getStrm d p h c).win.length < 16
  share : inShare d p h c 0 (recordOff d p h c (getStrm d p h c).next) (recordOff d p h c (getStrm d p h c).next + 15) = true
  fetch : fetchRecord d p h c (getStrm d p h c).next = .ok w

section
variable {e : Env} {d : Dev} {p h c : Nat} {w : WinEnt} (hd : Decodes d p h c w)
include hd

theorem decodeRecord_of_malformed {opds : List Nat}
    (hform : judgeForm (allotOf (decodeSeen e p h c (getStrm d p h c).next w d) p h c) (getStrm d p h c).decLoops.length w =
      .malformed opds) :
    decodeRecord e p h c d =
      malformedRecord e p h c (getStrm d p h c).next opds (decodeSeen e p h c (getStrm d p h c).next w d) := by
  obtain ⟨hon, hdecoding, hroom, hshare, hfetch⟩ := hd
  simp [decodeRecord, hon, hdecoding, hroom, hshare, hfetch, hform]

variable (hform : judgeForm (allotOf (decodeSeen e p h c (getStrm d p h c).next w d) p h c)
  (getStrm d p h c).decLoops.length w = .ok)
include hform

theorem decodeRecord_of_bounds {outs : List (Nat × Nat × Nat)}
    (hbounds : judgeBounds (decodeSeen e p h c (getStrm d p h c).next w d) p h c w = .bounds outs) :
    decodeRecord e p h c d =
      boundsRecord e p h c (getStrm d p h c).next outs (decodeSeen e p h c (getStrm d p h c).next w d) := by
  obtain ⟨hon, hdecoding, hroom, hshare, hfetch⟩ := hd
  simp [decodeRecord, hon, hdecoding, hroom, hshare, hfetch, hform, hbounds]

theorem decodeRecord_of_ok (hbounds : judgeBounds (decodeSeen e p h c (getStrm d p h c).next w d) p h c w = .ok) :
    decodeRecord e p h c d = enterWindow p h c w (decodeSeen e p h c (getStrm d p h c).next w d) := by
  obtain ⟨hon, hdecoding, hroom, hshare, hfetch⟩ := hd
  simp [decodeRecord, hon, hdecoding, hroom, hshare, hfetch, hform, hbounds]

end

/-- A record enters its window, and the stream stands as decoding goes on. -/
theorem enterWindow_of_decodeOn {p h c : Nat} {w : WinEnt} {d : Dev} {x : Strm}
    (hx : decodeOn w { getStrm d p h c with
      win := (getStrm d p h c).win ++ [{ w with entered := (getTile d p).entries }] } = x) :
    enterWindow p h c w d =
      waitsMoved p (setTile (setStrm d p h c x) p { getTile d p with entries := (getTile d p).entries + 1 }) :=
  hx ▸ rfl

/-- Settles O13: what a record is judged, and for one that enters the window what its opcode makes of decoding. -/
theorem recordDecodeJudges : Obligations.RecordDecodeJudges := by
  intro s p h c w
  dsimp only
  intro hplace hr hon hdecoding hroom hshare hfetch
  have hd : Decodes s.dev p h c w := ⟨hon, hdecoding, hroom, hshare, hfetch⟩
  have hgives : Gives (.recordDecode p h c) s (decodeRecord s.env p h c s.dev) :=
    gives_of_act (f := fun e d => decodeRecord e p h c d) rfl hplace hr
  have enters {x : Strm} (hform) (hbounds) (hx) := gives_congr hgives
    ((decodeRecord_of_ok hd hform hbounds).trans (enterWindow_of_decodeOn (x := x) hx))
  exact ⟨fun hform hbounds hg => enters hform hbounds (decodeOn_of_engine _ hg),
    fun hform hbounds hg hop => enters hform hbounds (decodeOn_of_plain _ hg hop),
    fun hform hbounds hg hop => enters hform hbounds (decodeOn_of_loopStart _ hg hop),
    fun b l hform hbounds hg hop hl => enters hform hbounds (decodeOn_of_lastLoopEnd _ hg hop hl),
    fun b n l hform hbounds hg hop hl hn => enters hform hbounds (decodeOn_of_loopEnd _ hg hop hl hn),
    fun hform hbounds hg hop => enters hform hbounds (decodeOn_of_end _ hg hop),
    fun opds hform => gives_congr hgives (decodeRecord_of_malformed hd hform),
    fun outs hform hbounds => gives_congr hgives (decodeRecord_of_bounds hd hform hbounds)⟩

end Sys2Proof.Machine
end

section
/-! SUPPORT. RECORD_COMPLETE, RECORD_AGED, TB_OWNER_EXCHANGE, HAZARD_WAIT_LIMIT (R93, R94, R103, R166, R220, R256) and
TILE_PEN_WRITE (R95): the effect of each, its conditions met. -/

namespace Sys2Proof.Machine

/-! Completion. -/

/-- The device as a record has left its window: END noted, folds in their slots. -/
def leftWindow (p h c n : Nat) (w : WinEnt) (d : Dev) : Dev :=
  applyFolds p h w.folds (setStrm d p h c { getStrm d p h c with
    win := (getStrm d p h c).win.eraseIdx n, endDone := (getStrm d p h c).endDone || (engineOf w.raw = 6 && opcodeOf w.raw = 0x04) })

section
variable {d : Dev} {p h c n : Nat} {w : WinEnt} (e : Env)

theorem completeAt_of_failed (hfailed : w.failed = true) : completeAt e p h c n w d = leftWindow p h c n w d := if_pos hfailed

theorem completeAt_of_not_failed (hfailed : w.failed = false) :
    completeAt e p h c n w d = (postsOf w.raw).foldl (fun d k => postPennant e p h c w k d) (leftWindow p h c n w d) :=
  if_neg (Bool.eq_false_iff.1 hfailed)

variable (hw : (getStrm d p h c).win[n]? = some w) (hdone : mayComplete n w = true)
include hw hdone

theorem completeRecord_of_done : completeRecord e p h c n d = completeAt e p h c n w d := by
  simp only [completeRecord, hw, hdone, if_true]

end

theorem recordComplete_gives {s : State} {p h c n : Nat} {w : WinEnt} (hplace : placeOk p h c = true) (hr : Runs s)
    (hw : (getStrm s.dev p h c).win[n]? = some w) (hdone : mayComplete n w = true) :
    Gives (.recordComplete p h c n) s (completeAt s.env p h c n w s.dev) :=
  completeRecord_of_done s.env hw hdone ▸
    gives_of_act (f := fun e d => completeRecord e p h c n d) rfl hplace hr

/-! Age, and the transposing buffer's owner. -/

theorem ageRecord_of_due {e : Env} {d : Dev} {p h c n began : Nat} {older : List WinEnt} {w : WinEnt}
    (hw : (withOlder [] (getStrm d p h c).win)[n]? = some (older, w)) (hissued : w.issued = false) (haged : w.aged = none)
    (hmet : metRules d p h older w = true) (hlong : began + ageNs ≤ e.clk.ft) :
    ageRecord e p h c n began d = putEnt p h c n { w with aged := some began } d := by
  simp only [ageRecord, hw, hissued, haged, hmet, hlong, Bool.not_false, and_self, if_true]

theorem exchangeTb_of_wanted {e : Env} {d : Dev} {p owner c : Nat} {w : WinEnt} {mine image : List Byte}
    (howner : rget d ⟨.TILE_FOLD_TB_OWNER, p, 0, 0⟩ = owner) (hfolded : isFolded d p = true)
    (hholds : holdsTb d p owner = false) (hwants : wantsTb d p (1 - owner) = some (c, w))
    (hmine : storeRead d p owner c 2 0 65536 = .ok mine) (himage : hbmRead d (tbImageAt d p) 65536 = .ok image) :
    let op := some (w.idx, tblGet (getStrm d p (1 - owner) c).issues w.idx 0)
    let seen := hbmDone e (tbImageAt d p) 65536 (storeSeen e p owner c 2 0 65536 op d)
    exchangeTb e p d = rset (storeWrite e p owner c 2 0 image (hbmAccept e (some c) (tbImageAt d p) mine seen))
      ⟨.TILE_FOLD_TB_OWNER, p, 0, 0⟩ (1 - owner) := by
  subst howner
  have hmoves : ¬ ((!isFolded d p || holdsTb d p (rget d ⟨.TILE_FOLD_TB_OWNER, p, 0, 0⟩)) = true) := by
    simp [hfolded, hholds]
  simp only [exchangeTb, hwants, if_neg hmoves, hmine, himage]

/-! A wait beyond the limit. -/

@[simp] theorem getStrm_awaitedPennant (d : Dev) (p h : Nat) (older : List WinEnt) (w : WinEnt) (q k c : Nat) :
    getStrm (awaitedPennant d p h older w).2 q k c = getStrm d q k c := by
  unfold awaitedPennant
  split <;> rfl

theorem waitLimit_of_due {e : Env} {d : Dev} {p h c n : Nat} {older : List WinEnt} {w : WinEnt}
    (hw : (withOlder [] (getStrm d p h c).win)[n]? = some (older, w)) (hon : hazOn d c = true) (hissued : w.issued = false)
    (hfirst : w.hazWait = false) (hwaits : (waitsMet d p h older w && landMet d p h w) = false) (hbusy : busyOn d p c = false) :
    let land (k : Nat) : Nat := if lwEnOf w.raw then k else 0
    let ln := landNo h (lwIdxOf w.raw)
    let pen := awaitedPennant d p h older w
    waitLimit e p h c n d = hazReport e p h c
      ⟨7, w.idx, tblGet (getStrm d p h c).issues w.idx 0, pen.1, 0, land ln, 0, land (rget d ⟨.TILE_LAND_COUNT, p, ln, 0⟩),
        land (rget d ⟨.TILE_LAND_BASE, p, ln, 0⟩), land (lwTargetOf w.raw), waitLoose d p h older w⟩
      (setStrm pen.2 p h c { getStrm d p h c with win := (getStrm d p h c).win.set n { w with hazWait := true } }) := by
  simp only [waitLimit, hw, hon, hissued, hfirst, hwaits, hbusy, Bool.not_false, and_self, if_true, putEnt, getStrm_awaitedPennant]

/-- Settles O14: each command's effect, its conditions met. -/
theorem recordsCompleteAgeAndWait : Obligations.RecordsCompleteAgeAndWait := by
  intro s p h c n w older
  dsimp only
  intro hplace hr
  have hp : p < 1440 := by
    simp only [placeOk, Bool.and_eq_true, decide_eq_true_eq] at hplace
    exact hplace.1.1
  refine ⟨fun hw hdone hfailed => ?_, fun hw hdone hfailed => ?_, fun began hw hissued haged hmet hlong => ?_,
    fun mine image hfolded hholds hwants hmine himage => ?_, fun hw hon hissued hfirst hwaits hbusy => ?_⟩
  · exact gives_congr (recordComplete_gives hplace hr hw hdone) (completeAt_of_failed _ hfailed)
  · exact gives_congr (recordComplete_gives hplace hr hw hdone) (completeAt_of_not_failed _ hfailed)
  · exact gives_congr (gives_of_act (f := fun e d => ageRecord e p h c n began d) rfl hplace hr)
      (ageRecord_of_due hw hissued haged hmet hlong)
  · exact gives_congr (gives_of_act (f := fun e d => exchangeTb e p d) rfl (decide_eq_true hp) hr)
      (exchangeTb_of_wanted rfl hfolded hholds hwants hmine himage)
  · exact gives_congr (gives_of_act (f := fun e d => waitLimit e p h c n d) rfl hplace hr)
      (waitLimit_of_due hw hon hissued hfirst hwaits hbusy)

/-! A pennant set by hand. -/

section
variable {e : Env} {d : Dev} {p : Nat}

theorem penWrite_of_halted {c : Nat} (howner : pennantOwner d p (rget d ⟨.TILE_PEN_SEL, p, 0, 0⟩) = some c)
    (hhalt : (getTile d p).halt.testBit c = true) :
    penWrite e p d = waitsMoved p (rset d ⟨.TILE_PEN_COUNT, p, rget d ⟨.TILE_PEN_SEL, p, 0, 0⟩, 0⟩
      (rget d ⟨.TILE_PEN_VAL, p, 0, 0⟩)) := by
  simp only [penWrite, howner, hhalt, if_true]

theorem penWrite_of_not_halted {c : Nat} (howner : pennantOwner d p (rget d ⟨.TILE_PEN_SEL, p, 0, 0⟩) = some c)
    (hhalt : (getTile d p).halt.testBit c = false) : penWrite e p d = regAccess e (tileOff p 0x504) true d := by
  simp only [penWrite, howner, hhalt, Bool.false_eq_true, if_false]

theorem penWrite_of_not_owned (howner : pennantOwner d p (rget d ⟨.TILE_PEN_SEL, p, 0, 0⟩) = none) :
    penWrite e p d = regAccess e (tileOff p 0x504) true d := by
  simp only [penWrite, howner]

end

/-- While Tabok serves, a command on a tile's registers gives what its meaning says. -/
theorem gives_of_actT {s : State} {i : Instr} {ok : Bool} {f : Env → Dev → Dev} (hi : exec i s = actT s ok f) (hok : ok = true)
    (h : Serves s) : Gives i s (f s.env s.dev) :=
  hi.trans (hok ▸ actT_of_serves h f)

/-- Settles O17: whether the pennant has an owner, and whether the owner is halted. -/
theorem pennantIsSetByHandOnlyHalted : Obligations.PennantIsSetByHandOnlyHalted := by
  intro s p c
  dsimp only
  intro hp hs
  have hgives : Gives (.tilePenWrite p) s (penWrite s.env p s.dev) :=
    gives_of_actT (f := fun e d => penWrite e p d) rfl (decide_eq_true hp) hs
  exact ⟨fun howner hhalt => gives_congr hgives (penWrite_of_halted howner hhalt),
    fun howner hhalt => gives_congr hgives (penWrite_of_not_halted howner hhalt),
    fun howner => gives_congr hgives (penWrite_of_not_owned howner)⟩

end Sys2Proof.Machine
end

section
/-! SUPPORT. The counts of pennants and landing counters with their flags, and the bytes of the stores (R94 to R98): what
raising records, answering writes, judging waits and accepting writes of HBM leave as it is. -/

namespace Sys2Proof.Machine

/-- The registers that count waits, posts and arriving writes, with their flags. -/
def tallyReg : Reg → Bool
  | .TILE_PEN_COUNT | .TILE_PEN_OVF | .TILE_LAND_COUNT | .TILE_LAND_REJECT => true
  | _ => false

theorem errReg_of_tallyReg {r : Reg} (h : tallyReg r = true) : errReg r = false := by
  unfold tallyReg at h
  split at h <;> first | rfl | cases h

/-- The devices agree on those registers and on the tile and gradient stores. -/
structure SameTallies (d d' : Dev) : Prop where
  reg : ∀ j : RegKey, tallyReg j.reg = true → rget d' j = rget d j
  ts : d'.ts = d.ts
  gs : d'.gs = d.gs

theorem SameTallies.refl (d : Dev) : SameTallies d d := ⟨fun _ _ => rfl, rfl, rfl⟩

theorem SameTallies.trans {a b c : Dev} (h : SameTallies a b) (k : SameTallies b c) : SameTallies a c :=
  ⟨fun j hj => (k.reg j hj).trans (h.reg j hj), k.ts.trans h.ts, k.gs.trans h.gs⟩

theorem SameTallies.of_fields {d d' : Dev} (hregs : d'.regs = d.regs) (hts : d'.ts = d.ts) (hgs : d'.gs = d.gs) :
    SameTallies d d' := ⟨fun j _ => rget_congr hregs j, hts, hgs⟩

/-- What keeps them after a change of other fields keeps them with that change. -/
theorem SameTallies.after {a b c : Dev} (h : SameTallies b c) (hregs : b.regs = a.regs) (hts : b.ts = a.ts) (hgs : b.gs = a.gs) :
    SameTallies a c := (SameTallies.of_fields hregs hts hgs).trans h

theorem SameRegs.tallies {d d' : Dev} (h : SameRegs d d') (k : SameButFail d d') : SameTallies d d' :=
  ⟨fun j hj => h j (errReg_of_tallyReg hj), k.ts, k.gs⟩

theorem sameTallies_foldl {α : Type} {f : Dev → α → Dev} (hf : ∀ d a, SameTallies d (f d a)) (l : List α) (d : Dev) :
    SameTallies d (l.foldl f d) := by
  induction l generalizing d with
  | nil => exact .refl d
  | cons a l ih => exact (hf d a).trans (ih _)

theorem sameTallies_rset (d : Dev) {k : RegKey} (v : Nat) (hk : tallyReg k.reg = false) : SameTallies d (rset d k v) := by
  refine ⟨fun j hj => rget_rset_ne d v ?_, rfl, rfl⟩
  rintro rfl
  rw [hk] at hj; cases hj

theorem sameTallies_satAdd (e : Env) {k : RegKey} (n : Nat) (d : Dev) (hk : tallyReg k.reg = false) :
    SameTallies d (satAdd e k n d) := by
  have hlog := sameButLog_satAdd e k n d
  refine ⟨fun j hj => rget_satAdd_ne e k n d j (errReg_of_tallyReg hj) ?_, hlog.ts, hlog.gs⟩
  rintro rfl
  rw [hk] at hj; cases hj

theorem sameTallies_logError (e : Env) (r : Err) (d : Dev) : SameTallies d (logError e r d) :=
  (sameRegs_logError e r d).tallies (sameButLog_logError e r d).fail

theorem sameTallies_failWith (e : Env) (c cause : Nat) (r : Err) (d : Dev) : SameTallies d (failWith e c cause r d) :=
  (sameRegs_failWith e c cause r d).tallies (sameButFail_failWith e c cause r d)

theorem sameTallies_takeFree (d : Dev) : SameTallies d (takeFree d).2 := ⟨fun _ _ => rfl, rfl, rfl⟩

/-! Reports of the hazard detector, and the waits of a tile judged anew. -/

theorem sameButLog_hazReport (e : Env) (p h c : Nat) (z : Haz) (d : Dev) : SameButLog d (hazReport e p h c z d) := by
  unfold hazReport
  dsimp only
  generalize hazImage e (takeFree d).2 p h c z ||| ((takeFree d).1 &&& z.loose) = img
  have hput := (sameButLog_logPut e 3 img (takeFree d).2).trans (sameButLog_pushEvent e c 4 img _)
  generalize pushEvent e c 4 img (logPut e 3 img (takeFree d).2) = x at hput ⊢
  have hcount := (SameButLog.trans (b := (takeFree d).2) rfl hput).trans ((sameButLog_rset x _ _).trans
    (sameButLog_satAdd e ⟨.DBG_HZ_COUNT, c, 0, 0⟩ 1
      (rset x ⟨.DBG_HZ_STATUS, c, 0, 0⟩ (rget x ⟨.DBG_HZ_STATUS, c, 0, 0⟩ ||| 2 ^ (z.kind - 1)))))
  split
  · exact hcount.trans (sameButLog_setTile ..)
  · exact hcount

theorem sameTallies_hazReport (e : Env) (p h c : Nat) (z : Haz) (d : Dev) : SameTallies d (hazReport e p h c z d) :=
  (sameRegs_hazReport e p h c z d).tallies (sameButLog_hazReport e p h c z d).fail

theorem sameTallies_pushFreeSample (x : Sample) (d : Dev) : SameTallies d (pushFreeSample x d) := by
  unfold pushFreeSample
  split
  · exact .of_fields rfl rfl rfl
  · exact .refl d

theorem sameTallies_judgeWaits (p h : Nat) (d : Dev) (c : Nat) : SameTallies d (judgeWaits p h d c) := by
  unfold judgeWaits
  dsimp only
  split
  · exact .refl d
  · exact SameTallies.after (sameTallies_foldl (fun d _ => sameTallies_pushFreeSample _ d) _ _) rfl rfl rfl

theorem sameTallies_waitsMoved (p : Nat) (d : Dev) : SameTallies d (waitsMoved p d) :=
  (sameTallies_foldl (sameTallies_judgeWaits p 0) _ _).trans (sameTallies_foldl (sameTallies_judgeWaits p 1) _ _)

theorem sameTallies_withLineTags (d : Dev) (l : List LineTag) : SameTallies d { d with lineTags := l } := .of_fields rfl rfl rfl

theorem sameTallies_tagLines (p h c : Nat) (a : Arrival) (n : Nat) (d : Dev) : SameTallies d (tagLines p h c a n d) :=
  sameTallies_foldl (fun d _ => sameTallies_withLineTags d _) _ _

theorem sameTallies_hazKind3 (e : Env) (p h c : Nat) (a : Arrival) (d : Dev) : SameTallies d (hazKind3 e p h c a d) :=
  SameTallies.after (sameTallies_foldl (fun d _ => sameTallies_hazReport _ _ _ _ _ d) _ _) rfl rfl rfl

/-! The answer to an arriving write. -/

theorem sameTallies_ownerFailed (e : Env) (o : WrOwner) (cause : Nat) (d : Dev) : SameTallies d (ownerFailed e o cause d) := by
  unfold ownerFailed
  split
  · unfold writeFailed
    dsimp only
    refine SameTallies.trans (SameTallies.trans ?_ (sameTallies_rset _ 1 ?_)) (sameTallies_failWith ..)
    · split
      · exact .of_fields rfl rfl rfl
      · exact .refl d
    · dsimp only
      split <;> rfl
  · exact .refl d

theorem sameTallies_ownerLanded (o : WrOwner) (d : Dev) : SameTallies d (ownerLanded o d) := by
  unfold ownerLanded
  dsimp only
  split
  · split
    · exact .of_fields rfl rfl rfl
    · exact .refl d
  · exact .of_fields rfl rfl rfl
  · exact .refl d

theorem sameTallies_tagFailed (e : Env) (t cause : Nat) (d : Dev) : SameTallies d (tagFailed e t cause d) := by
  unfold tagFailed
  split
  · exact SameTallies.after (sameTallies_ownerFailed ..) rfl rfl rfl
  · exact sameTallies_satAdd e 1 d (k := ⟨.LNK_LATE_RESP, 0, 0, 0⟩) rfl

theorem sameTallies_discardLink (inp : Nat) (q : Queued) (d : Dev) : SameTallies d (discardLink inp q d).2 := by
  unfold discardLink
  split
  · exact .refl d
  · split
    · exact .refl d
    · split
      · exact .refl d
      · exact sameTallies_takeFree d

theorem sameTallies_discardPkt (e : Env) (inp cause : Nat) (q : Queued) (d : Dev) :
    SameTallies d (discardPkt e inp cause q d) := by
  have hlog (r : Err) := (sameTallies_discardLink inp q d).trans (sameTallies_logError e r _)
  unfold discardPkt
  dsimp only
  split
  · exact hlog _
  · refine (hlog _).trans (sameTallies_satAdd e 1 _ ?_)
    dsimp only
    split <;> rfl

theorem sameTallies_injectPkt (e : Env) (via : Option Nat) (p : Pkt) (d : Dev) : SameTallies d (injectPkt e via p d) := by
  unfold injectPkt
  dsimp only
  split
  · split
    · exact sameTallies_tagFailed ..
    · exact sameTallies_discardPkt ..
  · exact .of_fields rfl rfl rfl

theorem sameTallies_answerWrite (e : Env) (a : Arrival) (rejected : Bool) (d : Dev) :
    SameTallies d (answerWrite e a rejected d) := by
  unfold answerWrite
  split
  · exact sameTallies_injectPkt ..
  · split
    · exact sameTallies_ownerFailed ..
    · exact sameTallies_ownerLanded ..

theorem sameTallies_rejectWrite (e : Env) (p : Nat) (o : Option Nat) (a : Arrival) (d : Dev) :
    SameTallies d (rejectWrite e p o a d) := by
  unfold rejectWrite
  dsimp only
  split
  · exact sameTallies_failWith ..
  · exact sameTallies_logError ..

/-! Writes of HBM, which a store in a fold backing region makes (R165, R187). -/

theorem sameTallies_evictFail (e : Env) (w : WcbEnt) (d : Dev) : SameTallies d (evictFail e w d) := by
  have hflag : SameTallies d (rbit { d with wcb := d.wcb.filter (fun x => x.line ≠ w.line) }
      ⟨.HBM_EVICT_FAIL, hbmStack (w.line * 64), 0, 0⟩) :=
    SameTallies.after (sameTallies_rset _ 1 rfl) rfl rfl rfl
  unfold evictFail
  split
  · exact hflag.trans (sameTallies_failWith ..)
  · exact hflag.trans (sameTallies_logError ..)

theorem sameTallies_entryMet (e : Env) (d : Dev) (line : Nat) : SameTallies d (entryMet e d line) := by
  unfold entryMet
  split
  · split
    · exact sameTallies_evictFail ..
    · exact .refl d
  · exact .refl d

theorem sameTallies_patrolCount (e : Env) (s pc : Nat) (d : Dev) : SameTallies d (patrolCount e s pc d) := by
  have hcount (t : List (Nat × Nat)) : SameTallies d (satAdd e ⟨.HBM_PC_CE, s, pc, 0⟩ 1 { d with patrolCe := t }) :=
    SameTallies.after (sameTallies_satAdd e 1 _ rfl) rfl rfl rfl
  have hover (x : Dev) (l : List Nat) (o : List Out) : SameTallies x { x with patrolOver := l, outbox := o } :=
    .of_fields rfl rfl rfl
  unfold patrolCount
  dsimp only
  split
  · exact (((hcount _).trans (hover ..)).trans (sameTallies_rset _ 1 rfl)).trans (sameTallies_logError ..)
  · exact hcount _

theorem sameTallies_lineChecked (e : Env) (d : Dev) (line : Nat) : SameTallies d (lineChecked e d line) := by
  unfold lineChecked
  split
  · split
    · exact .refl d
    · exact (sameTallies_logError ..).trans (sameTallies_patrolCount ..)
  · exact .refl d

theorem sameTallies_hbmPutLine (line : Nat) (bs : List Byte) (d : Dev) : SameTallies d (hbmPutLine line bs d) :=
  .of_fields rfl rfl rfl

theorem sameTallies_evictEntry (e : Env) (w : WcbEnt) (d : Dev) : SameTallies d (evictEntry e w d) := by
  unfold evictEntry
  split
  · exact sameTallies_evictFail ..
  · split
    · exact ((sameTallies_rset _ 1 rfl).trans (sameTallies_satAdd e 1 _ rfl)).trans (sameTallies_evictFail ..)
    · exact ((sameTallies_lineChecked ..).trans (sameTallies_hbmPutLine ..)).trans (sameTallies_satAdd e 1 _ rfl)

theorem sameTallies_wcbRoom (e : Env) (s : Nat) (d : Dev) : SameTallies d (wcbRoom e s d) := by
  unfold wcbRoom
  split
  · split
    · exact sameTallies_evictEntry ..
    · exact .refl d
  · exact .refl d

theorem sameTallies_hbmAcceptLine (e : Env) (ctx : Option Nat) (a : Nat) (bs : List Byte) (d : Dev) :
    SameTallies d (hbmAcceptLine e ctx a bs d) := by
  unfold hbmAcceptLine
  dsimp only
  split
  · exact sameTallies_hbmPutLine ..
  · have hmet := sameTallies_entryMet e d (a / 64)
    generalize entryMet e d (a / 64) = x at hmet ⊢
    refine hmet.trans (SameTallies.trans (b := if (wcbOf x (a / 64)).isSome then x else wcbRoom e (hbmStack a) x) ?_ ?_)
    · split
      · exact .refl x
      · exact sameTallies_wcbRoom ..
    · generalize (if (wcbOf x (a / 64)).isSome then x else wcbRoom e (hbmStack a) x) = y
      split
      · exact (sameTallies_hbmPutLine ..).trans (sameTallies_satAdd e 1 _ rfl)
      · split <;> exact .of_fields rfl rfl rfl

/-- A write of a store moves no count, wherever its bytes lie. -/
theorem rget_storeWrite (e : Env) (p h c space off : Nat) (bs : List Byte) (d : Dev) {j : RegKey}
    (hj : tallyReg j.reg = true) : rget (storeWrite e p h c space off bs d) j = rget d j := by
  have hloc (d : Dev) (bs : List Byte) (l : Loc) : rget (locWrite e c bs d l) j = rget d j := by
    cases l with
    | ts a | gs a | tb a => rfl
    | hbm a =>
      dsimp only [locWrite]
      split
      · rfl
      · exact (sameTallies_foldl (fun _ _ => sameTallies_hbmAcceptLine ..) _ d).reg j hj
  unfold storeWrite
  generalize cutGranules off bs.length bs = l
  induction l generalizing d with
  | nil => rfl
  | cons x l ih => exact (ih _).trans (hloc ..)

end Sys2Proof.Machine
end

section
/-! SUPPORT. Pennants (R94): what the waits of a record take as it issues, and what its posts add as it completes. -/

namespace Sys2Proof.Machine

/-- How often a list of pennants of logical tile h of tile p names pennant k of tile q. -/
def timesNamed (p h q k : Nat) (l : List Nat) : Nat := if q = p then (l.filter (fun m => penNo h m = k)).length else 0

/-- Whether pennant n of logical tile h of tile p is pennant k of tile q. -/
def namesPen (p h q k n : Nat) : Prop := q = p ∧ penNo h n = k

section
variable {p h q k n : Nat} {l : List Nat}

theorem timesNamed_nil : timesNamed p h q k [] = 0 := ite_self _

theorem timesNamed_cons_of_names (hn : namesPen p h q k n) : timesNamed p h q k (n :: l) = timesNamed p h q k l + 1 := by
  obtain ⟨rfl, hk⟩ := hn
  simp [timesNamed, hk]

theorem timesNamed_cons_of_not_names (hn : ¬ namesPen p h q k n) : timesNamed p h q k (n :: l) = timesNamed p h q k l := by
  by_cases hq : q = p
  · have hk : penNo h n ≠ k := fun hk => hn ⟨hq, hk⟩
    simp [timesNamed, hk]
  · simp only [timesNamed, if_neg hq]

theorem penKey_eq_iff : (⟨.TILE_PEN_COUNT, q, k, 0⟩ : RegKey) = ⟨.TILE_PEN_COUNT, p, penNo h n, 0⟩ ↔ namesPen p h q k n := by
  simp [namesPen, eq_comm (a := k)]

end

theorem penCount_lt (d : Dev) (q k : Nat) : rget d ⟨.TILE_PEN_COUNT, q, k, 0⟩ < 256 := rget_lt d _

/-! Waits. -/

/-- One wait takes a count. -/
def takeWait (p h : Nat) (d : Dev) (n : Nat) : Dev :=
  let k : RegKey := ⟨.TILE_PEN_COUNT, p, penNo h n, 0⟩
  rset d k (rget d k - 1)

theorem penCount_foldl_takeWait (p h q k : Nat) (l : List Nat) (d : Dev) :
    rget (l.foldl (takeWait p h) d) ⟨.TILE_PEN_COUNT, q, k, 0⟩ =
      rget d ⟨.TILE_PEN_COUNT, q, k, 0⟩ - timesNamed p h q k l := by
  induction l generalizing d with
  | nil => rw [timesNamed_nil]; rfl
  | cons n l ih =>
    rw [List.foldl_cons, ih, takeWait]
    by_cases hn : namesPen p h q k n
    · have hlt := penCount_lt d q k
      have hbits : (⟨.TILE_PEN_COUNT, q, k, 0⟩ : RegKey).reg.bits = 8 := rfl
      rw [← penKey_eq_iff.2 hn, rget_rset_same, hbits, Nat.mod_eq_of_lt (by omega), timesNamed_cons_of_names hn]
      omega
    · rw [rget_rset_ne d _ (mt penKey_eq_iff.1 hn), timesNamed_cons_of_not_names hn]

/-- The landing wait of a record that issues: what the monitors and the detector see of it, and the base moved on (R96). -/
def takeLanding (p h c : Nat) (w : WinEnt) (d : Dev) : Dev :=
  let d := if lwEnOf w.raw ∧ !w.landed then pushFreeSample { src := 2, fa := p, ctx := some c } d else d
  if lwEnOf w.raw then
    let n := landNo h (lwIdxOf w.raw)
    let k : RegKey := ⟨.TILE_LAND_BASE, p, n, 0⟩
    let b := rget d k
    let d := if hazOn d c then shadowWait p n b (lwTargetOf w.raw) d else d
    if lwConsumeOf w.raw then rset d k ((b + lwTargetOf w.raw) % 2 ^ 24) else d
  else d

theorem consume_eq (d : Dev) (p h c : Nat) (w : WinEnt) :
    consume d p h c w = takeLanding p h c w ((waitsOf w.raw).foldl (takeWait p h) d) := rfl

theorem sameTallies_withShadowBases (d : Dev) (l : List (Nat × Nat)) : SameTallies d { d with shadowBases := l } :=
  .of_fields rfl rfl rfl

theorem sameTallies_takeLanding (p h c : Nat) (w : WinEnt) (d : Dev) : SameTallies d (takeLanding p h c w d) := by
  have hsample : SameTallies d
      (if lwEnOf w.raw ∧ !w.landed then pushFreeSample { src := 2, fa := p, ctx := some c } d else d) := by
    split
    · exact sameTallies_pushFreeSample ..
    · exact .refl d
  unfold takeLanding
  dsimp only
  generalize (if lwEnOf w.raw ∧ !w.landed then pushFreeSample { src := 2, fa := p, ctx := some c } d else d) = x at hsample ⊢
  refine hsample.trans ?_
  have hshadow (n b t : Nat) : SameTallies x (if hazOn x c then shadowWait p n b t x else x) := by
    split
    · exact sameTallies_withShadowBases ..
    · exact .refl x
  split
  · split
    · exact (hshadow ..).trans (sameTallies_rset _ _ rfl)
    · exact hshadow ..
  · exact .refl x

/-- Beside the counts that the waits take, an issue moves none. -/
theorem rget_accept (e : Env) (p h c pos : Nat) (w : WinEnt) (d : Dev) {j : RegKey} (hj : tallyReg j.reg = true) :
    rget (accept e p h c pos w d).2 j = rget ((waitsOf w.raw).foldl (takeWait p h) d) j := by
  refine Eq.trans ?_ ((sameTallies_takeLanding p h c w _).reg j hj)
  rw [← consume_eq, accept]
  generalize consume d p h c w = x
  dsimp only
  refine (sameRegs_hazIssue _ _ _ _ _ _ j (errReg_of_tallyReg hj)).trans ?_
  refine ((sameTallies_waitsMoved ..).reg j hj).trans ?_
  split
  · exact (sameTallies_satAdd e 1 _ rfl).reg j hj
  · rfl

/-! Posts. -/

theorem postPennant_full {e : Env} {p h c n : Nat} {w : WinEnt} {d : Dev}
    (hfull : rget d ⟨.TILE_PEN_COUNT, p, penNo h n, 0⟩ = 255) :
    SameTallies (rbit d ⟨.TILE_PEN_OVF, p, 0, 0⟩) (postPennant e p h c w n d) := by
  unfold postPennant
  dsimp only
  rw [if_pos hfull]
  exact sameTallies_failWith ..

theorem postPennant_counts {e : Env} {p h c n : Nat} {w : WinEnt} {d : Dev}
    (hroom : rget d ⟨.TILE_PEN_COUNT, p, penNo h n, 0⟩ ≠ 255) :
    SameTallies (rset d ⟨.TILE_PEN_COUNT, p, penNo h n, 0⟩ (rget d ⟨.TILE_PEN_COUNT, p, penNo h n, 0⟩ + 1))
      (postPennant e p h c w n d) := by
  unfold postPennant
  dsimp only
  rw [if_neg hroom]
  split
  · exact sameTallies_hazReport ..
  · exact .refl _

section
variable {e : Env} {p h c q k n : Nat} {w : WinEnt} {d : Dev}

theorem penCount_postPennant_of_names (hn : namesPen p h q k n) :
    rget (postPennant e p h c w n d) ⟨.TILE_PEN_COUNT, q, k, 0⟩ = min 255 (rget d ⟨.TILE_PEN_COUNT, q, k, 0⟩ + 1) := by
  have hlt := penCount_lt d q k
  rw [penKey_eq_iff.2 hn] at hlt ⊢
  by_cases hfull : rget d ⟨.TILE_PEN_COUNT, p, penNo h n, 0⟩ = 255
  · rw [(postPennant_full hfull).reg _ rfl, rbit, rget_rset_ne d 1 (by simp), hfull]
    rfl
  · have hbits : (⟨.TILE_PEN_COUNT, p, penNo h n, 0⟩ : RegKey).reg.bits = 8 := rfl
    rw [(postPennant_counts hfull).reg _ rfl, rget_rset_same, hbits]
    omega

theorem penCount_postPennant_of_not_names (hn : ¬ namesPen p h q k n) :
    rget (postPennant e p h c w n d) ⟨.TILE_PEN_COUNT, q, k, 0⟩ = rget d ⟨.TILE_PEN_COUNT, q, k, 0⟩ := by
  by_cases hfull : rget d ⟨.TILE_PEN_COUNT, p, penNo h n, 0⟩ = 255
  · rw [(postPennant_full hfull).reg _ rfl, rbit, rget_rset_ne d 1 (by simp)]
  · rw [(postPennant_counts hfull).reg _ rfl, rget_rset_ne d _ (mt penKey_eq_iff.1 hn)]

/-- A post on a full pennant sets the flag, and no post clears it. -/
theorem penOvf_postPennant
    (hset : rget d ⟨.TILE_PEN_COUNT, p, penNo h n, 0⟩ = 255 ∨ rget d ⟨.TILE_PEN_OVF, p, 0, 0⟩ = 1) :
    rget (postPennant e p h c w n d) ⟨.TILE_PEN_OVF, p, 0, 0⟩ = 1 := by
  by_cases hfull : rget d ⟨.TILE_PEN_COUNT, p, penNo h n, 0⟩ = 255
  · rw [(postPennant_full hfull).reg _ rfl, rbit, rget_rset_same]
    rfl
  · rw [(postPennant_counts hfull).reg _ rfl, rget_rset_ne d _ (by simp)]
    exact hset.resolve_left hfull

end

section
variable (e : Env) (p h c : Nat) (w : WinEnt)

theorem penCount_foldl_postPennant (q k : Nat) (l : List Nat) (d : Dev) :
    rget (l.foldl (fun d n => postPennant e p h c w n d) d) ⟨.TILE_PEN_COUNT, q, k, 0⟩ =
      min 255 (rget d ⟨.TILE_PEN_COUNT, q, k, 0⟩ + timesNamed p h q k l) := by
  induction l generalizing d with
  | nil =>
    have hlt := penCount_lt d q k
    rw [timesNamed_nil, List.foldl_nil]
    omega
  | cons n l ih =>
    rw [List.foldl_cons, ih]
    by_cases hn : namesPen p h q k n
    · rw [penCount_postPennant_of_names hn, timesNamed_cons_of_names hn]
      omega
    · rw [penCount_postPennant_of_not_names hn, timesNamed_cons_of_not_names hn]

theorem penOvf_foldl_postPennant {q k : Nat} (l : List Nat) (d : Dev)
    (hset : 255 < rget d ⟨.TILE_PEN_COUNT, q, k, 0⟩ + timesNamed p h q k l ∨ rget d ⟨.TILE_PEN_OVF, p, 0, 0⟩ = 1) :
    rget (l.foldl (fun d n => postPennant e p h c w n d) d) ⟨.TILE_PEN_OVF, p, 0, 0⟩ = 1 := by
  induction l generalizing d with
  | nil =>
    have hlt := penCount_lt d q k
    rw [timesNamed_nil] at hset
    exact hset.resolve_left (by omega)
  | cons n l ih =>
    refine ih _ ?_
    rcases hset with hover | hflag
    · by_cases hn : namesPen p h q k n
      · rw [timesNamed_cons_of_names hn] at hover
        by_cases hfull : rget d ⟨.TILE_PEN_COUNT, q, k, 0⟩ = 255
        · exact .inr (penOvf_postPennant (.inl (penKey_eq_iff.2 hn ▸ hfull)))
        · have hlt := penCount_lt d q k
          exact .inl (by rw [penCount_postPennant_of_names hn]; omega)
      · rw [timesNamed_cons_of_not_names hn] at hover
        exact .inl (by rwa [penCount_postPennant_of_not_names hn])
    · exact .inr (penOvf_postPennant (.inr hflag))

end

/-- A record that leaves its window moves no count by it. -/
theorem sameTallies_leftWindow (p h c n : Nat) (w : WinEnt) (d : Dev) : SameTallies d (leftWindow p h c n w d) :=
  SameTallies.after (sameTallies_foldl (fun d _ => sameTallies_rset d _ rfl) _ _) rfl rfl rfl

/-- Settles O15: the counts after each wait and each post, and nothing else of the issue or the completion moves one. -/
theorem pennantsCountWaitsAndPosts : Obligations.PennantsCountWaitsAndPosts := by
  intro s p h c x n w q k
  refine ⟨fun hx => ⟨_, nop_gives hx, ?_⟩, fun hplace hr hw hdone hfailed => ⟨_, recordComplete_gives hplace hr hw hdone, ?_⟩⟩
  · rw [rget_inCycle _ _ (by simp), issuedControl, rget_accept _ _ _ _ _ _ _ rfl, penCount_foldl_takeWait]
    rfl
  · have hleft := sameTallies_leftWindow p h c n w s.dev
    have hcount : rget s.dev ⟨.TILE_PEN_COUNT, q, k, 0⟩ = rget (leftWindow p h c n w s.dev) ⟨.TILE_PEN_COUNT, q, k, 0⟩ :=
      (hleft.reg _ rfl).symm
    rw [rget_inCycle _ _ (by simp), rget_inCycle _ _ (by simp), completeAt_of_not_failed _ hfailed, hcount]
    exact ⟨penCount_foldl_postPennant .., fun hover => penOvf_foldl_postPennant _ _ _ _ _ _ _ (.inl hover)⟩

end Sys2Proof.Machine
end

section
/-! SUPPORT. Arriving writes (R96, R98): the bytes that a write of a store leaves on logical tile A, and what the commit and
the rejection of a write come to. -/

namespace Sys2Proof.Machine

/-! The bytes of a write. -/

theorem memWrite_append (m : List Host.Cell) (a : Nat) (xs ys : List Byte) :
    memWrite m a (xs ++ ys) = memWrite (memWrite m a xs) (a + xs.length) ys := by
  induction xs generalizing m a with
  | nil => rfl
  | cons x xs ih =>
    rw [List.cons_append, memWrite, memWrite, ih, List.length_cons, Nat.add_assoc, Nat.add_comm 1]

/-- The pieces of a write, cut at granule ends, written one after another are the write. -/
theorem memWrite_cutGranules (base : Nat) {fuel off : Nat} {bs : List Byte} (hfuel : bs.length ≤ fuel) (m : List Host.Cell) :
    (cutGranules off fuel bs).foldl (fun m x => memWrite m (base + x.1) x.2) m = memWrite m (base + off) bs := by
  induction fuel generalizing off bs m with
  | zero =>
    rw [List.length_eq_zero_iff.1 (Nat.le_zero.1 hfuel)]
    rfl
  | succ fuel ih =>
    unfold cutGranules
    split
    · rename_i hempty
      rw [List.isEmpty_iff.1 hempty]
      rfl
    · rename_i hsome
      have hlen : 0 < bs.length := List.length_pos_iff.2 (mt List.isEmpty_iff.2 hsome)
      have hgran : 0 < 4096 - off % 4096 := by have := Nat.mod_lt off (show 0 < 4096 by decide); omega
      dsimp only
      rw [List.foldl_cons, ih (by rw [List.length_drop]; omega), ← Nat.add_assoc]
      have hn : (bs.take (min bs.length (4096 - off % 4096))).length = min bs.length (4096 - off % 4096) := by
        rw [List.length_take]
        omega
      conv_rhs => rw [← List.take_append_drop (min bs.length (4096 - off % 4096)) bs, memWrite_append, hn]

/-! The stores of logical tile A, which lie on the tile whole (R165). -/

section
variable (e : Env) (p c off : Nat) (bs : List Byte) (d : Dev)

theorem storeWrite_halfA_ts : (storeWrite e p 0 c 0 off bs d).ts = memWrite d.ts (p * 2 ^ 21 + off) bs := by
  rw [← memWrite_cutGranules (p * 2 ^ 21) le_rfl d.ts]
  exact (List.foldl_hom Dev.ts (fun _ _ => rfl)).symm

theorem storeWrite_halfA_gs : (storeWrite e p 0 c 1 off bs d).gs = memWrite d.gs (p * 2 ^ 22 + off) bs := by
  rw [← memWrite_cutGranules (p * 2 ^ 22) le_rfl d.gs]
  exact (List.foldl_hom Dev.gs (fun _ _ => rfl)).symm

end

/-! Commit and rejection. -/

/-- The counter that an arriving write names on its logical tile. -/
def landKey (p h : Nat) (a : Arrival) : RegKey := ⟨.TILE_LAND_COUNT, p, landNo h a.land, 0⟩

/-- The device as an arriving write has been written and counted. -/
def landed (e : Env) (p h c : Nat) (a : Arrival) (d : Dev) : Dev :=
  let x := storeWrite e p h c a.space a.off a.data d
  rset x (landKey p h a) ((rget x (landKey p h a) + a.data.length) % 2 ^ 24)

section
variable {e : Env} {d : Dev} {a : Arrival} {p h : Nat} (hplace : placeOf d a.tile = some (p, h))
include hplace

/-- Beside its bytes and its count, a commit moves no count and no byte. -/
theorem commitWrite_of_owned {c : Nat} (howner : landOwner d p h a.land = some c) (hout : a.out = false)
    (hshare : inShare d p h c a.space a.off (a.off + a.data.length - 1) = true)
    (hcap : storeBeyond d p h c a.space a.off a.data.length = none) :
    SameTallies (landed e p h c a d) (commitWrite e a d) := by
  have hhaz (n : Nat) : SameTallies (landed e p h c a d) (if hazOn (landed e p h c a d) c then
      hazKind3 e p h c a (tagLines p h c a n (landed e p h c a d)) else landed e p h c a d) := by
    split
    · exact (sameTallies_tagLines ..).trans (sameTallies_hazKind3 ..)
    · exact .refl _
  unfold commitWrite
  simp only [hplace, howner, hout, hshare, hcap, Bool.not_false, Bool.and_self, if_true]
  exact ((hhaz _).trans (sameTallies_waitsMoved ..)).trans (sameTallies_answerWrite ..)

/-- A rejected write sets the flag, and moves no count and no byte. -/
theorem commitWrite_of_rejected (hbad : ∀ c, landOwner d p h a.land = some c →
      a.out = true ∨ inShare d p h c a.space a.off (a.off + a.data.length - 1) = false) :
    SameTallies (rbit d ⟨.TILE_LAND_REJECT, p, 0, 0⟩) (commitWrite e a d) := by
  have hreject (o : Option Nat) : SameTallies (rbit d ⟨.TILE_LAND_REJECT, p, 0, 0⟩)
      (answerWrite e a true (rejectWrite e p o a (rbit d ⟨.TILE_LAND_REJECT, p, 0, 0⟩))) :=
    (sameTallies_rejectWrite ..).trans (sameTallies_answerWrite ..)
  unfold commitWrite
  cases howner : landOwner d p h a.land with
  | none =>
    simp only [hplace, howner]
    exact hreject none
  | some c =>
    have hout : (!a.out && inShare d p h c a.space a.off (a.off + a.data.length - 1)) = false := by
      rcases hbad c howner with hout | hshare
      · rw [hout]; rfl
      · rw [hshare, Bool.and_false]
    simp only [hplace, howner, hout, Bool.false_eq_true, if_false]
    exact hreject (some c)

end

theorem storeBeyond_withArrivals (d : Dev) (l : List Arrival) (p h c space off n : Nat) :
    storeBeyond { d with arrivals := l } p h c space off n = storeBeyond d p h c space off n := by
  have hcap : hbmCap { d with arrivals := l } = hbmCap d := rfl
  rw [storeBeyond, hcap]
  rfl

/-- The k-th arriving write is taken, when none of its source is before it. -/
theorem arrivingWriteCommit_gives {s : State} {k : Nat} {a : Arrival} (hr : Runs s) (ha : s.dev.arrivals[k]? = some a)
    (hfirst : (s.dev.arrivals.take k).any (fun b => b.src = a.src) = false) :
    Gives (.arrivingWriteCommit k) s (commitWrite s.env a { s.dev with arrivals := s.dev.arrivals.eraseIdx k }) := by
  refine gives_congr (gives_of_act (f := fun e d => arrivalCommits e k d) rfl rfl hr) ?_
  simp only [arrivalCommits, ha, hfirst, Bool.false_eq_true, if_false]

section
variable {e : Env} {p h c : Nat} {a : Arrival} {d : Dev}

theorem rget_landed_counter :
    rget (landed e p h c a d) (landKey p h a) = (rget d (landKey p h a) + a.data.length) % 2 ^ 24 := by
  have hbits : (landKey p h a).reg.bits = 24 := rfl
  rw [landed, rget_rset_same, hbits, Nat.mod_mod, rget_storeWrite _ _ _ _ _ _ _ _ rfl]

theorem rget_landed_ne {j : RegKey} (hj : tallyReg j.reg = true) (hne : j ≠ landKey p h a) :
    rget (landed e p h c a d) j = rget d j := by
  rw [landed, rget_rset_ne _ _ hne, rget_storeWrite _ _ _ _ _ _ _ _ hj]

end

/-- Settles O32: the write's bytes and count, or the flag alone, and what follows moves no count and no byte. -/
theorem arrivingWritesCommitOrAreRejected : Obligations.ArrivingWritesCommitOrAreRejected := by
  intro s k p h a
  dsimp only
  intro hr ha hfirst hplace
  have hgives := arrivingWriteCommit_gives hr ha hfirst
  refine ⟨fun c howner hspace hout hshare hcap => ⟨_, hgives, ?_⟩, fun hbad => ⟨_, hgives, ?_⟩⟩
  · generalize hd : { s.dev with arrivals := s.dev.arrivals.eraseIdx k } = d
    have hsame : SameTallies s.dev d := hd ▸ .of_fields rfl rfl rfl
    have hcommit : SameTallies (landed s.env p h c a d) (commitWrite s.env a d) := by
      subst hd
      exact commitWrite_of_owned (d := { s.dev with arrivals := s.dev.arrivals.eraseIdx k }) hplace howner hout hshare
        ((storeBeyond_withArrivals ..).trans hcap)
    refine ⟨?_, fun q m hne => ?_, fun hA hts x => ?_, fun hA hgs x => ?_⟩
    · rw [rget_inCycle _ _ (by simp), hcommit.reg _ rfl, ← hsame.reg _ rfl]
      exact rget_landed_counter
    · rw [rget_inCycle _ _ (by simp), hcommit.reg _ rfl, ← hsame.reg _ rfl]
      exact rget_landed_ne rfl hne
    · subst hA
      rw [inCycle_ts, hcommit.ts, landed, rset_ts, hts, storeWrite_halfA_ts, memGet_memWrite, hsame.ts]
    · subst hA
      rw [inCycle_gs, hcommit.gs, landed, rset_gs, hgs, storeWrite_halfA_gs, memGet_memWrite, hsame.gs]
  · have hreject : SameTallies (rbit { s.dev with arrivals := s.dev.arrivals.eraseIdx k } ⟨.TILE_LAND_REJECT, p, 0, 0⟩)
        (commitWrite s.env a { s.dev with arrivals := s.dev.arrivals.eraseIdx k }) := commitWrite_of_rejected hplace hbad
    refine ⟨?_, fun q m => ?_, ?_, ?_⟩
    · rw [rget_inCycle _ _ (by simp), hreject.reg _ rfl, rbit, rget_rset_same]
      rfl
    · rw [rget_inCycle _ _ (by simp), hreject.reg _ rfl, rbit, rget_rset_ne _ _ (by simp)]
      rfl
    · rw [inCycle_ts, hreject.ts]
      rfl
    · rw [inCycle_gs, hreject.gs]
      rfl

end Sys2Proof.Machine
end

section
/-! SUPPORT. TILE_CTX_EN (R107): on which tiles each context is enabled after contexts are disabled and enabled. -/

namespace Sys2Proof.Machine

/-! What is enabled shows in the streams alone. -/

theorem enabledOn_congr {d d' : Dev} (h : d'.strms = d.strms) (q k : Nat) : enabledOn d' q k = enabledOn d q k := by
  simp only [enabledOn, getStrm, h]

theorem strms_foldl {α : Type} {f : Dev → α → Dev} (hf : ∀ d a, (f d a).strms = d.strms) (l : List α) (d : Dev) :
    (l.foldl f d).strms = d.strms := by
  induction l generalizing d with
  | nil => rfl
  | cons a l ih => exact (ih _).trans (hf d a)

theorem getStrm_setStrm {p h c q g k : Nat} (hh : h < 2) (hc : c < 8) (hg : g < 2) (hk : k < 8) (d : Dev) (x : Strm) :
    getStrm (setStrm d p h c x) q g k = if q = p ∧ g = h ∧ k = c then x else getStrm d q g k := by
  split
  · rename_i hsame
    obtain ⟨rfl, rfl, rfl⟩ := hsame
    exact getStrm_setStrm_same ..
  · rename_i hne
    exact getStrm_setStrm_ne d x (fun hkey => hne (strmKey_inj hg hk hh hc hkey))

/-- From d to d' context c became enabled on tile p, or not enabled, as b says; nothing else changed so. -/
def Switches (p c : Nat) (b : Bool) (d d' : Dev) : Prop :=
  ∀ q k, k < 8 → enabledOn d' q k = if q = p ∧ k = c then b else enabledOn d q k

theorem Switches.of_strms {p c : Nat} {b : Bool} {d d1 d2 d' : Dev} (h : Switches p c b d1 d2) (hbefore : d1.strms = d.strms)
    (hafter : d'.strms = d2.strms) : Switches p c b d d' := fun q k hk => by
  rw [enabledOn_congr hafter, h q k hk, enabledOn_congr hbefore]

theorem Switches.trans {p c : Nat} {b : Bool} {d d' d'' : Dev} (h : Switches p c b d d') (k : Switches p c b d' d'') :
    Switches p c b d d'' := fun q j hj => by
  rw [k q j hj, h q j hj]
  split <;> rfl

/-- Contexts switched one after another. -/
theorem enabledOn_foldl {p : Nat} {b : Bool} {f : Dev → Nat → Dev} (hf : ∀ d c, c < 8 → Switches p c b d (f d c)) {l : List Nat}
    (hl : ∀ c ∈ l, c < 8) (d : Dev) (q : Nat) {k : Nat} (hk : k < 8) :
    enabledOn (l.foldl f d) q k = if q = p ∧ k ∈ l then b else enabledOn d q k := by
  induction l generalizing d with
  | nil => simp
  | cons c l ih =>
    rw [List.foldl_cons, ih (fun x hx => hl x (List.mem_cons_of_mem c hx)), hf d c (hl c List.mem_cons_self) q k hk]
    by_cases hq : q = p <;> by_cases hc : k = c <;> simp [hq, hc]

/-! A context disabled. -/

theorem unloadCtx_strms (c : Nat) (d : Dev) : (unloadCtx c d).strms = d.strms := by
  unfold unloadCtx
  split <;> rfl

theorem switches_disableCtx (p : Nat) (d : Dev) {c : Nat} (hc : c < 8) : Switches p c false d (disableCtx p d c) := by
  intro q k hk
  rw [disableCtx, enabledOn_congr (unloadCtx_strms ..), enabledOn, enabledOn]
  simp only [getStrm_setStrm, hc, hk, Nat.zero_lt_two, Nat.one_lt_two]
  by_cases hq : q = p ∧ k = c
  · simp [hq]
  · have hne (half : Prop) : ¬ (q = p ∧ half ∧ k = c) := fun hs => hq ⟨hs.1, hs.2.2⟩
    simp only [hne, hq, if_false]

/-! A context enabled. -/

theorem switches_setStrm_on (p : Nat) (d : Dev) {h c : Nat} (hh : h < 2) (hc : c < 8) :
    Switches p c true d (setStrm d p h c { on := true }) := by
  intro q k hk
  rw [enabledOn, enabledOn]
  simp only [getStrm_setStrm, hh, hc, hk, Nat.zero_lt_two, Nat.one_lt_two]
  by_cases hq : q = p ∧ k = c
  · have hhalf : h = 0 ∨ h = 1 := by omega
    rcases hhalf with rfl | rfl <;> simp [hq]
  · have hne (half : Prop) : ¬ (q = p ∧ half ∧ k = c) := fun hs => hq ⟨hs.1, hs.2.2⟩
    simp only [hne, hq, if_false]

theorem zeroCounters_strms (c : Nat) (d : Dev) (t : Nat × Nat) : (zeroCounters c d t).strms = d.strms := by
  refine (strms_foldl ?_ _ _).trans (strms_foldl ?_ _ _) <;> exact fun _ _ => rfl

theorem switches_enableHalf (p : Nat) (d : Dev) {h c : Nat} (hh : h < 2) (hc : c < 8) :
    Switches p c true d (enableHalf c p d h) := by
  refine (switches_setStrm_on p d hh hc).of_strms rfl ((strms_foldl ?_ _ _).trans (zeroCounters_strms ..))
  exact fun _ _ => rfl

theorem halvesFor_cases (d : Dev) (p c : Nat) : halvesFor d p c = [0] ∨ halvesFor d p c = [0, 1] ∨ halvesFor d p c = [1] := by
  unfold halvesFor
  dsimp only
  generalize inRectangle d c (rget d ⟨.TILE_LOG_A, p, 0, 0⟩) = a
  generalize (isFolded d p && inRectangle d c (rget d ⟨.TILE_LOG_B, p, 0, 0⟩)) = b
  cases a <;> cases b <;> simp

theorem switches_enableHalves (p : Nat) (d0 d : Dev) {c : Nat} (hc : c < 8) :
    Switches p c true d ((halvesFor d0 p c).foldl (enableHalf c p) d) := by
  have hA (d : Dev) := switches_enableHalf p d Nat.zero_lt_two hc
  have hB (d : Dev) := switches_enableHalf p d Nat.one_lt_two hc
  rcases halvesFor_cases d0 p c with h | h | h <;> rw [h]
  · exact hA d
  · exact (hA d).trans (hB _)
  · exact hB d

theorem loadStore_strms (p : Nat) (d : Dev) (x : StoreName × Nat × List Byte) : (loadStore p d x).strms = d.strms := by
  unfold loadStore
  split <;> rfl

theorem freeChans_strms (c : Nat) (d : Dev) (p : Nat) : (freeChans c d p).strms = d.strms := by
  refine strms_foldl ?_ _ _
  exact fun _ _ => rfl

theorem switches_enableCtx (p : Nat) (imgs : List LoadImage) (d : Dev) {c : Nat} (hc : c < 8) :
    Switches p c true d (enableCtx p imgs d c) := by
  unfold enableCtx
  dsimp only
  generalize hx : ((Option.map (fun i => i.stores) (imgs.find? (fun i => i.ctx = c))).getD []).foldl (loadStore p)
    (if ctxLoaded d c then d else freshCtx c ((Option.map (fun i => loadCtx c i d) (imgs.find? (fun i => i.ctx = c))).getD d)) = x
  have hloaded : x.strms = d.strms := by
    rw [← hx, strms_foldl (loadStore_strms p)]
    split
    · rfl
    · cases imgs.find? (fun i => i.ctx = c) <;> rfl
  refine (switches_enableHalves p x x hc).of_strms hloaded ?_
  generalize (halvesFor x p c).foldl (enableHalf c p) x = y
  split
  · rw [rset_strms, freeChans_strms, setTile_strms]
  · rw [freeChans_strms, setTile_strms]

/-! The word. -/

/-- The contexts whose bit a word would change. -/
def changedCtxs (p v : Nat) (d : Dev) : List Nat := (List.range 8).filter (fun c => v.testBit c ≠ enabledOn d p c)

section
variable {e : Env} {p v : Nat} {imgs : List LoadImage} {d : Dev}

theorem writeCtxEn_of_open (hopen : (changedCtxs p v d).all (fun c => ctxOpen d p c) = true) :
    writeCtxEn e p v imgs d = ((changedCtxs p v d).filter (fun c => v.testBit c)).foldl (enableCtx p imgs)
      (((changedCtxs p v d).filter (fun c => !v.testBit c)).foldl (disableCtx p) d) := if_pos hopen

theorem writeCtxEn_of_not_open (hopen : (changedCtxs p v d).all (fun c => ctxOpen d p c) = false) :
    writeCtxEn e p v imgs d = regAccess e (tileOff p 0xC) true d := if_neg (Bool.eq_false_iff.1 hopen)

theorem mem_changedCtxs {c : Nat} : c ∈ changedCtxs p v d ↔ c < 8 ∧ v.testBit c ≠ enabledOn d p c := by
  simp [changedCtxs]

theorem enabledOn_writeCtxEn (hopen : (changedCtxs p v d).all (fun c => ctxOpen d p c) = true) (q : Nat) {c : Nat} (hc : c < 8) :
    enabledOn (writeCtxEn e p v imgs d) q c = if q = p then v.testBit c else enabledOn d q c := by
  have hlt (f : Nat → Bool) : ∀ x ∈ (changedCtxs p v d).filter f, x < 8 := fun x hx =>
    (mem_changedCtxs.1 (List.mem_of_mem_filter hx)).1
  rw [writeCtxEn_of_open hopen, enabledOn_foldl (fun d _ h => switches_enableCtx p imgs d h) (hlt _) _ q hc,
    enabledOn_foldl (fun d _ h => switches_disableCtx p d h) (hlt _) _ q hc]
  simp only [List.mem_filter, mem_changedCtxs]
  by_cases hq : q = p
  · subst hq
    cases hv : v.testBit c <;> cases he : enabledOn d q c <;> simp [hc]
  · simp only [hq, false_and, if_false]

end

/-- Settles O18: every context that changes may change, or the write is ignored. -/
theorem tileCtxEnSetsTheWrittenBits : Obligations.TileCtxEnSetsTheWrittenBits := by
  intro s p v imgs
  dsimp only
  intro hp hs
  have hgives : Gives (.tileCtxEn p v imgs) s (writeCtxEn s.env p v.toNat imgs s.dev) :=
    gives_of_actT (f := fun e d => writeCtxEn e p v.toNat imgs d) rfl (decide_eq_true hp) hs
  refine ⟨fun hopen => ⟨_, hgives, fun c hc => ?_, fun q c hq hc => ?_, rfl⟩,
    fun hopen => gives_congr hgives (writeCtxEn_of_not_open hopen)⟩
  · rw [enabledOn_congr (inCycle_strms ..), enabledOn_writeCtxEn hopen p hc, if_pos rfl]
  · rw [enabledOn_congr (inCycle_strms ..), enabledOn_writeCtxEn hopen q hc, if_neg hq]

end Sys2Proof.Machine
end

section
/-! SUPPORT. REDUCE and UPD48 (R115, R117, R124, R128): what their runs give when the operands can be read. -/

namespace Sys2Proof.Machine

/-! REDUCE. -/

theorem runReduce_of_read {p h c : Nat} {w : WinEnt} {d : Dev} {a : Source} (ha : readSource d p h c w.a 0 = .ok a) (e : Env) :
    runReduce e p h c w d = putResults e p h c 1 w false
      [{ opd := w.d, rows := reduceRows (immOf w.raw) (lwCtx d c) (fcmpCtx d c) w.a (srcRows w.a (unscalar a)) }] d :=
  runParts_of_ok (by rw [ha]; rfl) e

/-! UPD48. -/

/-- The element (i, j) of an UPD48 record's D (R124). -/
def updElem (a b x : Source) (i j : Nat) : Elem :=
  let v := upd48Op (srcVal a i j) (srcVal b i j) (srcVal x i j)
  ⟨v.code, v.ov, v.cause, srcCode a i j, srcCode b i j, srcCode x i j⟩

/-- D of an UPD48 record with what goes into it. -/
def updPart (o : Nat) (k : Sink) (a b x : Source) : Part2 :=
  { opd := o, rows := elemRows o (updElem a b x), scales := k.scales }

section
variable {p h c : Nat} {w : WinEnt} {d : Dev} {a b x : Source} {k : Sink}

theorem updParts_of_sources (hsrc : src3 d p h c w = .ok (a, b, x, k)) :
    updParts p h c w d = .ok (unscalar a, updPart w.d k (unscalar a) b x) := by
  rw [updParts, hsrc]
  rfl

variable {part : Part2} (hparts : updParts p h c w d = .ok (a, part)) (e : Env)
include hparts

theorem runUpd48_of_plain (hplain : isRatio w = false) : runUpd48 e p h c w d = putResults e p h c 1 w false [part] d := by
  rw [runUpd48, hparts]
  exact if_neg (Bool.eq_false_iff.1 hplain)

theorem runUpd48_of_ratio (hratio : isRatio w = true) :
    let sums := ratioSums (lwCtx d c) (getStrm d p h c).sdw (getStrm d p h c).sw (ratioTerms a part)
    let r := putResults e p h c 1 w sums.2.2 [part] d
    runUpd48 e p h c w d =
      if r.failed then r else { r with dev := setStrm r.dev p h c { getStrm r.dev p h c with sdw := sums.1, sw := sums.2.1 } } := by
  rw [runUpd48, hparts]
  exact if_pos hratio

end

/-- Settles O8: each run by what RATIO says and by whether the writing fails. -/
theorem reduceAndUpdateRecords : Obligations.ReduceAndUpdateRecords := by
  intro s p o a b x k
  dsimp only
  intro ha
  have hparts (hb : Reads s p o (issued s p o).1.b 0 b) (hx : Reads s p o (issued s p o).1.c 0 x) (hk : Sinks s p o k) :=
    updParts_of_sources (src3_of_reads ha hb hx hk)
  refine ⟨fun hn => ?_, fun hn hb hx hk hplain => ?_, fun hn hb hx hk hratio => ⟨fun hput => ?_, fun hput => ?_⟩⟩
  · exact issues_of_run_eq hn rfl (runReduce_of_read ha s.env)
  · exact issues_of_run_eq hn rfl (runUpd48_of_plain (hparts hb hx hk) s.env hplain)
  · exact issues_of_run_eq hn rfl ((runUpd48_of_ratio (hparts hb hx hk) s.env hratio).trans (if_neg (Bool.eq_false_iff.1 hput)))
  · exact issues_of_run_eq hn rfl ((runUpd48_of_ratio (hparts hb hx hk) s.env hratio).trans (if_pos hput))

end Sys2Proof.Machine
end

section
/-! SUPPORT. MM and TB_LOAD (R108 to R119, R258): what their runs give when the operands can be read. -/

namespace Sys2Proof.Machine

/-! The matrices. -/

/-- The matrices of a record whose operands are read: A, B and, with ACCUM, the old D (R108, R109). -/
def mmOperands (d : Dev) (c : Nat) (w : WinEnt) (a b : Source) (accs : List (List Nat)) : MmIn :=
  ⟨unscalar a, unscalar b, accs, spaceOf w.a = 2, bitOf (immOf w.raw) 7,
    if spaceOf w.a = 2 then rowsOf w.a else colsOf w.a, if heritageCtx d c then 16 else 32⟩

section
variable {p h c : Nat} {w : WinEnt} {d : Dev} {a b : Source} {accs : List (List Nat)}

theorem mmRead_of_reads (ha : readSource d p h c w.a 0 = .ok a) (hb : readSource d p h c w.b 0 = .ok b)
    (haccs : if accumOf w.raw then readCodes d p h c w.d = .ok accs else accs = []) :
    mmRead d p h c w = .ok (mmOperands d c w a b accs) := by
  rw [mmRead, ha, hb]
  cases haccum : accumOf w.raw with
  | true =>
    rw [if_pos haccum] at haccs
    simp only [bind, Except.bind, haccs, if_true]
    rfl
  | false =>
    rw [if_neg (Bool.eq_false_iff.1 haccum)] at haccs
    subst haccs
    rfl

theorem mmSources_of_read {m : MmIn} {k : Sink} (hm : mmRead d p h c w = .ok m) (hk : sinkOf d p h c w.d = .ok k) :
    mmSources p h c w d = .ok (m, k) := by
  rw [mmSources, hm, hk]
  rfl

/-! The product and the accumulator view. -/

section
variable {m : MmIn} {k : Sink} (hsrc : mmSources p h c w d = .ok (m, k)) (e : Env)
include hsrc

theorem runMm_of_sources : runMm e p h c w d = mmWith e p h c w m k d := by
  rw [runMm, hsrc]

theorem runMm_of_no_view (hview : viewArmed d p h c w = false ∨ (putResults e p h c 0 w false (mmParts c w m k d) d).failed = true) :
    runMm e p h c w d = putResults e p h c 0 w false (mmParts c w m k d) d := by
  rw [runMm_of_sources hsrc]
  refine if_neg ?_
  rcases hview with harm | hput
  · rw [harm]; exact Bool.false_ne_true
  · rw [hput, Bool.not_true, Bool.and_false]; exact Bool.false_ne_true

theorem runMm_of_view (harm : viewArmed d p h c w = true) (hput : (putResults e p h c 0 w false (mmParts c w m k d) d).failed = false)
    (hcap : rbase d ⟨.DBG_ACC_ADDR, c, 0, 0⟩ +
      (viewBytes m (rget d ⟨.DBG_ACC_ROW, c, 0, 0⟩) (rget d ⟨.DBG_ACC_COL, c, 0, 0⟩)).length ≤ hbmCap d) :
    let r := putResults e p h c 0 w false (mmParts c w m k d) d
    runMm e p h c w d =
      { r with dev := viewCapture e c w (viewBytes m (rget d ⟨.DBG_ACC_ROW, c, 0, 0⟩) (rget d ⟨.DBG_ACC_COL, c, 0, 0⟩)) r.dev } := by
  have hcaptures : (viewArmed d p h c w && !(putResults e p h c 0 w false (mmParts c w m k d) d).failed) = true := by
    rw [harm, hput]; rfl
  rw [runMm_of_sources hsrc]
  exact (if_pos hcaptures).trans (if_neg (Nat.not_lt.2 hcap))

end

/-! The copy. -/

theorem runTbLoad_of_read {codes sc : List (List Nat)} (hread : readTensor d p h c w.a = .ok (codes, sc)) (e : Env) :
    runTbLoad e p h c w d = putResults e p h c 0 w false
      [{ opd := w.d, rows := codes.map (fun r => r.map (fun x => { code := x })), scales := sc, putScales := true }] d :=
  runParts_of_ok (by rw [hread]; rfl) e

end

/-- Settles O9: MM by whether the accumulator view captures, TB_LOAD by its copy. -/
theorem matrixRecords : Obligations.MatrixRecords := by
  intro s p o
  dsimp only
  refine ⟨fun a b accs k hn ha hb haccs hk => ?_, fun codes sc hn hread => issues_of_run_eq hn rfl (runTbLoad_of_read hread s.env)⟩
  have hsrc := mmSources_of_read (mmRead_of_reads ha hb haccs) hk
  exact ⟨fun hview => issues_of_run_eq hn rfl (runMm_of_no_view hsrc s.env hview),
    fun harm hput hcap => issues_of_run_eq hn rfl (runMm_of_view hsrc s.env harm hput hcap)⟩

end Sys2Proof.Machine
end

section
/-! SUPPORT. CMP, SELECT, DRAW and the integer operations (R137, R446, R452): what their runs give when the sources can be read. -/

namespace Sys2Proof.Machine

/-- A destination into which plain codes go: no element overflows or raises a NaN event. -/
def codePart (o : Nat) (f : Nat → Nat → Nat) : Part2 := { opd := o, rows := elemRows o (fun i j => { code := f i j }) }

section
variable {p h c : Nat} {w : WinEnt} {d : Dev} {a b x : Source}

theorem runCmp_of_read (ha : readSource d p h c w.a (cmpParamFmt w.b) = .ok a) (hb : readSource d p h c w.b (cmpParamFmt w.a) = .ok b)
    (e : Env) : runCmp e p h c w d = putResults e p h c 1 w false
      [codePart w.d (fun i j => b2n (cmpOp (immOf w.raw) (srcVal a i j) (srcVal b i j)))] d :=
  runParts_of_ok (by rw [ha, hb]; rfl) e

theorem runSelect_of_read (ha : readSource d p h c w.a (fmtOf w.d) = .ok a) (hb : readSource d p h c w.b (fmtOf w.d) = .ok b)
    (hx : readSource d p h c w.c 9 = .ok x) (e : Env) : runSelect e p h c w d = putResults e p h c 1 w false
      [codePart w.d (fun i j => if srcCode x i j ≠ 0 then srcCode a i j else srcCode b i j)] d :=
  runParts_of_ok (by rw [ha, hb, hx]; rfl) e

theorem runInt_of_read {op : Nat → Int → Int → Nat} {pf : Nat → Nat} (ha : readSource d p h c w.a (pf w.b) = .ok a)
    (hb : readSource d p h c w.b (pf w.a) = .ok b) (e : Env) : runInt op pf e p h c w d = putResults e p h c 1 w false
      [codePart w.d (fun i j => op (fmtBits (fmtOf w.d)) (srcInt a i j) (srcInt b i j))] d :=
  runParts_of_ok (by rw [ha, hb]; rfl) e

theorem runShift_of_read (ha : readSource d p h c w.a 9 = .ok a) (hb : readSource d p h c w.b 9 = .ok b) (e : Env) :
    runShift e p h c w d = putResults e p h c 1 w false
      [codePart w.d (fun i j => ishiftOp (fmtBits (fmtOf w.d)) (immOf w.raw) (srcCode a i j) (srcCode b i j))] d :=
  runParts_of_ok (by rw [ha, hb]; rfl) e

end

theorem runDraw_eq (e : Env) (p h c : Nat) (w : WinEnt) (d : Dev) : runDraw e p h c w d = putResults e p h c 1 w false
    [codePart w.d (fun i j => drawElement (rget d ⟨.TILE_SRL_KEY, p, c, h⟩) (saltOf d p h c (tensorOf w.d))
      (lindex w.d i j % 2 ^ 64) (immOf w.raw) (fmtOf w.d))] d := rfl

/-- Settles O7: each opcode's run, its sources read; DRAW has none to read. -/
theorem integerAndSelectRecords : Obligations.IntegerAndSelectRecords := by
  intro s p o a b x
  dsimp only
  refine ⟨fun hn ha hb => ?_, fun hn ha hb hx => ?_, fun hn ha hb => ?_, fun hn ha hb => ?_, fun hn ha hb => ?_, fun hn => ?_⟩
  · exact issues_of_run_eq hn rfl (runCmp_of_read ha hb s.env)
  · exact issues_of_run_eq hn rfl (runSelect_of_read ha hb hx s.env)
  · exact issues_of_run_eq hn rfl (runInt_of_read ha hb s.env)
  · exact issues_of_run_eq hn rfl (runInt_of_read (pf := fun _ => 9) ha hb s.env)
  · exact issues_of_run_eq hn rfl (runShift_of_read ha hb s.env)
  · exact issues_of_run_eq hn rfl (runDraw_eq ..)

end Sys2Proof.Machine
end

section
/-! SUPPORT. HBM behind its write-combining buffers (R185, R187, R188): what the line of an entry reads as, and that eviction,
merging and writing back change only the bytes written. -/

namespace Sys2Proof.Machine

/-! Entries, and bytes as a read returns them. -/

theorem line_of_wcbOf {d : Dev} {l : Nat} {w : WcbEnt} (h : wcbOf d l = some w) : w.line = l := by
  simpa using List.find?_some h

theorem mem_of_wcbOf {d : Dev} {l : Nat} {w : WcbEnt} (h : wcbOf d l = some w) : w ∈ d.wcb := List.mem_of_find?_eq_some h

theorem wcbOf_hbmPutLine (line l : Nat) (bs : List Byte) (d : Dev) :
    wcbOf (hbmPutLine line bs d) l = if l = line then none else wcbOf d l := by
  unfold wcbOf hbmPutLine
  dsimp only
  rw [List.find?_filter]
  split_ifs with h
  · simp +contextual [h]
  · congr 1
    funext w
    by_cases hw : w.line = l <;> simp [hw, h]

section
variable {d d' : Dev} {x : Nat}

theorem hbmByte_of_none (h : wcbOf d (x / 64) = none) : hbmByte d x = memGet d.hbm x := by
  simp only [hbmByte, h]

theorem hbmByte_of_some {w : WcbEnt} (h : wcbOf d (x / 64) = some w) :
    hbmByte d x = if w.mask.testBit (x % 64) then w.data.getD (x % 64) 0 else memGet d.hbm x := by
  simp only [hbmByte, h]

theorem hbmByte_congr (hwcb : wcbOf d' (x / 64) = wcbOf d (x / 64)) (hhbm : memGet d'.hbm x = memGet d.hbm x) :
    hbmByte d' x = hbmByte d x := by
  unfold hbmByte
  rw [hwcb, hhbm]

end

/-- After a whole line is written it reads as written, and every other as before (R187 item 1). -/
theorem hbmByte_hbmPutLine {bs : List Byte} (hlen : bs.length = 64) (line : Nat) (d : Dev) (x : Nat) :
    hbmByte (hbmPutLine line bs d) x = if x / 64 = line then bs.getD (x % 64) 0 else hbmByte d x := by
  have hmem : memGet (hbmPutLine line bs d).hbm x = if x / 64 = line then bs.getD (x % 64) 0 else memGet d.hbm x := by
    rw [show (hbmPutLine line bs d).hbm = memWrite d.hbm (line * 64) bs from rfl, memGet_memWrite, hlen]
    by_cases h : x / 64 = line
    · rw [if_pos (by omega), if_pos h, show x - line * 64 = x % 64 by omega]
    · rw [if_neg (by omega), if_neg h]
  by_cases h : x / 64 = line
  · rw [hbmByte_of_none (by rw [wcbOf_hbmPutLine, if_pos h]), hmem, if_pos h, if_pos h]
  · rw [if_neg h]
    exact hbmByte_congr (by rw [wcbOf_hbmPutLine, if_neg h]) (by rw [hmem, if_neg h])

/-! Bytes merged into an entry. -/

theorem testBit_foldl_or (o n m i : Nat) :
    ((List.range n).foldl (fun m k => m ||| 2 ^ (o + k)) m).testBit i = (m.testBit i || decide (o ≤ i ∧ i < o + n)) := by
  induction n with
  | zero => simp
  | succ n ih =>
    rw [List.range_succ, List.foldl_append, List.foldl_cons, List.foldl_nil, Nat.testBit_or, ih, Nat.testBit_two_pow, Bool.or_assoc]
    congr 1
    rw [← Bool.decide_or]
    exact decide_eq_decide.2 (by omega)

theorem getD_map_range {n i : Nat} (h : i < n) (f : Nat → Byte) : ((List.range n).map f).getD i 0 = f i := by
  simp [h]

/-- A byte of the line through an entry, over the stack's byte `m`: the merged one where one was merged, else as before. -/
theorem merged_byte (ctx : Option Nat) (o : Nat) (bs : List Byte) (w : WcbEnt) (m : Byte) {i : Nat} (hi : i < 64) :
    (if (wcbMerge ctx o bs w).mask.testBit i then (wcbMerge ctx o bs w).data.getD i 0 else m) =
      if o ≤ i ∧ i < o + bs.length then bs.getD (i - o) 0 else if w.mask.testBit i then w.data.getD i 0 else m := by
  unfold wcbMerge
  dsimp only
  rw [testBit_foldl_or, getD_map_range hi]
  by_cases h : o ≤ i ∧ i < o + bs.length <;> simp [h]

/-- The entry of a line, or the empty one that a write to the line takes (R187 item 2). -/
def entryOr (d : Dev) (line : Nat) : WcbEnt := (wcbOf d line).getD { line := line, data := List.replicate 64 0 }

theorem entryOr_line (d : Dev) (line : Nat) : (entryOr d line).line = line := by
  unfold entryOr
  cases h : wcbOf d line with
  | none => rfl
  | some w => exact line_of_wcbOf h

theorem wcbMerge_line (ctx : Option Nat) (o : Nat) (bs : List Byte) (w : WcbEnt) : (wcbMerge ctx o bs w).line = w.line := rfl

theorem hbmByte_entryOr {d : Dev} {line x : Nat} (h : x / 64 = line) :
    hbmByte d x = if (entryOr d line).mask.testBit (x % 64) then (entryOr d line).data.getD (x % 64) 0 else memGet d.hbm x := by
  subst h
  unfold entryOr
  cases hw : wcbOf d (x / 64) with
  | none => simp [hbmByte_of_none hw]
  | some w => exact hbmByte_of_some hw

/-! What a step may do to HBM. -/

/-- No line is uncorrectable and no entry has a bad word. -/
structure SoundHbm (d : Dev) : Prop where
  lineUE : d.lineUE = []
  entries : ∀ w ∈ d.wcb, w.bad = false

/-- From d to d' HBM stays sound, and reads as before but for the bytes bs from a on. -/
structure WritesHbm (a : Nat) (bs : List Byte) (d d' : Dev) : Prop where
  sound : SoundHbm d'
  byte : ∀ x, hbmByte d' x = if a ≤ x ∧ x < a + bs.length then bs.getD (x - a) 0 else hbmByte d x

/-- The devices agree on the memory of HBM, its entries and its uncorrectable lines. -/
structure SameHbm (d d' : Dev) : Prop where
  hbm : d'.hbm = d.hbm
  wcb : d'.wcb = d.wcb
  lineUE : d'.lineUE = d.lineUE

theorem SameHbm.refl (d : Dev) : SameHbm d d := ⟨rfl, rfl, rfl⟩

theorem SameHbm.trans {a b c : Dev} (h : SameHbm a b) (k : SameHbm b c) : SameHbm a c :=
  ⟨k.hbm.trans h.hbm, k.wcb.trans h.wcb, k.lineUE.trans h.lineUE⟩

theorem SameButLog.sameHbm {d d' : Dev} (h : SameButLog d d') : SameHbm d d' := ⟨h.hbm, h.wcb, h.lineUE⟩

theorem sameHbm_inCycle (d d' : Dev) : SameHbm d' (inCycle d d') := ⟨inCycle_hbm .., inCycle_wcb .., inCycle_lineUE ..⟩

section
variable {d d' : Dev} (h : SameHbm d d')
include h

theorem SameHbm.wcbOf (l : Nat) : wcbOf d' l = wcbOf d l := by
  rw [Machine.wcbOf, h.wcb]; rfl

theorem SameHbm.byte (x : Nat) : hbmByte d' x = hbmByte d x := hbmByte_congr (h.wcbOf _) (by rw [h.hbm])

theorem SameHbm.sound (k : SoundHbm d) : SoundHbm d' := ⟨h.lineUE.trans k.lineUE, h.wcb ▸ k.entries⟩

end

theorem WritesHbm.nil {d d' : Dev} (hd : SoundHbm d') (hbyte : ∀ x, hbmByte d' x = hbmByte d x) (a : Nat) : WritesHbm a [] d d' :=
  ⟨hd, fun x => (hbyte x).trans (if_neg (by rw [List.length_nil]; omega)).symm⟩

theorem WritesHbm.congr_left {a : Nat} {bs : List Byte} {d d₁ d' : Dev} (h : WritesHbm a bs d₁ d')
    (hbyte : ∀ x, hbmByte d₁ x = hbmByte d x) : WritesHbm a bs d d' :=
  ⟨h.sound, fun x => by rw [h.byte, hbyte]⟩

theorem WritesHbm.congr_right {a : Nat} {bs : List Byte} {d d₁ d' : Dev} (h : WritesHbm a bs d d₁) (hsame : SameHbm d₁ d') :
    WritesHbm a bs d d' :=
  ⟨hsame.sound h.sound, fun x => (hsame.byte x).trans (h.byte x)⟩

/-- Bytes written one after another are written as one run of bytes. -/
theorem WritesHbm.append {a : Nat} {bs cs : List Byte} {d d₁ d' : Dev} (h : WritesHbm a bs d d₁)
    (k : WritesHbm (a + bs.length) cs d₁ d') : WritesHbm a (bs ++ cs) d d' := by
  refine ⟨k.sound, fun x => ?_⟩
  rw [k.byte, h.byte, List.length_append]
  by_cases hcs : a + bs.length ≤ x ∧ x < a + bs.length + cs.length
  · rw [if_pos hcs, if_pos (by omega), List.getD_append_right _ _ _ _ (by omega), Nat.sub_sub]
  · rw [if_neg hcs]
    by_cases hbs : a ≤ x ∧ x < a + bs.length
    · rw [if_pos hbs, if_pos (by omega), List.getD_append _ _ _ _ (by omega)]
    · rw [if_neg hbs, if_neg (by omega)]

/-- What holds of a byte by its line and its place in the line, holds by its address. -/
theorem byte_in_line {a x n : Nat} (hfit : a % 64 + n ≤ 64) :
    (a ≤ x ∧ x < a + n) ↔ x / 64 = a / 64 ∧ a % 64 ≤ x % 64 ∧ x % 64 < a % 64 + n := by omega

theorem sub_in_line {a x : Nat} (h : x / 64 = a / 64) (hle : a % 64 ≤ x % 64) : x - a = x % 64 - a % 64 := by omega

/-- Bytes of one line are written where the line reads as written there, and everything else as before. -/
theorem WritesHbm.of_line {a : Nat} {bs : List Byte} {d d' : Dev} (hfit : a % 64 + bs.length ≤ 64) (hd : SoundHbm d')
    (hin : ∀ x, x / 64 = a / 64 → hbmByte d' x =
      if a % 64 ≤ x % 64 ∧ x % 64 < a % 64 + bs.length then bs.getD (x % 64 - a % 64) 0 else hbmByte d x)
    (hout : ∀ x, x / 64 ≠ a / 64 → hbmByte d' x = hbmByte d x) : WritesHbm a bs d d' := by
  refine ⟨hd, fun x => ?_⟩
  by_cases hline : x / 64 = a / 64
  · rw [hin x hline]
    by_cases hrun : a % 64 ≤ x % 64 ∧ x % 64 < a % 64 + bs.length
    · rw [if_pos hrun, if_pos ((byte_in_line hfit).2 ⟨hline, hrun⟩), sub_in_line hline hrun.1]
    · rw [if_neg hrun, if_neg fun h => hrun ((byte_in_line hfit).1 h).2]
  · rw [hout x hline, if_neg fun h => hline ((byte_in_line hfit).1 h).1]

/-! Checks and evictions. -/

theorem sameHbm_patrolCount (e : Env) (s pc : Nat) (d : Dev) : SameHbm d (patrolCount e s pc d) := by
  have hcount (t : List (Nat × Nat)) : SameHbm d (satAdd e ⟨.HBM_PC_CE, s, pc, 0⟩ 1 { d with patrolCe := t }) :=
    SameHbm.trans (b := { d with patrolCe := t }) ⟨rfl, rfl, rfl⟩ (sameButLog_satAdd ..).sameHbm
  have hover (x : Dev) (l : List Nat) (o : List Out) : SameHbm x { x with patrolOver := l, outbox := o } := ⟨rfl, rfl, rfl⟩
  unfold patrolCount
  dsimp only
  split
  · exact (((hcount _).trans (hover ..)).trans (sameButLog_rset ..).sameHbm).trans (sameButLog_logError ..).sameHbm
  · exact hcount _

theorem sameHbm_lineChecked (e : Env) (d : Dev) (line : Nat) : SameHbm d (lineChecked e d line) := by
  unfold lineChecked
  split
  · split
    · exact .refl d
    · exact (sameButLog_logError ..).sameHbm.trans (sameHbm_patrolCount ..)
  · exact .refl d

theorem soundHbm_hbmPutLine {d : Dev} (h : SoundHbm d) (line : Nat) (bs : List Byte) : SoundHbm (hbmPutLine line bs d) where
  lineUE := by simp [hbmPutLine, h.lineUE]
  entries := fun w hw => h.entries w (List.mem_of_mem_filter hw)

theorem entryMet_of_sound {d : Dev} (h : SoundHbm d) (e : Env) (line : Nat) : entryMet e d line = d := by
  unfold entryMet
  split
  · next w hw => rw [h.entries w (mem_of_wcbOf hw), if_neg Bool.false_ne_true]
  · rfl

theorem evictEntry_of_good {d : Dev} {w : WcbEnt} (hw : w.bad = false) (hl : d.lineUE.contains w.line = false) (e : Env) :
    evictEntry e w d = satAdd e ⟨.HBM_WCB_RMW, hbmStack (w.line * 64), 0, 0⟩ 1 (hbmPutLine w.line
      ((List.range 64).map (fun i => hbmByte (lineChecked e d w.line) (w.line * 64 + i))) (lineChecked e d w.line)) := by
  unfold evictEntry
  rw [hw, hl]
  rfl

/-- An eviction reads the line through its entry and writes it back so: nothing reads otherwise (R187 item 4). -/
theorem WritesHbm.evictEntry {d : Dev} (h : SoundHbm d) {w : WcbEnt} (hw : w.bad = false) (e : Env) (a : Nat) :
    WritesHbm a [] d (evictEntry e w d) := by
  have hchecked := sameHbm_lineChecked e d w.line
  rw [evictEntry_of_good hw (by rw [h.lineUE]; rfl)]
  refine WritesHbm.congr_right (.nil (soundHbm_hbmPutLine (hchecked.sound h) _ _) (fun x => ?_) a) (sameButLog_satAdd ..).sameHbm
  rw [hbmByte_hbmPutLine (by simp)]
  split_ifs with hline
  · rw [getD_map_range (Nat.mod_lt _ (by omega)), hchecked.byte, ← hline, Nat.div_add_mod']
  · exact hchecked.byte x

/-- Room for an entry is made by an eviction, or not at all. -/
theorem wcbRoom_cases {d : Dev} (h : SoundHbm d) (e : Env) (s : Nat) :
    wcbRoom e s d = d ∨ ∃ w, w.bad = false ∧ wcbRoom e s d = evictEntry e w d := by
  unfold wcbRoom
  split
  · next w ws hws =>
    split_ifs
    · exact .inr ⟨w, h.entries w (List.mem_of_mem_filter (hws ▸ List.mem_cons_self : w ∈ wcbOfStack d s)), rfl⟩
    · exact .inl rfl
  · exact .inl rfl

/-- The buffer with a place for the line of a write: as it is where the line has its entry. -/
def wcbReady (e : Env) (a : Nat) (d : Dev) : Dev := if (wcbOf d (a / 64)).isSome then d else wcbRoom e (hbmStack a) d

theorem wcbReady_writes {d : Dev} (h : SoundHbm d) (e : Env) (a : Nat) : WritesHbm a [] d (wcbReady e a d) := by
  have hsame : WritesHbm a [] d d := .nil h (fun _ => rfl) a
  unfold wcbReady
  split_ifs
  · exact hsame
  · obtain hroom | ⟨w, hw, hroom⟩ := wcbRoom_cases h e (hbmStack a)
    · rw [hroom]; exact hsame
    · rw [hroom]; exact WritesHbm.evictEntry h hw e a

/-! Writes. -/

/-- A write of a part of a line, once the entry is there (R187 items 2 and 3): a full entry goes to the line, another one
stays. -/
theorem hbmAcceptLine_of_part {d : Dev} (h : SoundHbm d) {bs : List Byte} (hlen : bs.length ≠ 64) (e : Env) (ctx : Option Nat)
    (a : Nat) :
    let r := wcbReady e a d
    let w := wcbMerge ctx (a % 64) bs (entryOr r (a / 64))
    hbmAcceptLine e ctx a bs d =
      if w.mask = 2 ^ 64 - 1 then satAdd e ⟨.HBM_WCB_MERGED, hbmStack a, 0, 0⟩ 1 (hbmPutLine (a / 64) w.data r)
      else if (wcbOf r (a / 64)).isSome then { r with wcb := r.wcb.map (fun x => if x.line = a / 64 then w else x) }
      else { r with wcb := r.wcb ++ [w] } := by
  unfold hbmAcceptLine
  dsimp only
  rw [if_neg hlen, entryMet_of_sound h]
  rfl

/-- A device in which the line's entry has become w, and nothing else has changed. -/
structure EntryPut (line : Nat) (w : WcbEnt) (d d' : Dev) : Prop where
  hbm : d'.hbm = d.hbm
  lineUE : d'.lineUE = d.lineUE
  mem : ∀ x ∈ d'.wcb, x = w ∨ x ∈ d.wcb
  same : wcbOf d' line = some w
  other : ∀ l, l ≠ line → wcbOf d' l = wcbOf d l

theorem entryPut_replaced {d : Dev} {line : Nat} {w : WcbEnt} (hw : w.line = line) (hsome : (wcbOf d line).isSome) :
    EntryPut line w d { d with wcb := d.wcb.map (fun x => if x.line = line then w else x) } where
  hbm := rfl
  lineUE := rfl
  mem := by
    intro x hx
    obtain ⟨y, hy, rfl⟩ := List.mem_map.1 hx
    split_ifs
    · exact .inl rfl
    · exact .inr hy
  same := by
    obtain ⟨v, hv⟩ := Option.isSome_iff_exists.1 hsome
    have hfun : ((fun x : WcbEnt => decide (x.line = line)) ∘ fun x => if x.line = line then w else x) = fun x => decide (x.line = line) := by
      funext x
      by_cases hx : x.line = line <;> simp [hx, hw]
    simp only [wcbOf, List.find?_map, hfun]
    rw [show d.wcb.find? (fun x => decide (x.line = line)) = some v from hv, Option.map_some, if_pos (line_of_wcbOf hv)]
  other := by
    intro l hl
    have hfun : ((fun x : WcbEnt => decide (x.line = l)) ∘ fun x => if x.line = line then w else x) = fun x => decide (x.line = l) := by
      funext x
      by_cases hx : x.line = line <;> simp [hx, hw, hl.symm]
    simp only [wcbOf, List.find?_map, hfun]
    cases hv : d.wcb.find? (fun x => decide (x.line = l)) with
    | none => rfl
    | some v => rw [Option.map_some, if_neg (by rw [line_of_wcbOf hv]; exact hl)]

theorem entryPut_appended {d : Dev} {line : Nat} {w : WcbEnt} (hw : w.line = line) (hnone : wcbOf d line = none) :
    EntryPut line w d { d with wcb := d.wcb ++ [w] } where
  hbm := rfl
  lineUE := rfl
  mem := fun x hx => (List.mem_append.1 hx).symm.imp List.mem_singleton.1 id
  same := by
    unfold wcbOf at hnone ⊢
    rw [List.find?_append, hnone]
    simp [hw]
  other := by
    intro l hl
    unfold wcbOf
    rw [List.find?_append]
    simp [hw, hl.symm]

/-- Bytes merged into the line's entry are read through it (R187 item 2, R188). -/
theorem EntryPut.writes {d d' : Dev} {a : Nat} {bs : List Byte} {ctx : Option Nat} (h : SoundHbm d)
    (hfit : a % 64 + bs.length ≤ 64)
    (hput : EntryPut (a / 64) (wcbMerge ctx (a % 64) bs (entryOr d (a / 64))) d d') : WritesHbm a bs d d' := by
  refine .of_line hfit ⟨hput.lineUE.trans h.lineUE, fun w hw => ?_⟩ (fun x hx => ?_) (fun x hx => ?_)
  · obtain rfl | hw := hput.mem w hw
    · show (entryOr d (a / 64)).bad = false
      unfold entryOr
      cases hv : wcbOf d (a / 64) with
      | none => rfl
      | some v => exact h.entries v (mem_of_wcbOf hv)
    · exact h.entries w hw
  · have hsame := hput.same
    rw [← hx] at hsame
    rw [hbmByte_of_some hsame, hx, merged_byte _ _ _ _ _ (Nat.mod_lt _ (by omega)), hput.hbm, ← hbmByte_entryOr hx]
  · exact hbmByte_congr (hput.other _ hx) (by rw [hput.hbm])

/-- An entry with all its bytes is the line (R187 item 3). -/
theorem merged_full_byte {d : Dev} {a x : Nat} {bs : List Byte} {ctx : Option Nat} (hx : x / 64 = a / 64)
    (hfull : (wcbMerge ctx (a % 64) bs (entryOr d (a / 64))).mask = 2 ^ 64 - 1) :
    (wcbMerge ctx (a % 64) bs (entryOr d (a / 64))).data.getD (x % 64) 0 =
      if a % 64 ≤ x % 64 ∧ x % 64 < a % 64 + bs.length then bs.getD (x % 64 - a % 64) 0 else hbmByte d x := by
  have hi : x % 64 < 64 := Nat.mod_lt _ (by omega)
  have hbyte := merged_byte ctx (a % 64) bs (entryOr d (a / 64)) (memGet d.hbm x) hi
  rw [hfull, Nat.testBit_two_pow_sub_one, decide_eq_true hi, if_pos rfl, ← hbmByte_entryOr hx] at hbyte
  exact hbyte

/-- A write within one line is seen by reads, wherever its bytes go (R187). -/
theorem WritesHbm.hbmAcceptLine {d : Dev} (h : SoundHbm d) {a : Nat} {bs : List Byte} (hfit : a % 64 + bs.length ≤ 64) (e : Env)
    (ctx : Option Nat) : WritesHbm a bs d (hbmAcceptLine e ctx a bs d) := by
  by_cases hlen : bs.length = 64
  · rw [Machine.hbmAcceptLine, if_pos hlen]
    refine .of_line hfit (soundHbm_hbmPutLine h _ _) (fun x hx => ?_) (fun x hx => ?_)
    · have hstart : a % 64 = 0 := by omega
      rw [hbmByte_hbmPutLine hlen, if_pos hx, hstart, hlen, if_pos (by omega), Nat.sub_zero]
    · rw [hbmByte_hbmPutLine hlen, if_neg hx]
  · have hready := wcbReady_writes h e a
    have hbefore : ∀ x, hbmByte (wcbReady e a d) x = hbmByte d x := fun x => by
      rw [hready.byte, if_neg (by rw [List.length_nil]; omega)]
    refine .congr_left (d₁ := wcbReady e a d) ?_ hbefore
    rw [hbmAcceptLine_of_part h hlen]
    split_ifs with hfull hsome
    · have hdata : (wcbMerge ctx (a % 64) bs (entryOr (wcbReady e a d) (a / 64))).data.length = 64 := by simp [wcbMerge]
      refine .congr_right (.of_line hfit (soundHbm_hbmPutLine hready.sound _ _) (fun x hx => ?_) (fun x hx => ?_))
        (sameButLog_satAdd ..).sameHbm
      · rw [hbmByte_hbmPutLine hdata, if_pos hx, merged_full_byte hx hfull]
      · rw [hbmByte_hbmPutLine hdata, if_neg hx]
    · exact (entryPut_replaced ((wcbMerge_line ..).trans (entryOr_line ..)) hsome).writes hready.sound hfit
    · exact (entryPut_appended ((wcbMerge_line ..).trans (entryOr_line ..)) (Option.not_isSome_iff_eq_none.1 hsome)).writes hready.sound hfit

/-- A write of any length is seen by reads: each line's part in its turn. -/
theorem WritesHbm.hbmAccept {d : Dev} (h : SoundHbm d) (e : Env) (ctx : Option Nat) (a : Nat) (bs : List Byte) :
    WritesHbm a bs d (hbmAccept e ctx a bs d) := by
  unfold Machine.hbmAccept
  generalize hfuel : bs.length = fuel
  replace hfuel := hfuel.le
  induction fuel generalizing a bs d with
  | zero =>
    rw [List.length_eq_zero_iff.1 (Nat.le_zero.1 hfuel)]
    exact .nil h (fun _ => rfl) a
  | succ fuel ih =>
    by_cases hnil : bs = []
    · rw [hnil]
      exact .nil h (fun _ => rfl) a
    · have hpos := List.length_pos_iff.2 hnil
      generalize hn : min bs.length (64 - a % 64) = n
      have htake : (bs.take n).length = n := by rw [List.length_take]; omega
      have hfirst := WritesHbm.hbmAcceptLine h (bs := bs.take n) (a := a) (by omega) e ctx
      have hrest := ih hfirst.sound (a + n) (bs.drop n) (by rw [List.length_drop]; omega)
      have hboth := hfirst.append (by rw [htake]; exact hrest)
      rw [List.take_append_drop] at hboth
      simpa [cutLines, hnil, hn] using hboth

theorem tabokWrite_of_good {d : Dev} {a : Nat} {bs : List Byte} (hcap : a + bs.length ≤ hbmCap d) (e : Env) :
    tabokWrite e a bs false d = hbmAccept e none a bs d := by
  unfold tabokWrite
  rw [if_neg (Nat.not_lt.2 hcap)]
  rfl

/-- Settles O29: the lines of the write in turn, each merged, evicted or written whole. -/
theorem writesAreSeenThroughCombining : Obligations.WritesAreSeenThroughCombining := by
  intro s a data hr hlines hentries hcap
  have hgives : Gives (.hbmWrite (.tabok a data) .clean) s (tabokWrite s.env a data false s.dev) :=
    gives_of_act (f := fun e d => tabokWrite e a data false d) rfl rfl hr
  rw [tabokWrite_of_good hcap] at hgives
  have hwrites := (WritesHbm.hbmAccept ⟨hlines, hentries⟩ s.env none a data).congr_right (sameHbm_inCycle s.dev _)
  exact ⟨_, hgives, rfl, hwrites.byte, hwrites.sound.lineUE⟩

end Sys2Proof.Machine
end

section
/-! SUPPORT. Work requests (R180, R280, R450): what becomes of a request that is taken, by its operation. -/

namespace Sys2Proof.Machine

section
variable {e : Env} {d : Dev} {port qp w op : Nat} {start : Env → Nat → Nat → Nat → Dev → Wr × Dev}
  (htakes : wrCase e d port qp w = .takes)
include htakes

theorem workRequest_of_bad (hbad : wrBad d port qp w = true) :
    workRequest op start e port qp w d = wrTaken port qp w { op := wrOp w, cause := 10, aux := d.logNext }
      (logError e { cls := 0x0201, level := 4, kind := 3, index := port, syn := (getQp d port qp).cons + w % 2 ^ 32 * 2 ^ 32 } d) := by
  simp only [workRequest, htakes, hbad, if_true]

theorem workRequest_of_starts (hgood : wrBad d port qp w = false) (hop : wrOp w = op) {r : Wr} {d' : Dev}
    (hstart : start e port qp w d = (r, d')) : workRequest op start e port qp w d = wrTaken port qp w r d' := by
  simp only [workRequest, htakes, hgood, Bool.false_eq_true, if_false, hop, if_true, hstart]

end

section
variable {d : Dev} {w : Nat}

theorem wrReads_of_fits (hcap : wrLocal w + wrLen w ≤ hbmCap d) (e : Env) (port qp : Nat) :
    wrReads e port qp w d = ({ op := wrOp w, local_ := wrLocal w, len := wrLen w }, wrSends e port qp w 0 [] d) :=
  if_neg (Nat.not_lt.2 hcap)

theorem wrWrites_of_read {bs : List Byte} (hread : hbmRead d (wrLocal w) (wrLen w) = .ok bs) (e : Env) (port qp : Nat) :
    wrWrites e port qp w d =
      ({ op := wrOp w, len := wrLen w }, wrSends e port qp w (wrLen w) bs (hbmDone e (wrLocal w) (wrLen w) d)) := by
  simp only [wrWrites, hread]

theorem wrSend_of_fits (hfits : wrLocal w + wrLen w ≤ 2 ^ 36) (e : Env) (data : List Byte) (port qp : Nat) :
    wrSend e data port qp w d = ({ op := 3, len := wrLen w }, wrSends e port qp w (wrLen w) (data.take (wrLen w)) d) :=
  if_pos (decide_eq_true hfits)

end

/-- A command on a queue pair that exists reads the next work request and gives what becomes of it. -/
theorem workRequest_gives {s : State} {i : Instr} {port qp w op : Nat} {start : Env → Nat → Nat → Nat → Dev → Wr × Dev}
    (hi : exec i s = act s (port < 4 && qp < 1024) (fun e d => workRequest op start e port qp w d)) (hport : port < 4)
    (hqp : qp < 1024) (hr : Runs s) : Gives i s (workRequest op start s.env port qp w s.dev) :=
  gives_of_act (f := fun e d => workRequest op start e port qp w d) hi (by simp [hport, hqp]) hr

/-- Settles O27: a taken request that is malformed, and one of each operation. -/
theorem workRequestsStartOnce : Obligations.WorkRequestsStartOnce := by
  intro s port qp wr data bs
  dsimp only
  intro hport hqp hr htakes
  have hread : Gives (.rdmaRead port qp wr) s _ := workRequest_gives rfl hport hqp hr
  have hwrite : Gives (.rdmaWrite port qp wr) s _ := workRequest_gives rfl hport hqp hr
  have hsend : Gives (.send port qp wr data) s _ := workRequest_gives rfl hport hqp hr
  have hnvmeRead : Gives (.nvmeRead port qp wr) s _ := workRequest_gives rfl hport hqp hr
  have hnvmeWrite : Gives (.nvmeWrite port qp wr) s _ := workRequest_gives rfl hport hqp hr
  refine ⟨fun hbad => ?_, fun hgood => ⟨fun hop hcap => ?_, fun hop hcap => ?_, fun hop hok => ?_, fun hop hok => ?_,
    fun hop hfits hbs => ?_⟩⟩
  · exact ⟨gives_congr hread (workRequest_of_bad htakes hbad), gives_congr hwrite (workRequest_of_bad htakes hbad),
      gives_congr hsend (workRequest_of_bad htakes hbad), gives_congr hnvmeRead (workRequest_of_bad htakes hbad),
      gives_congr hnvmeWrite (workRequest_of_bad htakes hbad)⟩
  · exact gives_congr hread (workRequest_of_starts htakes hgood hop (wrReads_of_fits hcap ..))
  · exact gives_congr hnvmeRead (workRequest_of_starts htakes hgood hop (wrReads_of_fits hcap ..))
  · exact gives_congr hwrite (workRequest_of_starts htakes hgood hop (wrWrites_of_read hok ..))
  · exact gives_congr hnvmeWrite (workRequest_of_starts htakes hgood hop (wrWrites_of_read hok ..))
  · rw [hbs]
    exact gives_congr hsend (workRequest_of_starts (start := fun e => wrSend e data) htakes hgood hop (wrSend_of_fits hfits ..))

end Sys2Proof.Machine
end

section
/-! SUPPORT. Reads of HBM, queued writes, evictions and scrubs (R179, R180, R183, R187 to R192), and the retirement of a
pseudo-channel and a stack's training (R194 to R197): what each gives, case by case. -/

namespace Sys2Proof.Machine

/-! Reads, writes and evictions. -/

section
variable {d : Dev} {a n : Nat} (e : Env) (who : HbmUser)

theorem readHbm_of_ok {bs : List Byte} (h : hbmRead d a n = .ok bs) :
    readHbm e who a n d = answerRead who (some bs) (hbmDone e a n d) := by
  simp only [readHbm, h]

theorem readHbm_of_bad {l : Nat} (h : hbmRead d a n = .bad l) :
    readHbm e who a n d = answerRead who none
      (logError e (hbmErr (hbmDone e a n d) 0x0112 l none none) (hbmUeSeen e l (hbmDone e a n d))) := by
  simp only [readHbm, h, hbmFailed]

theorem readHbm_of_beyond (h : hbmRead d a n = .beyond) :
    readHbm e who a n d = answerRead who none (hbmBeyond e (max a (hbmCap d)) none none d) := by
  simp only [readHbm, h]

end

theorem acceptWrite_of_first {d : Dev} {k : Nat} {q : HbmWr} (hq : d.hbmWr[k]? = some q)
    (hfirst : (d.hbmWr.take k).any (fun v => v.src = q.src && hbmStack v.addr = hbmStack q.addr) = false)
    (hcap : q.addr + q.data.length ≤ hbmCap d) (e : Env) :
    acceptWrite e k false d = ownerLanded q.owner (hbmAccept e q.ctx q.addr q.data { d with hbmWr := d.hbmWr.eraseIdx k }) := by
  have hfits : ¬ q.addr + q.data.length > hbmCap { d with hbmWr := d.hbmWr.eraseIdx k } := Nat.not_lt.2 hcap
  simp only [acceptWrite, hq, hfirst, Bool.false_eq_true, if_false, hfits, false_and]
  split <;> rfl

section
variable {d : Dev} {st line : Nat} {w : WcbEnt} (hw : wcbOf d line = some w) (hst : hbmStack (line * 64) = st)
include hw hst

theorem evictIdle_of_spoilt {bad : Bool} (hbad : bad = true ∨ w.bad = true) (e : Env) :
    evictIdle e st line bad d = evictFail e w d := by
  simp only [evictIdle, hw, hst, ne_eq, not_true_eq_false, if_false]
  split_ifs with h
  · rfl
  · exact if_pos (hbad.resolve_left h)

theorem evictIdle_of_good (hgood : w.bad = false) (hline : d.lineUE.contains line = false) (e : Env) :
    evictIdle e st line false d = satAdd e ⟨.HBM_WCB_RMW, st, 0, 0⟩ 1 (hbmPutLine line
      ((List.range 64).map (fun i => hbmByte (lineChecked e d line) (line * 64 + i))) (lineChecked e d line)) := by
  obtain rfl := line_of_wcbOf hw
  have hevict := evictEntry_of_good hgood hline e
  rw [hst] at hevict
  simpa only [evictIdle, hw, hst, ne_eq, not_true_eq_false, if_false, Bool.false_eq_true] using hevict

end

/-! Scrubs. -/

section
variable {d : Dev} {line x : Nat} {f : Finding}

theorem lineFinds_of_uncorrectable (h : d.lineUE.contains line = true ∨ isBad f = true) :
    ∃ u, lineFinds d line f = .uncorrectable u := by
  unfold lineFinds
  split_ifs with hline
  · exact ⟨0, rfl⟩
  · cases f with
    | uncorrectable u => exact ⟨u, rfl⟩
    | clean | corrected _ => exact absurd (h.resolve_left hline) Bool.false_ne_true

theorem lineFinds_of_corrected (hline : d.lineUE.contains line = false)
    (h : f = .corrected x ∨ f = .clean ∧ lineSlip d line = some x) : lineFinds d line f = .corrected x := by
  unfold lineFinds
  rw [hline]
  obtain rfl | ⟨rfl, hslip⟩ := h
  · rfl
  · rw [hslip]; rfl

theorem lineFinds_of_clean (hline : d.lineUE.contains line = false) (hslip : lineSlip d line = none) :
    lineFinds d line .clean = .clean := by
  unfold lineFinds
  rw [hline, hslip]
  rfl

variable (hw : wcbOf d line = none) (e : Env)
include hw

theorem patrolLine_of_clean (hfinds : lineFinds d line f = .clean) : patrolLine e line f d = d := by
  simp only [patrolLine, hw, hfinds]

theorem patrolLine_of_corrected (hfinds : lineFinds d line f = .corrected x) :
    patrolLine e line f d = lineCorrected e line x { d with slips := slipsBut line d.slips } := by
  simp only [patrolLine, hw, hfinds]

theorem patrolLine_of_uncorrectable (hfinds : lineFinds d line f = .uncorrectable x) :
    let marked : Dev := { d with lineUE := if d.lineUE.contains line then d.lineUE else d.lineUE ++ [line] }
    patrolLine e line f d = logError e (hbmErr marked 0x0113 (line * 64) none none) (hbmUeSeen e (line * 64) marked) := by
  simp only [patrolLine, hw, hfinds]

end

/-- The device after the scrub of a word of a store that is scrubbed, by what the read of the word found. -/
def scrubbed (e : Env) (p : Nat) (name : StoreName) (word : Nat) : Finding × Dev → Dev
  | (.clean, d) => d
  | (.corrected x, d) => wordCorrected e p (storeCoded name) (p * codedWords (storeCoded name) + word) x none none d
  | (.uncorrectable x, d) =>
    logError e (storeErr 0x0103 p (storeNo name) (word * 8) x none none)
      (satAdd e ⟨storeCounter (storeNo name) true, p, 0, 0⟩ 1 (storeBad name (p * codedWords (storeCoded name) + word) d))

theorem scrubWord_of_scrubs {p word : Nat} {name : StoreName} (hno : storeNo name ≠ 2)
    (hword : word < codedWords (storeCoded name)) (e : Env) (f : Finding) (d : Dev) :
    scrubWord e p name word f d = scrubbed e p name word (wordFinds name (p * codedWords (storeCoded name) + word) f d) := by
  have hscrubs : ¬ (storeNo name = 2 ∨ word ≥ codedWords (storeCoded name)) := not_or.2 ⟨hno, Nat.not_le.2 hword⟩
  refine (if_neg hscrubs).trans ?_
  generalize wordFinds name (p * codedWords (storeCoded name) + word) f d = r
  obtain ⟨_ | _ | _, _⟩ := r <;> rfl

section
variable {d : Dev} {name : StoreName} {w : Nat}

theorem wordFinds_of_clean (hgood : storeIsBad name w d = false) (hslip : wordSlip d (storeCoded name) w = none) :
    wordFinds name w .clean d = (.clean, d) := by
  simp only [wordFinds, hgood, hslip]

theorem wordFinds_of_corrected {f : Finding} {x : Nat} (hgood : storeIsBad name w d = false)
    (h : f = .corrected x ∨ f = .clean ∧ wordSlip d (storeCoded name) w = some x) : wordFinds name w f d = (.corrected x, d) := by
  obtain rfl | ⟨rfl, hslip⟩ := h
  · simp only [wordFinds, hgood]
  · simp only [wordFinds, hgood, hslip]

theorem wordFinds_of_uncorrectable (x : Nat) : wordFinds name w (.uncorrectable x) d = (.uncorrectable x, d) := rfl

theorem wordFinds_of_bad {f : Finding} (hbad : storeIsBad name w d = true) (hf : isBad f = false) :
    wordFinds name w f d = (.uncorrectable (takeFree d).1, (takeFree d).2) := by
  cases f with
  | clean | corrected _ => simp only [wordFinds, hbad]
  | uncorrectable _ => cases hf

end

/-! Retirement, migration and training. -/

section
variable {d : Dev} {st : Nat}

theorem retireCode_of_migrating (h3 : rget d ⟨.HBM_STACK_STATE, st, 0, 0⟩ = 3) : retireCode d st = 2 := if_pos h3

theorem retireCode_of_not_ready (h2 : rget d ⟨.HBM_STACK_STATE, st, 0, 0⟩ ≠ 2) (h3 : rget d ⟨.HBM_STACK_STATE, st, 0, 0⟩ ≠ 3) :
    retireCode d st = 1 := (if_neg h3).trans (if_pos h2)

/-- A ready stack's request is judged by the channels that are retired (R194, R197). -/
theorem retireCode_of_ready (h2 : rget d ⟨.HBM_STACK_STATE, st, 0, 0⟩ = 2) : retireCode d st =
    if (rget d ⟨.HBM_PC_RETIRED, st, 0, 0⟩).testBit (rget d ⟨.HBM_RETIRE_PC, st, 0, 0⟩) then 3
    else if popCount (rget d ⟨.HBM_PC_RETIRED, st, 0, 0⟩) 32 ≥ 8 then 4 else 0 := by
  simp only [retireCode, h2, ne_eq, not_true_eq_false, if_false]
  rfl

theorem retireCode_of_open (h2 : rget d ⟨.HBM_STACK_STATE, st, 0, 0⟩ = 2)
    (hbit : (rget d ⟨.HBM_PC_RETIRED, st, 0, 0⟩).testBit (rget d ⟨.HBM_RETIRE_PC, st, 0, 0⟩) = false) :
    retireCode d st = if popCount (rget d ⟨.HBM_PC_RETIRED, st, 0, 0⟩) 32 ≥ 8 then 4 else 0 :=
  (retireCode_of_ready h2).trans (if_neg (Bool.eq_false_iff.1 hbit))

end

section
variable {e : Env} {d : Dev} {st code : Nat} (hcode : retireCode d st = code)
include hcode

theorem retireGo_of_begins (hbegins : code = 0) : retireGo e st d =
    rset { rset d ⟨.HBM_RETIRE_RESULT, st, 0, 0⟩ 0 with
      migs := tblSet (fun k => k) d.migs st (some (rget d ⟨.HBM_RETIRE_PC, st, 0, 0⟩, 0)) none } ⟨.HBM_STACK_STATE, st, 0, 0⟩ 3 := by
  subst hbegins
  simp only [retireGo, hcode, if_true, rset_migs]

theorem retireGo_of_full (hfull : code = 4) : retireGo e st d =
    logError e { cls := 0x0118, level := 4, kind := 1, index := st * 32 + rget d ⟨.HBM_RETIRE_PC, st, 0, 0⟩,
                 syn := rget d ⟨.HBM_RETIRE_PC, st, 0, 0⟩ } (rset d ⟨.HBM_RETIRE_RESULT, st, 0, 0⟩ 4) := by
  subst hfull
  simp only [retireGo, hcode, if_true]
  rfl

theorem retireGo_of_refused (hbegins : code ≠ 0) (hfull : code ≠ 4) :
    retireGo e st d = rset d ⟨.HBM_RETIRE_RESULT, st, 0, 0⟩ code := by
  simp only [retireGo, hcode, hbegins, hfull, if_false]

end

/-- A row is moved, where it moves (R195). -/
theorem moveChunk_eq {d : Dev} {st pc q : Nat} (hmig : migOf d st = some (pc, q)) (e : Env) :
    let r := nextMove d st q 64
    let moved := if r < migTop d st ∧ rowMoves d st r then (linesOf (chunkAddr st r) 2048).foldl (moveLine e st) d else d
    let next := nextMove moved st (r + 1) 64
    moveChunk e st d = if next ≥ migTop d st then migDone st pc moved
      else { moved with migs := tblSet (fun k => k) moved.migs st (some (pc, next)) none } := by
  simp only [moveChunk, hmig]

theorem stackTrained_of_training {d : Dev} {st : Nat} (hserves : tabokRuns d = true) (hstate : rget d ⟨.HBM_STACK_STATE, st, 0, 0⟩ < 2)
    (e : Env) (ok : Bool) : stackTrained e st ok d =
      if ok then rset (zeroStack st d) ⟨.HBM_STACK_STATE, st, 0, 0⟩ 2
      else logError e { cls := 0x0119, level := 4, kind := 1, index := st * 32, syn := st } (rset d ⟨.HBM_STACK_STATE, st, 0, 0⟩ 4) := by
  have htrains : ¬ (tabokRuns d = false ∨ rget d ⟨.HBM_STACK_STATE, st, 0, 0⟩ ≥ 2) := by
    rw [hserves]
    exact not_or.2 ⟨Bool.noConfusion, Nat.not_le.2 hstate⟩
  exact if_neg htrains

/-! The commands. -/

section
variable {s : State} (hr : Runs s)
include hr

theorem hbmRead_gives {f : Finding} (hf : isBad f = false) (who : HbmUser) (a n : Nat) :
    Gives (.hbmRead who a n f) s (readHbm s.env who a n s.dev) := by
  have hgives : Gives (.hbmRead who a n f) s (readHbm s.env who a n (if isBad f then spoilEntry a n s.dev else s.dev)) :=
    gives_of_act (f := fun e d => readHbm e who a n (if isBad f then spoilEntry a n d else d)) rfl rfl hr
  rwa [hf, if_neg Bool.false_ne_true] at hgives

theorem hbmWriteQueued_gives {f : Finding} (hf : isBad f = false) (k : Nat) :
    Gives (.hbmWrite (.queued k) f) s (acceptWrite s.env k false s.dev) :=
  hf ▸ gives_of_act (f := fun e d => acceptWrite e k (isBad f) d) rfl rfl hr

theorem wcbEvict_gives {st : Nat} (hst : st < 20) (line : Nat) (f : Finding) :
    Gives (.wcbEvict st line f) s (evictIdle s.env st line (isBad f) s.dev) :=
  gives_of_act (f := fun e d => evictIdle e st line (isBad f) d) rfl (decide_eq_true hst) hr

/-- A scrub of a line gives what its read gives, and at the end of a pass also counts the pass. -/
theorem patrolScrub_gives {line : Nat} {f : Finding} {d : Dev} (hline : line < 1920 * 2 ^ 24)
    (hd : patrolLine s.env line f s.dev = d) :
    Gives (.patrolScrub line f false) s d ∧ Gives (.patrolScrub line f true) s (patrolEnds (hbmStack (line * 64)) d) := by
  have hgives (last : Bool) : Gives (.patrolScrub line f last) s _ :=
    gives_of_act (f := fun e d => if last then patrolEnds (hbmStack (line * 64)) (patrolLine e line f d) else patrolLine e line f d)
      rfl (decide_eq_true hline) hr
  subst hd
  exact ⟨hgives false, hgives true⟩

theorem tileScrub_gives {p : Nat} (hp : p < 1440) (name : StoreName) (word : Nat) (f : Finding) :
    Gives (.tileScrub p name word f) s (scrubWord s.env p name word f s.dev) :=
  gives_of_act (f := fun e d => scrubWord e p name word f d) rfl (decide_eq_true hp) hr

theorem hbmChunkMove_gives {st : Nat} (hst : st < 20) : Gives (.hbmChunkMove st) s (moveChunk s.env st s.dev) :=
  gives_of_act (f := fun e d => moveChunk e st d) rfl (decide_eq_true hst) hr

theorem hbmStackTrained_gives {st : Nat} (hst : st < 20) (ok : Bool) :
    Gives (.hbmStackTrained st ok) s (stackTrained s.env st ok s.dev) :=
  gives_of_act (f := fun e d => stackTrained e st ok d) rfl (decide_eq_true hst) hr

end

theorem hbmRetireGo_gives {s : State} (hs : Serves s) {st : Nat} (hst : st < 20) :
    Gives (.hbmRetireGo st) s (retireGo s.env st s.dev) :=
  gives_of_actT (f := fun e d => retireGo e st d) rfl (decide_eq_true hst) hs

/-- A scrub of a word gives what its read finds. -/
theorem tileScrub_gives_of_finds {s : State} (hr : Runs s) {p word : Nat} {name : StoreName} {f : Finding} {r : Finding × Dev}
    (hp : p < 1440) (hno : storeNo name ≠ 2) (hword : word < codedWords (storeCoded name))
    (hfinds : wordFinds name (p * codedWords (storeCoded name) + word) f s.dev = r) :
    Gives (.tileScrub p name word f) s (scrubbed s.env p name word r) := by
  have hgives := tileScrub_gives hr hp name word f
  rwa [scrubWord_of_scrubs hno hword, hfinds] at hgives

/-- Settles O30: each command by what it meets. -/
theorem hbmReadsScrubsAndRetirement : Obligations.HbmReadsScrubsAndRetirement := by
  refine ⟨fun s who a n k p st line word x name bs f q w => ?_, fun s st pc q => ?_⟩
  · dsimp only
    intro hr
    refine ⟨fun hf hok => ?_, fun l hf hbad => ?_, fun hf hbeyond => ?_, fun hf hq hfirst hcap => ?_,
      fun hst hf hw hstack _ hgood hline => ?_, fun hst hw hstack hbad => ?_, fun hline hw hgood hslip => ?_,
      fun hline hw hgood hfinds => ?_, fun hline hw hbad => ?_, fun hp hno hword => ⟨?_, ?_, ?_, ?_⟩⟩
    · exact gives_congr (hbmRead_gives hr hf who a n) (readHbm_of_ok _ _ hok)
    · exact gives_congr (hbmRead_gives hr hf who a n) (readHbm_of_bad _ _ hbad)
    · exact gives_congr (hbmRead_gives hr hf who a n) (readHbm_of_beyond _ _ hbeyond)
    · exact gives_congr (hbmWriteQueued_gives hr hf k) (acceptWrite_of_first hq hfirst hcap _)
    · exact gives_congr (hf ▸ wcbEvict_gives hr hst line f) (evictIdle_of_good hw hstack hgood hline _)
    · exact gives_congr (wcbEvict_gives hr hst line f) (evictIdle_of_spoilt hw hstack hbad _)
    · exact patrolScrub_gives hr hline (patrolLine_of_clean hw _ (lineFinds_of_clean hgood hslip))
    · exact patrolScrub_gives hr hline (patrolLine_of_corrected hw _ (lineFinds_of_corrected hgood hfinds))
    · obtain ⟨u, hfinds⟩ := lineFinds_of_uncorrectable hbad
      exact patrolScrub_gives hr hline (patrolLine_of_uncorrectable hw _ hfinds)
    · exact fun hgood hslip => gives_congr (tileScrub_gives_of_finds hr hp hno hword (wordFinds_of_clean hgood hslip)) rfl
    · exact fun hgood hfinds => gives_congr (tileScrub_gives_of_finds hr hp hno hword (wordFinds_of_corrected hgood hfinds)) rfl
    · exact gives_congr (tileScrub_gives_of_finds hr hp hno hword (wordFinds_of_uncorrectable x)) rfl
    · exact fun hbad hf => gives_congr (tileScrub_gives_of_finds hr hp hno hword (wordFinds_of_bad hbad hf)) rfl
  · dsimp only
    intro hst hs
    obtain ⟨hr, hserves⟩ := hs
    have hretire := hbmRetireGo_gives ⟨hr, hserves⟩ hst
    refine ⟨fun h3 => ?_, fun h2 h3 => ?_, fun h2 hbit => ?_, fun h2 hbit hcount => ?_, fun h2 hbit hcount => ?_,
      fun hmig hnext => ?_, fun hmig hnext => ?_, fun hstate => ⟨?_, ?_⟩⟩
    · exact gives_congr hretire (retireGo_of_refused (retireCode_of_migrating h3) (by decide) (by decide))
    · exact gives_congr hretire (retireGo_of_refused (retireCode_of_not_ready h2 h3) (by decide) (by decide))
    · exact gives_congr hretire (retireGo_of_refused ((retireCode_of_ready h2).trans (if_pos hbit)) (by decide) (by decide))
    · exact gives_congr hretire (retireGo_of_full ((retireCode_of_open h2 hbit).trans (if_pos hcount)) rfl)
    · exact gives_congr hretire (retireGo_of_begins ((retireCode_of_open h2 hbit).trans (if_neg (Nat.not_le.2 hcount))) rfl)
    · exact gives_congr (hbmChunkMove_gives hr hst) ((moveChunk_eq hmig _).trans (if_neg (Nat.not_le.2 hnext)))
    · exact gives_congr (hbmChunkMove_gives hr hst) ((moveChunk_eq hmig _).trans (if_pos hnext))
    · exact gives_congr (hbmStackTrained_gives hr hst true) (stackTrained_of_training hserves hstate _ true)
    · exact gives_congr (hbmStackTrained_gives hr hst false) (stackTrained_of_training hserves hstate _ false)

end Sys2Proof.Machine
end

section
/-! SUPPORT. Transfers of a channel (R200, R202, R205 to R209): the move out of the shadow set, a piece read and written on, an
answer, the completion of the oldest transfer, and a pause. -/

namespace Sys2Proof.Machine

/-! The channel's pause, and the move out of the shadow set. -/

section
variable {d : Dev} {p n : Nat}

theorem chanPaused_of_one (hpause : rget d ⟨.TILE_DMA_PAUSE, p, n, 0⟩ = 1) : chanPaused d p n = true := decide_eq_true hpause

theorem chanPaused_of_zero (hpause : rget d ⟨.TILE_DMA_PAUSE, p, n, 0⟩ = 0) : chanPaused d p n = false := by
  simp only [chanPaused, hpause, Nat.zero_ne_one, decide_false]

theorem shadowMoves_of_free {x : Xfer} (hact : (getChan d p n).act = none) (hshd : (getChan d p n).shd = some x)
    (hpause : chanPaused d p n = false) (hroom : heldCount (getChan d p n) < 4)
    (hgoes : (getChan d p n).stopped.testBit x.c = false) :
    shadowMoves p n d = setChan d p n { getChan d p n with act := some x, shd := none } := by
  have hfour : ¬ heldCount (getChan d p n) ≥ 4 := Nat.not_le.2 hroom
  simp only [shadowMoves, hact, hshd, hpause, hgoes, hfour, decide_false, Bool.or_false, Bool.false_eq_true, if_false]

end

/-! A piece written on. -/

theorem length_swapBytes (m : Nat) (bs : List Byte) : (swapBytes m bs).length = bs.length := by
  simp only [swapBytes, List.length_map, List.length_range]

/-- The writes to the controllers of HBM that a piece makes: one to a line (R202). -/
def pieceLines (p n : Nat) (x : Xfer) (bs : List Byte) : List HbmWr :=
  (cutLines (pieceDst x) bs.length bs).map (fun y =>
    { src := p * 4 + n, addr := y.1, data := y.2, ctx := some x.c, owner := xferOwner p n x })

section
variable {x : Xfer} (e : Env) (p n : Nat) (bs : List Byte) (d : Dev)

/-- Writes of HBM are answered to a transfer that has BARRIER (R205). -/
theorem pieceSend_of_hbm (hdst : chDstSpace x.desc = 2) : pieceSend e p n x bs d =
    some ({ d with hbmWr := d.hbmWr ++ pieceLines p n x bs }, b2n (chBarrier x.desc) * (pieceLines p n x bs).length) := by
  have hlands : xferLands x = chBarrier x.desc := by simp [xferLands, hdst]
  simp only [pieceSend, hdst, hlands]
  rfl

/-- A write into the tile's own stores, under no landing counter, does not overtake older ones of its channel (R202). -/
theorem pieceSend_of_own (hdst : chDstSpace x.desc ≤ 1) (hland : chLandEn x.desc = false) : pieceSend e p n x bs d =
    if d.arrivals.any (fun a => a.src = p * 4 + n) then none
    else some (ownWrite e p n x (chDstSpace x.desc) bs d, 0) := by
  unfold pieceSend
  dsimp only
  split
  case h_1 h2 => omega
  case h_2 h3 => omega
  case h_3 h4 => omega
  case h_4 => exact if_neg (Bool.eq_false_iff.1 hland)

end

theorem ownWrite_of_within {e : Env} {p n sp : Nat} {x : Xfer} {bs : List Byte} {d : Dev}
    (hwithin : storeBeyond d p x.h x.c sp (pieceDst x) bs.length = none) :
    ownWrite e p n x sp bs d = storeWrite e p x.h x.c sp (pieceDst x) bs d := by
  simp only [ownWrite, hwithin]

/-! A read that returns. -/

theorem pieceRead_of_store {x : Xfer} (hsrc : chSrcSpace x.desc ≤ 1) (d : Dev) (p : Nat) :
    pieceRead d p x = storeRead d p x.h x.c (chSrcSpace x.desc) (pieceSrc x) (pieceLen x) :=
  if_neg (by omega)

section
variable {d : Dev} {p n : Nat} {x : Xfer} (e : Env) (hact : (getChan d p n).act = some x) (hkept : x.discard = false)
include hact hkept

theorem readReturns_of_sent {bs : List Byte} {sent : Dev} {waits : Nat} (hread : pieceRead d p x = .ok bs)
    (hsend : pieceSend e p n x (swapBytes (chSwap x.desc) bs) (pieceSeen e p x (writeHeld e p n d)) = some (sent, waits)) :
    readReturns e p n d = satAdd e ⟨.TILE_DMA_PIECES, p, n, 0⟩ 1 (pieceDone p n x waits sent) := by
  simp only [readReturns, hact, hkept, hread, hsend, Bool.false_and, Bool.false_eq_true, if_false]

theorem readReturns_of_unsent {bs : List Byte} (hread : pieceRead d p x = .ok bs)
    (hsend : pieceSend e p n x (swapBytes (chSwap x.desc) bs) (pieceSeen e p x (writeHeld e p n d)) = none) :
    readReturns e p n d = writeHeld e p n d := by
  simp only [readReturns, hact, hkept, hread, hsend, Bool.false_and, Bool.false_eq_true, if_false]

theorem readReturns_of_badStore {sp o : Nat} (hread : pieceRead d p x = .badStore sp o) :
    let seen := pieceSeen e p x d
    readReturns e p n d = readFail e p x.c (some (x.idx, x.issueNo)) (.badStore sp o)
      (rbit (setChan seen p n (stopXfer x.c x.h x.idx x.issueNo (getChan seen p n))) ⟨.TILE_DMA_UE, p, n, 0⟩) := by
  simp only [readReturns, hact, hkept, hread, Bool.false_and, Bool.false_eq_true, if_false]

end

/-! Answers and completion. -/

/-- A transfer of a channel after an answer to the transfer named (R205). -/
def xferAnswered (c h idx issueNo : Nat) (y : Xfer) : Xfer :=
  if isXfer c h idx issueNo y then { y with unanswered := y.unanswered - 1 } else y

theorem responseArrives_of_head {d : Dev} {p n c h idx issueNo : Nat} {rest : List WrOwner}
    (hhead : d.answers = .channel p n c h idx issueNo :: rest) :
    let ch := getChan d p n
    responseArrives p n d = setChan { d with answers := rest } p n
      { ch with act := ch.act.map (xferAnswered c h idx issueNo), held := ch.held.map (xferAnswered c h idx issueNo) } := by
  simp only [responseArrives, hhead, List.find?_cons, decide_true, Bool.and_self, List.erase_cons_head]
  rfl

theorem retireDiscarded_of_kept {ch : Chan} (hkept : ∀ y, ch.act = some y → y.discard = false) : retireDiscarded ch = ch := by
  unfold retireDiscarded
  split
  · next y hact => exact if_neg (Bool.eq_false_iff.1 (hkept y hact))
  · rfl

/-- With none behind it complete, the oldest held transfer alone ends its DMA_GO (R206). -/
theorem transferCompletes_of_oldest {d : Dev} {p n : Nat} {x : Xfer} {rest : List Xfer} (hheld : (getChan d p n).held = x :: rest)
    (hkept : ∀ y, (getChan d p n).act = some y → y.discard = false) (hopen : x.complete = false) (hover : xferOver x = true)
    (hrest : ∀ y ∈ rest, y.complete = false) :
    transferCompletes p n d = tellRecord p (setChan d p n { getChan d p n with held := rest }) x := by
  have hdrop : rest.dropWhile (·.complete) = rest := by
    cases rest with
    | nil => rfl
    | cons y ys => exact List.dropWhile_cons_of_neg (Bool.eq_false_iff.1 (hrest y List.mem_cons_self))
  have htake : rest.takeWhile (·.complete) = [] := by
    cases rest with
    | nil => rfl
    | cons y ys => exact List.takeWhile_cons_of_neg (Bool.eq_false_iff.1 (hrest y List.mem_cons_self))
  have hfirst : (x :: rest).findIdx (fun y => !y.complete && xferOver y) = 0 := by
    simp only [List.findIdx_cons, hopen, hover, Bool.not_false, Bool.and_self, cond_true]
  simp only [transferCompletes, retireDiscarded_of_kept hkept, hheld, hfirst, List.modify_zero_cons, List.dropWhile_cons,
    List.takeWhile_cons, if_true, hdrop, htake, List.foldl_cons, List.foldl_nil]
  rfl

/-! A paused channel drained. -/

section
variable {d : Dev} {p n : Nat} (e : Env) (hpause : rget d ⟨.TILE_DMA_PAUSE, p, n, 0⟩ = 1)
  (hpaused : rget d ⟨.TILE_DMA_PAUSED, p, n, 0⟩ = 0)
include hpause hpaused

theorem drainChan_of_idle (hact : (getChan d p n).act = none) :
    drainChan e p n d = rset (takeFree d).2 ⟨.TILE_DMA_PAUSED, p, n, 0⟩ 1 := by
  have hact' : (getChan (takeFree d).2 p n).act = none := hact
  simp only [drainChan, chanPaused_of_one hpause, hpaused, and_self, if_true, hact']
  rfl

theorem drainChan_of_active {x : Xfer} (hact : (getChan d p n).act = some x) : drainChan e p n d =
    rset (drainReads e p n x ((takeFree d).1 % 257) (takeFree d).2) ⟨.TILE_DMA_PAUSED, p, n, 0⟩ 1 := by
  have hact' : (getChan (takeFree d).2 p n).act = some x := hact
  simp only [drainChan, chanPaused_of_one hpause, hpaused, and_self, if_true, hact']
  rfl

end

/-! The commands. -/

theorem chanOk_of_lt {p n : Nat} (hp : p < 1440) (hn : n < 4) : chanOk p n = true := by
  simp only [chanOk, hp, hn, decide_true, Bool.and_self]

theorem dmaReadReturn_gives {s : State} (hr : Runs s) {p n : Nat} (hok : chanOk p n = true)
    (hpause : rget s.dev ⟨.TILE_DMA_PAUSE, p, n, 0⟩ = 0) : Gives (.dmaReadReturn p n) s (readReturns s.env p n s.dev) :=
  gives_congr (gives_of_act (f := fun e d => if chanPaused d p n then d else readReturns e p n d) rfl hok hr)
    (if_neg (Bool.eq_false_iff.1 (chanPaused_of_zero hpause)))

/-- Settles O31: each command's effect, its conditions met; a read that returns by what it reads and where it writes. -/
theorem transfersMoveThroughTheChannel : Obligations.TransfersMoveThroughTheChannel := by
  intro s p n x
  dsimp only
  intro hp hn hr
  have hok : chanOk p n = true := chanOk_of_lt hp hn
  have hmoves : Gives (.shadowToActive p n) s (shadowMoves p n s.dev) :=
    gives_of_act (f := fun _ d => shadowMoves p n d) rfl hok hr
  have hanswers : Gives (.dmaWriteResponse p n) s (responseArrives p n s.dev) :=
    gives_of_act (f := fun _ d => responseArrives p n d) rfl hok hr
  have hcompletes : Gives (.dmaTransferComplete p n) s (transferCompletes p n s.dev) :=
    gives_of_act (f := fun _ d => transferCompletes p n d) rfl hok hr
  have hdrains : Gives (.dmaPauseDrained p n) s (drainChan s.env p n s.dev) :=
    gives_of_act (f := fun e d => drainChan e p n d) rfl hok hr
  refine ⟨fun hact hshd hpause hroom hgoes => ?_, fun bs hpause hact hkept hsrc hdst hland hread hclear hwithin => ?_,
    fun bs hpause hact hkept hsrc hdst hland hread hbusy => ?_, fun bs hpause hact hkept hsrc hdst hread => ?_,
    fun sp o hpause hact hkept hsrc hread => ?_, fun rest hhead => ?_, fun rest hheld hkept hopen hover hrest => ?_,
    fun hs => ⟨?_, ?_⟩, fun hpause hpaused hact => ?_, fun hpause hpaused hact => ?_⟩
  · exact gives_congr hmoves (shadowMoves_of_free hact hshd (chanPaused_of_zero hpause) hroom hgoes)
  · rw [← length_swapBytes (chSwap x.desc)] at hwithin
    have hsend := (pieceSend_of_own s.env p n (swapBytes (chSwap x.desc) bs) _ hdst hland).trans (if_neg (Bool.eq_false_iff.1 hclear))
    rw [ownWrite_of_within hwithin] at hsend
    exact gives_congr (dmaReadReturn_gives hr hok hpause)
      (readReturns_of_sent s.env hact hkept ((pieceRead_of_store hsrc _ _).trans hread) hsend)
  · have hsend := (pieceSend_of_own s.env p n (swapBytes (chSwap x.desc) bs) _ hdst hland).trans (if_pos hbusy)
    exact gives_congr (dmaReadReturn_gives hr hok hpause)
      (readReturns_of_unsent s.env hact hkept ((pieceRead_of_store hsrc _ _).trans hread) hsend)
  · exact gives_congr (dmaReadReturn_gives hr hok hpause)
      (readReturns_of_sent s.env hact hkept ((pieceRead_of_store hsrc _ _).trans hread) (pieceSend_of_hbm _ _ _ _ _ hdst))
  · exact gives_congr (dmaReadReturn_gives hr hok hpause)
      (readReturns_of_badStore s.env hact hkept ((pieceRead_of_store hsrc _ _).trans hread))
  · exact gives_congr hanswers (responseArrives_of_head hhead)
  · exact gives_congr hcompletes (transferCompletes_of_oldest hheld hkept hopen hover hrest)
  · exact gives_of_actT (f := fun _ d => pauseChan p n d) rfl hok hs
  · exact gives_of_actT (f := fun _ d => resumeChan p n d) rfl hok hs
  · exact gives_congr hdrains (drainChan_of_idle s.env hpause hpaused hact)
  · exact gives_congr hdrains (drainChan_of_active s.env hpause hpaused hact)

end Sys2Proof.Machine
end

section
/-! SUPPORT. Routed packets that end here (R288 to R291, R318), and what has waited too long (R297, R299). -/

namespace Sys2Proof.Machine

/-! The packet at the head of a virtual channel, taken where it ends here. -/

/-- The device after a packet whose E2E fails: counted, recorded, and a request answered with cause 5 (R288, R291). -/
def e2eFailed (e : Env) (n : Nat) (p : Pkt) (d : Dev) : Dev :=
  let counted := logError e (linkErr 0x0404 (linkOr n d).1 p.src) (satAdd e ⟨.LNK_E2E_BAD, 0, 0, 0⟩ 1 (linkOr n d).2)
  let broken := if n < 36 then satAdd e ⟨.LNK_UNDELIV, n, 0, 0⟩ 1 counted else counted
  if p.vc = 0 then injectPkt e none (undelivOf e broken p 5) broken else broken

section
variable {n v type : Nat} {q : Queued} {d d' : Dev} (e : Env)
  (hhead : takeHead d n v (fun x => x.pkt.type = type && routeOf d n x = .here) = some (q, d'))
include hhead

theorem takeHere_of_head : takeHere e n v type d = checkE2E e n q.pkt d' := by
  simp only [takeHere, hhead]

theorem takeHere_of_whole (hwhole : pktE2E q.pkt = q.pkt.e2e) : takeHere e n v type d = (some q.pkt, d') :=
  (takeHere_of_head e hhead).trans (if_pos hwhole)

theorem takeHere_of_broken (hbroken : ¬ pktE2E q.pkt = q.pkt.e2e) : takeHere e n v type d = (none, e2eFailed e n q.pkt d') :=
  (takeHere_of_head e hhead).trans (if_neg hbroken)

end

/-! What becomes of a packet by its type. -/

section
variable {e : Env} {n cls : Nat} {p : Pkt} {d d' : Dev}

theorem writeArrives_of_none (htaken : takeHere e n cls 1 d = (none, d')) : writeArrives e n cls d = d' := by
  simp only [writeArrives, htaken]

theorem writeArrives_of_some (htaken : takeHere e n cls 1 d = (some p, d')) : writeArrives e n cls d =
    if writeOk p then { d' with arrivals := d'.arrivals ++ [writeArrival p] } else writeMalformed e (writeArrival p) d' := by
  simp only [writeArrives, htaken]

theorem ackArrives_of_none (htaken : takeHere e n (2 + cls) 2 d = (none, d')) : ackArrives e n cls d = d' := by
  simp only [ackArrives, htaken]

/-- An answer releases its tag, and the tag's owner learns of its write (R289, R205, R207). -/
theorem ackArrives_of_tag {x : Nat × WrOwner} (htaken : takeHere e n (2 + cls) 2 d = (some p, d'))
    (htag : d'.tags.find? (fun x => x.1 = pktTag p) = some x) : ackArrives e n cls d =
      let freed := { d' with tags := d'.tags.filter (fun y => y.1 ≠ x.1) }
      if bitsOf p.body 1 0 = 0 then ownerLanded x.2 freed else ownerFailed e x.2 0 freed := by
  simp only [ackArrives, htaken, htag]

theorem ackArrives_of_late (htaken : takeHere e n (2 + cls) 2 d = (some p, d')) (hlate : ∀ x ∈ d'.tags, x.1 ≠ pktTag p) :
    ackArrives e n cls d = satAdd e ⟨.LNK_LATE_RESP, 0, 0, 0⟩ 1 d' := by
  have hfree : d'.tags.find? (fun x => x.1 = pktTag p) = none :=
    List.find?_eq_none.2 fun x hx => by simpa only [decide_eq_true_eq] using hlate x hx
  simp only [ackArrives, htaken, hfree]

theorem undelivArrives_of_none (htaken : takeHere e n (2 + cls) 3 d = (none, d')) : undelivArrives e n cls d = d' := by
  simp only [undelivArrives, htaken]

theorem undelivArrives_of_some (htaken : takeHere e n (2 + cls) 3 d = (some p, d')) :
    undelivArrives e n cls d = tagFailed e (pktTag p) (bitsOf p.body 9 6) d' := by
  simp only [undelivArrives, htaken]

end

/-! Packets and tags that wait too long. -/

section
variable {d : Dev} {n vc pos : Nat} {q : Queued} (e : Env)
  (hwaits : ((getLink d n).rx.filter (fun x => pktVc x.pkt = vc))[pos]? = some q)
include hwaits

theorem holdEnds_of_routed (hvc : q.pkt.vc ≠ 3) : holdEnds e n vc pos d =
    freeWords n q.pkt (undeliver e n 4 q (updLink d n (fun l => { l with rx := l.rx.erase q }))) := by
  simp only [holdEnds, hwaits, hvc, if_false]

theorem holdEnds_of_control (hvc : q.pkt.vc = 3) : holdEnds e n vc pos d = d := by
  simp only [holdEnds, hwaits, hvc, if_true]

end

section
variable {d : Dev} {t : Nat} (e : Env)

theorem tagTimesOut_of_used {o : WrOwner} (htag : d.tags.find? (fun x => x.1 = t) = some (t, o)) :
    tagTimesOut e t d = ownerFailed e o 4 { d with tags := d.tags.filter (fun x => x.1 ≠ t) } := by
  have hused : d.tags.any (fun x => x.1 = t) = true :=
    List.any_eq_true.2 ⟨(t, o), List.mem_of_find?_eq_some htag, decide_eq_true rfl⟩
  simp only [tagTimesOut, hused, if_true, tagFailed, htag]

theorem tagTimesOut_of_free (hfree : ∀ x ∈ d.tags, x.1 ≠ t) : tagTimesOut e t d = d :=
  if_neg (by simpa only [List.any_eq_true, decide_eq_true_eq, not_exists, not_and] using hfree)

end

/-- Settles O45: what each command takes by its E2E and by what it carries, and what has waited too long. -/
theorem routedPacketsEndOrRunOut : Obligations.RoutedPacketsEndOrRunOut := by
  refine ⟨fun s n cls q d => ?_, fun s n vc pos t q o => ?_⟩
  · dsimp only
    intro hn hcls hr
    have hok : (n ≤ 36 && cls < 2) = true := by simp only [hn, hcls, decide_true, Bool.and_self]
    have hwrite : Gives (.write n cls) s (writeArrives s.env n cls s.dev) :=
      gives_of_act (f := fun e d => writeArrives e n cls d) rfl hok hr
    have hack : Gives (.writeAck n cls) s (ackArrives s.env n cls s.dev) :=
      gives_of_act (f := fun e d => ackArrives e n cls d) rfl hok hr
    have hundeliv : Gives (.undeliv n cls) s (undelivArrives s.env n cls s.dev) :=
      gives_of_act (f := fun e d => undelivArrives e n cls d) rfl hok hr
    refine ⟨fun hends hbroken => ?_, fun hends hbroken => ?_, fun hends hbroken => ?_, fun hends hwhole hform => ?_,
      fun hends hwhole hform => ?_, fun x hends hwhole htag hlands => ?_, fun x hends hwhole htag hfails => ?_,
      fun hends hwhole hlate => ?_, fun hends hwhole => ?_⟩
    · exact gives_congr hwrite (writeArrives_of_none (takeHere_of_broken _ hends hbroken))
    · exact gives_congr hack (ackArrives_of_none (takeHere_of_broken _ hends hbroken))
    · exact gives_congr hundeliv (undelivArrives_of_none (takeHere_of_broken _ hends hbroken))
    · exact gives_congr hwrite ((writeArrives_of_some (takeHere_of_whole _ hends hwhole)).trans (if_pos hform))
    · exact gives_congr hwrite ((writeArrives_of_some (takeHere_of_whole _ hends hwhole)).trans (if_neg (Bool.eq_false_iff.1 hform)))
    · exact gives_congr hack ((ackArrives_of_tag (takeHere_of_whole _ hends hwhole) htag).trans (if_pos hlands))
    · exact gives_congr hack ((ackArrives_of_tag (takeHere_of_whole _ hends hwhole) htag).trans (if_neg hfails))
    · exact gives_congr hack (ackArrives_of_late (takeHere_of_whole _ hends hwhole) hlate)
    · exact gives_congr hundeliv (undelivArrives_of_some (takeHere_of_whole _ hends hwhole))
  · dsimp only
    intro hn hvc ht hr
    have hok : (n ≤ 36 && vc < 8) = true := by simp only [hn, hvc, decide_true, Bool.and_self]
    have hhold : Gives (.holdLimit n vc pos) s (holdEnds s.env n vc pos s.dev) :=
      gives_of_act (f := fun e d => holdEnds e n vc pos d) rfl hok hr
    have htimeout : Gives (.tagTimeout t) s (tagTimesOut s.env t s.dev) :=
      gives_of_act (f := fun e d => tagTimesOut e t d) rfl (decide_eq_true ht) hr
    refine ⟨fun hwaits hrouted => ?_, fun hwaits hcontrol => ?_, fun htag => ?_, fun hfree => ?_⟩
    · exact gives_congr hhold (holdEnds_of_routed _ hwaits hrouted)
    · exact gives_congr hhold (holdEnds_of_control _ hwaits hcontrol)
    · exact gives_congr htimeout (tagTimesOut_of_used _ htag)
    · exact gives_congr htimeout (tagTimesOut_of_free _ hfree)

end Sys2Proof.Machine
end

section
/-! SUPPORT. Descriptors of the command ring taken (R218, R235, R236, R269, R272). -/

namespace Sys2Proof.Machine

section
variable {d : Dev} {c n : Nat} (e : Env)

/-- A launch that ends malformed is named by CLK_CTX_SEQ where none is in force (R238, R269). -/
theorem badDesc_eq (idx : Nat) :
    let logged := logError e { cls := 0x0201, level := 4, kind := 5, index := 2, ctx := some c, syn := idx + descSeq n * 2 ^ 32 } d
    let told := if descOp n = 1 ∧ (getCtx logged c).cur.isNone then rset logged ⟨.CLK_CTX_SEQ, c, 0, 0⟩ (descSeq n) else logged
    badDesc e c idx n d = addDone c (doneNow e told (descSeq n) 2 10 d.logNext (descOp n = 2)) told := by
  simp only [badDesc, endedSeq, ite_and]

section
variable (hhead : headDesc d c = some n)
include hhead

/-- A descriptor other than an ABORT is taken while the queue has room for it (R218, R273). -/
theorem takeLaunch_of_room (hop : descOp n ≠ 2) (hroom : descOp n = 1 → (getCtx d c).queue.length < 64) :
    takeLaunch e c d =
      if descBad d c n then badDesc e c (rget d ⟨.RING_CMD_CONS, c, 0, 0⟩) n (takeDesc c d)
      else updCtx (takeDesc c d) c (fun x => { x with queue := x.queue ++ [launchOf n] }) := by
  have htaken : ¬ (descOp n = 2 ∨ (descOp n = 1 ∧ (getCtx d c).queue.length ≥ 64)) := by
    rintro (habort | ⟨hlaunch, hfull⟩)
    · exact hop habort
    · exact absurd (hroom hlaunch) (Nat.not_lt.2 hfull)
  simp only [takeLaunch, hhead, htaken, if_false]

theorem takeAbort_of_abort (hop : descOp n = 2) :
    takeAbort e c d =
      if descBad d c n then badDesc e c (rget d ⟨.RING_CMD_CONS, c, 0, 0⟩) n (takeDesc c d)
      else actAbort e c (descSeq n) (descEntry n) (takeDesc c d) := by
  simp only [takeAbort, hhead, hop, ne_eq, not_true_eq_false, if_false]

end

/-! What an ABORT meets, by its own SEQ a and its target. -/

variable {a target : Nat}

theorem actAbort_of_past (hpast : target = a ∨ seqLater target a = true) :
    actAbort e c a target d = addDone c (doneNow e d a 2 11 target true) d := if_pos hpast

variable (hpast : ¬ (target = a ∨ seqLater target a = true))
include hpast

theorem actAbort_of_queued {l : Launch} (hqueued : (getCtx d c).queue.find? (fun l => l.seq = target) = some l) :
    actAbort e c a target d = abortQueued e c a l d := by
  simp only [actAbort, hpast, if_false, hqueued]

variable (hqueued : (getCtx d c).queue.find? (fun l => l.seq = target) = none)
include hqueued

theorem actAbort_of_running {l : Launch} (hcur : (getCtx d c).cur = some l) (hseq : l.seq = target)
    (hdecided : (getCtx d c).decided = false) (hstarted : l.started = true) :
    actAbort e c a target d = abortRunning e c a l d := by
  simp only [actAbort, hpast, if_false, hqueued, hcur, hseq, hdecided, hstarted, Bool.not_false, and_self, if_true]

/-- Neither queued nor in force, started and undecided: TOO_LATE (R235). -/
theorem actAbort_of_missing
    (hmissing : (getCtx d c).cur.all (fun l => l.seq ≠ target || (getCtx d c).decided || !l.started) = true) :
    actAbort e c a target d = addDone c (doneNow e d a 3 0 target true) d := by
  simp only [actAbort, hpast, if_false, hqueued]
  cases hcur : (getCtx d c).cur with
  | none => rfl
  | some l =>
    have hover : ¬ (l.seq = target ∧ (!(getCtx d c).decided) = true ∧ l.started = true) := by
      rintro ⟨hseq, hopen, hstarted⟩
      simp [hcur, hseq, hstarted] at hmissing
      simp [hmissing] at hopen
    exact if_neg hover

end

/-- Settles O19: LAUNCH and ABORT by the descriptor at the head, and an ABORT by what its target is. -/
theorem commandDescriptorsAreTaken : Obligations.CommandDescriptorsAreTaken := by
  intro s c n i d1 d2 d err logged told bad a target past queued gone hc hr hhead
  have hc8 : decide (c < 8) = true := decide_eq_true hc
  have hlaunch : Gives (.launch c) s (takeLaunch s.env c s.dev) := gives_of_act (f := fun e d => takeLaunch e c d) rfl hc8 hr
  have habort : Gives (.abort c) s (takeAbort s.env c s.dev) := gives_of_act (f := fun e d => takeAbort e c d) rfl hc8 hr
  have hmalformed : badDesc s.env c i n d = bad := badDesc_eq s.env i
  have hacts (hop : descOp n = 2) (hwhole : descBad s.dev c n = false) : Gives (.abort c) s (actAbort s.env c a target d) :=
    gives_congr habort ((takeAbort_of_abort s.env hhead hop).trans (if_neg (Bool.eq_false_iff.1 hwhole)))
  refine ⟨fun hop hroom hwhole => ?_, fun hop hroom hbad => ?_, fun hop hbad => ?_, fun hop hwhole hpast => ?_,
    fun l hop hwhole hpast hqueued => ?_, fun l hop hwhole hpast hqueued hcur hseq hdecided hstarted => ?_,
    fun hop hwhole hpast hqueued hmissing => ?_⟩
  · have hother : descOp n ≠ 2 := by omega
    exact gives_congr hlaunch
      ((takeLaunch_of_room s.env hhead hother (fun _ => hroom)).trans (if_neg (Bool.eq_false_iff.1 hwhole)))
  · exact gives_congr hlaunch (((takeLaunch_of_room s.env hhead hop hroom).trans (if_pos hbad)).trans hmalformed)
  · exact gives_congr habort (((takeAbort_of_abort s.env hhead hop).trans (if_pos hbad)).trans hmalformed)
  · exact gives_congr (hacts hop hwhole) (actAbort_of_past s.env hpast)
  · exact gives_congr (hacts hop hwhole) (actAbort_of_queued s.env hpast hqueued)
  · exact gives_congr (hacts hop hwhole) (actAbort_of_running s.env hpast hqueued hcur hseq hdecided hstarted)
  · exact gives_congr (hacts hop hwhole) (actAbort_of_missing s.env hpast hqueued hmissing)

end Sys2Proof.Machine
end

section
/-! SUPPORT. The launch at the head judged, and started (R218, R219, R239, R448). -/

namespace Sys2Proof.Machine

/-! The verdict on the launch at the head. -/

/-- The record of a launch that names a slot without an epoch to use (R219). -/
def slotEmpty (d : Dev) (c : Nat) (l : Launch) : Err :=
  { cls := 0x0304, level := 4, kind := 8, ctx := some c, syn := l.useSlot + epState d c l.useSlot * 4 }

section
variable {d : Dev} {c : Nat} {l : Launch} {q : List Launch} (e : Env) (hcur : (getCtx d c).cur = none)
  (hqueue : (getCtx d c).queue = l :: q) (hloaded : ctxLoaded d c = true)
include hcur hqueue hloaded

theorem judgeHead_of_pending (hpending : rget d ⟨.CLK_CTX_FAIL_PEND, c, 0, 0⟩ = 1) :
    judgeHead e c d = failHead e c (rget d ⟨.CLK_CTX_PEND_CAUSE, c, 0, 0⟩) (rget d ⟨.CLK_CTX_PEND_LOG, c, 0, 0⟩) l
      (rset (rset (rset d ⟨.CLK_CTX_FAIL_PEND, c, 0, 0⟩ 0) ⟨.CLK_CTX_PEND_CAUSE, c, 0, 0⟩ 0) ⟨.LNK_COL_FAIL_PEND, c, 0, 0⟩ 0) := by
  simp only [judgeHead, hcur, hqueue, hloaded, hpending, Bool.not_true, Bool.false_eq_true, if_false, if_true]

variable (hpending : rget d ⟨.CLK_CTX_FAIL_PEND, c, 0, 0⟩ ≠ 1)
include hpending

theorem judgeHead_of_held (hheld : launchesHeld d = true ∨ ctxHalted d c = true) : judgeHead e c d = d := by
  simp only [judgeHead, hcur, hqueue, hloaded, hpending, Bool.not_true, Bool.false_eq_true, if_false, Bool.or_eq_true, hheld,
    if_true]

variable (hheld : launchesHeld d = false) (hhalted : ctxHalted d c = false)
include hheld hhalted

/-- With nothing that holds launches, the epoch fields decide (R219). -/
theorem judgeHead_of_free :
    judgeHead e c d =
      if ¬ (l.useEn = false ∨ epResident d c l.useSlot = true) then
        failHead e c 5 d.logNext l (logError e (slotEmpty d c l) d)
      else if ¬ (l.fillEn = false ∨ fillAllowed d l = true) then waitFill e c l d
      else beginLaunch e c l d := by
  simp only [judgeHead, hcur, hqueue, hloaded, hpending, hheld, hhalted, slotEmpty, not_or, Bool.not_eq_true, Bool.not_eq_false,
    Bool.not_true, Bool.or_self, Bool.false_eq_true, if_false]

end

theorem launchStart_gives {s : State} {c : Nat} (hc : c < 8) (hr : Runs s) :
    Gives (.launchStart c) s (judgeHead s.env c s.dev) :=
  gives_of_act (f := fun e d => judgeHead e c d) rfl (decide_eq_true hc) hr

/-- Settles O20: the verdict's branches, in their order. -/
theorem launchStartJudgesTheHead : Obligations.LaunchStartJudgesTheHead := by
  intro s c l q cleared slot pending useOk fillOk hc hr hcur hqueue hloaded
  have hgives := launchStart_gives hc hr
  refine ⟨fun hpending => ?_, fun hpending hheld => ?_, fun hheld hpending hhalted huse => ?_,
    fun hheld hpending hhalted huse hfill => ?_, fun hheld hpending hhalted huse hfill => ?_⟩
  · exact gives_congr hgives (judgeHead_of_pending s.env hcur hqueue hloaded hpending)
  · exact gives_congr hgives (judgeHead_of_held s.env hcur hqueue hloaded hpending hheld)
  all_goals
    refine gives_congr hgives ((judgeHead_of_free s.env hcur hqueue hloaded hpending hheld hhalted).trans ?_)
  · exact if_pos huse
  · exact (if_neg (not_not.2 huse)).trans (if_pos hfill)
  · exact (if_neg (not_not.2 huse)).trans (if_neg (not_not.2 hfill))

end Sys2Proof.Machine
end

section
/-! SUPPORT. A launch that starts (R64, R218, R239): what its streams hold, and what stays. -/

namespace Sys2Proof.Machine

/-! The logical tiles of a context. -/

theorem exists_mem_of_tblGet_ne {κ ν : Type} [DecidableEq κ] {t : List (κ × ν)} {k : κ} {dflt : ν}
    (hne : tblGet t k dflt ≠ dflt) : ∃ e ∈ t, e.1 = k := by
  induction t with
  | nil => exact absurd rfl hne
  | cons e t ih =>
    by_cases hk : e.1 = k
    · exact ⟨e, List.mem_cons_self, hk⟩
    · rw [tblGet, if_neg hk] at hne
      obtain ⟨e', hmem, hk'⟩ := ih hne
      exact ⟨e', List.mem_cons_of_mem e hmem, hk'⟩

section
variable {d : Dev} {p h c : Nat}

theorem mem_allTiles : p ∈ allTiles ↔ p < 1440 := by simp [allTiles, tileCount]

theorem mem_usedTiles_of_on (hp : p < 1440) (hh : h < 2) (hc : c < 8) (hon : (getStrm d p h c).on = true) : p ∈ usedTiles d := by
  have hlisted : getStrm d p h c ≠ {} := fun hidle => by rw [hidle] at hon; cases hon
  obtain ⟨e, hmem, hkey⟩ := exists_mem_of_tblGet_ne hlisted
  have htile : e.1 / 16 = p := by unfold strmKey at hkey; omega
  refine List.mem_filter.2 ⟨mem_allTiles.2 hp, decide_eq_true (List.mem_append_left _ ?_)⟩
  exact List.mem_map.2 ⟨e, hmem, htile⟩

theorem lt_of_mem_usedTiles (hused : p ∈ usedTiles d) : p < 1440 := by
  rw [usedTiles, List.mem_filter, mem_allTiles] at hused
  exact hused.1

theorem mem_tilesOf (hc : c < 8) : p ∈ tilesOf d c ↔ p < 1440 ∧ enabledOn d p c = true := by
  refine List.mem_filter.trans ⟨fun ⟨hused, hen⟩ => ⟨?_, hen⟩, fun ⟨hp, hen⟩ => ⟨?_, hen⟩⟩
  · exact lt_of_mem_usedTiles hused
  · rcases Bool.or_eq_true_iff.1 hen with hon | hon
    · exact mem_usedTiles_of_on hp Nat.zero_lt_two hc hon
    · exact mem_usedTiles_of_on hp Nat.one_lt_two hc hon

theorem mem_halvesOf (hc : c < 8) : (p, h) ∈ halvesOf d c ↔ p < 1440 ∧ h < 2 ∧ (getStrm d p h c).on = true := by
  have hhalf : h < 2 ↔ h = 0 ∨ h = 1 := by omega
  simp only [halvesOf, List.mem_flatMap, mem_tilesOf hc, hhalf, enabledOn, List.mem_append, List.mem_ite_nil_right,
    List.mem_singleton, Bool.or_eq_true]
  constructor
  · rintro ⟨q, ⟨hq, -⟩, ⟨hon, rfl, rfl⟩ | ⟨hon, rfl, rfl⟩⟩
    · exact ⟨hq, .inl rfl, hon⟩
    · exact ⟨hq, .inr rfl, hon⟩
  · rintro ⟨hp, rfl | rfl, hon⟩
    · exact ⟨p, ⟨hp, .inl hon⟩, .inl ⟨hon, rfl⟩⟩
    · exact ⟨p, ⟨hp, .inr hon⟩, .inr ⟨hon, rfl⟩⟩

theorem halvesOf_congr {d' : Dev} (hstrms : d'.strms = d.strms) (htiles : d'.tiles = d.tiles) :
    halvesOf d' c = halvesOf d c := by
  have hused : usedTiles d' = usedTiles d := by rw [usedTiles, usedTiles, hstrms, htiles]
  have hstrm : getStrm d' = getStrm d := by funext p h k; rw [getStrm, getStrm, hstrms]
  unfold halvesOf tilesOf enabledOn
  rw [hused, hstrm]

/-- Whether a context is halted shows in what is enabled and in the tiles' halt bits alone. -/
theorem ctxHalted_congr {d' : Dev} (hc : c < 8) (hen : ∀ p, enabledOn d' p c = enabledOn d p c)
    (htile : ∀ p, getTile d' p = getTile d p) : ctxHalted d' c = ctxHalted d c := by
  rw [Bool.eq_iff_iff]
  simp only [ctxHalted, List.any_eq_true, mem_tilesOf hc, hen, htile]

theorem ctxLoaded_setStrm {x : Strm} (hc : c < 8) (hon : x.on = true) : ctxLoaded (setStrm d p h c x) c = true := by
  have hlisted : x ≠ {} := fun hidle => by rw [hidle] at hon; cases hon
  have hkey : strmKey p h c % 8 = c := by unfold strmKey; omega
  refine List.any_eq_true.2 ⟨(strmKey p h c, x), ?_, by simp [hkey, hon]⟩
  simp [setStrm, tblSet, hlisted, mem_tblInsert]

theorem ctxState_of_running (hloaded : ctxLoaded d c = true) (hhalted : ctxHalted d c = false)
    (hrunning : ctxRunning (getCtx d c) = true) (hending : (getCtx d c).ending = .running) : ctxState d c = 2 := by
  simp [ctxState, hloaded, hhalted, hrunning, hending]

end

/-! Streams as their launch starts. -/

/-- A stream as a launch starts with an entry index (R64, R218). -/
def strmStarted (entry : Nat) (s : Strm) : Strm :=
  { s with
    next := entry, decoding := true, decLoops := [], loops := [], win := [], ended := false, endDone := false
    advs := [], banks := [] }

/-- The streams of a list of logical tiles started. -/
def strmsStarted (c entry : Nat) (ts : List (Nat × Nat)) (d : Dev) : Dev := ts.foldl (startStrm c entry) d

section
variable {c entry : Nat} {ts : List (Nat × Nat)} {d : Dev}

/-- What the start of every stream keeps, the start of them all keeps. -/
theorem strmsStarted_keeps {β : Type} (f : Dev → β) (hf : ∀ d t, f (startStrm c entry d t) = f d) :
    f (strmsStarted c entry ts d) = f d :=
  List.foldlRecOn ts _ (motive := fun d' => f d' = f d) rfl (fun d' hd t _ => (hf d' t).trans hd)

theorem getCtx_strmsStarted (k : Nat) : getCtx (strmsStarted c entry ts d) k = getCtx d k :=
  strmsStarted_keeps (getCtx · k) (fun _ _ => rfl)

theorem getTile_strmsStarted (p : Nat) : getTile (strmsStarted c entry ts d) p = getTile d p :=
  strmsStarted_keeps (getTile · p) (fun _ _ => rfl)

theorem logNext_strmsStarted : (strmsStarted c entry ts d).logNext = d.logNext :=
  strmsStarted_keeps (·.logNext) (fun _ _ => rfl)

theorem rget_strmsStarted {k : RegKey} (hk : k.reg ≠ .TILE_CTX_OVF) : rget (strmsStarted c entry ts d) k = rget d k :=
  strmsStarted_keeps (rget · k) (fun d t => (rget_rset_ne _ 0 (fun hkey => hk (by rw [hkey]))).trans (rget_setStrm ..))

theorem getStrm_startStrm {p h q g : Nat} (hh : h < 2) (hg : g < 2) (hc : c < 8) :
    getStrm (startStrm c entry d (p, h)) q g c =
      if (q, g) = (p, h) then strmStarted entry (getStrm d q g c) else getStrm d q g c := by
  rw [startStrm, getStrm_rset, getStrm_setStrm hh hc hg hc]
  by_cases hsame : q = p ∧ g = h
  · obtain ⟨rfl, rfl⟩ := hsame
    simp [strmStarted]
  · simp [hsame]

variable (hts : ∀ t ∈ ts, t.2 < 2) (hc : c < 8)
include hts hc

theorem getStrm_strmsStarted {q g : Nat} (hg : g < 2) :
    getStrm (strmsStarted c entry ts d) q g c =
      if (q, g) ∈ ts then strmStarted entry (getStrm d q g c) else getStrm d q g c := by
  induction ts generalizing d with
  | nil => rfl
  | cons t ts ih =>
    rw [strmsStarted, List.foldl_cons, ← strmsStarted, ih (fun x hx => hts x (List.mem_cons_of_mem t hx)),
      getStrm_startStrm (hts t List.mem_cons_self) hg hc]
    by_cases hfirst : (q, g) = t <;> by_cases hrest : (q, g) ∈ ts <;> simp [hfirst, hrest, strmStarted]

theorem on_strmsStarted {q g : Nat} (hg : g < 2) : (getStrm (strmsStarted c entry ts d) q g c).on = (getStrm d q g c).on := by
  rw [getStrm_strmsStarted hts hc hg]
  split <;> rfl

theorem enabledOn_strmsStarted (q : Nat) : enabledOn (strmsStarted c entry ts d) q c = enabledOn d q c := by
  simp only [enabledOn, on_strmsStarted hts hc, Nat.zero_lt_two, Nat.one_lt_two]

theorem ctxHalted_strmsStarted : ctxHalted (strmsStarted c entry ts d) c = ctxHalted d c :=
  ctxHalted_congr hc (enabledOn_strmsStarted hts hc) getTile_strmsStarted

theorem ctxLoaded_strmsStarted (hon : ∀ t ∈ ts, (getStrm d t.1 t.2 c).on = true) (hloaded : ctxLoaded d c = true) :
    ctxLoaded (strmsStarted c entry ts d) c = true := by
  induction ts generalizing d with
  | nil => exact hloaded
  | cons t ts ih =>
    have hts' : ∀ x ∈ ts, x.2 < 2 := fun x hx => hts x (List.mem_cons_of_mem t hx)
    refine ih hts' (fun x hx => ?_) (ctxLoaded_setStrm hc (hon t List.mem_cons_self))
    exact (on_strmsStarted (ts := [t]) (List.forall_mem_singleton.2 (hts t List.mem_cons_self)) hc (hts' x hx)).trans
      (hon x (List.mem_cons_of_mem t hx))

end

/-! The launch at the head, without epoch fields. -/

/-- A context as the launch at the head of its queue starts (R218). -/
def ctxStarted (l : Launch) (x : Ctx) : Ctx :=
  { x with queue := x.queue.drop 1, cur := some { l with started := true }, ending := .running, decided := false, judged := 0 }

section
variable {d : Dev} {c : Nat} {l : Launch}

/-- The launch at the head in force and started, and named by CLK_CTX_SEQ (R218, R238). -/
def launchSet (c : Nat) (l : Launch) (d : Dev) : Dev :=
  updCtx (setCur c { l with started := true } d) c (fun x => { x with judged := 0 })

theorem getCtx_launchSet : getCtx (launchSet c l d) c = ctxStarted l (getCtx d c) := by
  simp [launchSet, setCur, ctxStarted]

theorem seq_launchSet : rget (launchSet c l d) ⟨.CLK_CTX_SEQ, c, 0, 0⟩ = l.seq % 2 ^ 32 := by
  have hbits : Reg.CLK_CTX_SEQ.bits = 32 := rfl
  simp [launchSet, setCur, hbits]

theorem ctxLoaded_launchSet (k : Nat) : ctxLoaded (launchSet c l d) k = ctxLoaded d k := rfl

theorem ctxHalted_launchSet (hc : c < 8) : ctxHalted (launchSet c l d) c = ctxHalted d c :=
  ctxHalted_congr hc (fun p => enabledOn_congr rfl p c) (fun _ => rfl)

theorem logNext_launchSet : (launchSet c l d).logNext = d.logNext := rfl

end

/-- The launch set and every stream of its context started. -/
def launchBegun (c : Nat) (l : Launch) (d : Dev) : Dev := strmsStarted c l.entry (halvesOf d c) (launchSet c l d)

section
variable {d : Dev} {c : Nat} {l : Launch}

theorem beginLaunch_of_no_epoch (e : Env) (huse : l.useEn = false) (hfill : l.fillEn = false) :
    beginLaunch e c l d = launchBegun c l d := by
  have hsame : halvesOf (launchSet c l d) c = halvesOf d c := halvesOf_congr rfl rfl
  rw [launchBegun, ← hsame]
  simp only [beginLaunch, huse, hfill, Bool.false_eq_true, if_false, strmsStarted, launchSet]

theorem getCtx_launchBegun : getCtx (launchBegun c l d) c = ctxStarted l (getCtx d c) :=
  (getCtx_strmsStarted c).trans getCtx_launchSet

theorem seq_launchBegun : rget (launchBegun c l d) ⟨.CLK_CTX_SEQ, c, 0, 0⟩ = l.seq % 2 ^ 32 :=
  (rget_strmsStarted (by simp)).trans seq_launchSet

theorem logNext_launchBegun : (launchBegun c l d).logNext = d.logNext := logNext_strmsStarted.trans logNext_launchSet

variable (hc : c < 8)
include hc

theorem getStrm_launchBegun {p h : Nat} (hp : p < 1440) (hh : h < 2) (hon : (getStrm d p h c).on = true) :
    getStrm (launchBegun c l d) p h c = strmStarted l.entry (getStrm d p h c) :=
  (getStrm_strmsStarted (fun _ ht => ((mem_halvesOf hc).1 ht).2.1) hc hh).trans (if_pos ((mem_halvesOf hc).2 ⟨hp, hh, hon⟩))

theorem ctxState_launchBegun (hloaded : ctxLoaded d c = true) (hhalted : ctxHalted d c = false) :
    ctxState (launchBegun c l d) c = 2 := by
  have hhalves : ∀ t ∈ halvesOf d c, t.2 < 2 ∧ (getStrm d t.1 t.2 c).on = true := fun t ht => ((mem_halvesOf hc).1 ht).2
  have hts : ∀ t ∈ halvesOf d c, t.2 < 2 := fun t ht => (hhalves t ht).1
  refine ctxState_of_running ?_ ?_ ?_ ?_
  · exact ctxLoaded_strmsStarted hts hc (fun t ht => (hhalves t ht).2) ((ctxLoaded_launchSet c).trans hloaded)
  · exact (ctxHalted_strmsStarted hts hc).trans ((ctxHalted_launchSet hc).trans hhalted)
  · rw [getCtx_launchBegun]; rfl
  · rw [getCtx_launchBegun]; rfl

end

/-- Settles O21: the launch starts, and it changes the streams of its context, its launch in force and CLK_CTX_SEQ. -/
theorem launchStartBringsStateTwo : Obligations.LaunchStartBringsStateTwo := by
  intro s c l q hc hr hcur hqueue hloaded hheld hpending hhalted huse hfill
  have hbegins : judgeHead s.env c s.dev = launchBegun c l s.dev := by
    have hnone : rget s.dev ⟨.CLK_CTX_FAIL_PEND, c, 0, 0⟩ ≠ 1 := by omega
    refine (judgeHead_of_free s.env hcur hqueue hloaded hnone hheld hhalted).trans ?_
    rw [if_neg (not_not.2 (.inl huse)), if_neg (not_not.2 (.inl hfill)), beginLaunch_of_no_epoch s.env huse hfill]
  have hgives := launchStart_gives hc hr
  rw [Gives, hbegins, inCycle_of_logNext logNext_launchBegun] at hgives
  refine ⟨_, hgives, ?_⟩
  dsimp only
  refine ⟨ctxState_launchBegun hc hloaded hhalted, ?_, ?_, seq_launchBegun, fun p hp h hh hon => ?_⟩
  · rw [getCtx_launchBegun]; rfl
  · rw [getCtx_launchBegun, ctxStarted, hqueue]; rfl
  · rw [getStrm_launchBegun hc hp hh hon]
    exact ⟨hon, rfl, rfl, rfl, rfl, rfl, rfl⟩

end Sys2Proof.Machine
end

section
/-! SUPPORT. Completion records and event entries (R268, R274 to R277): where their bytes lie, what moves with them, and what a
launch's end and an interrupt message leave. -/

namespace Sys2Proof.Machine

/-- The devices agree on Tabok memory, on the count of records, on what waits for context c's rings, and on every register but
those of epoch slots. -/
structure SameRings (c : Nat) (d d' : Dev) : Prop where
  lp : d'.lp = d.lp
  logNext : d'.logNext = d.logNext
  waiting : (getCtx d' c).waiting = (getCtx d c).waiting
  evq : (getCtx d' c).evq = (getCtx d c).evq
  dropped : (getCtx d' c).dropped = (getCtx d c).dropped
  reg : ∀ k : RegKey, k.reg ≠ .CLK_EP_PINS → k.reg ≠ .CLK_EP_STATE → rget d' k = rget d k

section
variable {c : Nat} {d d' d'' : Dev}

theorem SameRings.refl : SameRings c d d := ⟨rfl, rfl, rfl, rfl, rfl, fun _ _ _ => rfl⟩

theorem SameRings.trans (h : SameRings c d d') (h' : SameRings c d' d'') : SameRings c d d'' where
  lp := h'.lp.trans h.lp
  logNext := h'.logNext.trans h.logNext
  waiting := h'.waiting.trans h.waiting
  evq := h'.evq.trans h.evq
  dropped := h'.dropped.trans h.dropped
  reg k hpins hstate := (h'.reg k hpins hstate).trans (h.reg k hpins hstate)

theorem sameRings_epPins (j k v : Nat) : SameRings c d (rset d ⟨.CLK_EP_PINS, j, k, 0⟩ v) :=
  ⟨rfl, rfl, rfl, rfl, rfl, fun _ hpins _ => rget_rset_ne d v (fun h => hpins (h ▸ rfl))⟩

theorem sameRings_epState (j k v : Nat) : SameRings c d (rset d ⟨.CLK_EP_STATE, j, k, 0⟩ v) :=
  ⟨rfl, rfl, rfl, rfl, rfl, fun _ _ hstate => rget_rset_ne d v (fun h => hstate (h ▸ rfl))⟩

/-- A change of the context's own fields that keeps what waits for its rings. -/
theorem sameRings_setCtx {x : Ctx} (hwaiting : x.waiting = (getCtx d c).waiting) (hevq : x.evq = (getCtx d c).evq)
    (hdropped : x.dropped = (getCtx d c).dropped) : SameRings c d (setCtx d c x) := by
  constructor <;> simp [hwaiting, hevq, hdropped]

theorem sameRings_epRelease (j k : Nat) : SameRings c d (epRelease j k d) := by
  unfold epRelease epFree epUnpin
  split
  · exact (sameRings_epPins ..).trans (sameRings_epState ..)
  · exact sameRings_epPins ..

theorem sameRings_epDropFill (j seq : Nat) : SameRings c d (epDropFill j seq d) := by
  unfold epDropFill
  split
  · exact sameRings_epState ..
  · exact .refl

theorem sameRings_launchEnds (r : Done) : SameRings c d (launchEnds c r d) := by
  unfold launchEnds
  cases (getCtx d c).cur with
  | none => exact .refl
  | some l =>
    have hrelease : SameRings c d (if l.started ∧ l.useEn then epRelease c l.useSlot d else d) := by
      split
      · exact sameRings_epRelease ..
      · exact .refl
    refine .trans ?_ (sameRings_setCtx rfl rfl rfl)
    split
    · exact hrelease
    · exact hrelease.trans (sameRings_epDropFill ..)

/-- A message that goes leaves the rings; so does one that is owed. -/
theorem sameRings_irqCq (e : Env) : SameRings c d (irqCq e c d) := by
  unfold irqCq
  split_ifs
  · exact .refl
  · exact (sameRings_setCtx (x := { getCtx d c with irqCqAt := some e.clk.ns, irqCq := false }) rfl rfl rfl).trans
      ⟨rfl, rfl, rfl, rfl, rfl, fun _ _ _ => rfl⟩
  · exact sameRings_setCtx rfl rfl rfl

theorem sameRings_irqEq (e : Env) : SameRings c d (irqEq e c d) := by
  unfold irqEq
  split_ifs
  · exact .refl
  · exact (sameRings_setCtx (x := { getCtx d c with irqEqAt := some e.clk.ns, irqEq := false }) rfl rfl rfl).trans
      ⟨rfl, rfl, rfl, rfl, rfl, fun _ _ _ => rfl⟩
  · exact sameRings_setCtx rfl rfl rfl

end

/-! The bytes at a ring's entry. -/

section
variable {m : List Host.Cell} {a n : Nat} {bs : List Byte}

theorem memGet_memWrite_inside (hlen : bs.length = n) : ∀ k < n, memGet (memWrite m a bs) (a + k) = bs.getD k 0 := by
  intro k hk
  rw [memGet_memWrite, if_pos (by omega), Nat.add_sub_cancel_left]

theorem memGet_memWrite_outside (hlen : bs.length = n) :
    ∀ k, k < a ∨ a + n ≤ k → memGet (memWrite m a bs) k = memGet m k := by
  intro k hk
  rw [memGet_memWrite, if_neg (by omega)]

/-- Bytes written after those that follow them read as one write. -/
theorem memGet_memWrite_append (hlen : bs.length = n) (bs' : List Byte) (k : Nat) :
    memGet (memWrite (memWrite m (a + n) bs') a bs) k = memGet (memWrite m a (bs ++ bs')) k := by
  subst hlen
  simp only [memGet_memWrite, List.length_append]
  by_cases hfirst : a ≤ k ∧ k < a + bs.length
  · rw [if_pos hfirst, if_pos (by omega), List.getD_append _ _ _ _ (by omega)]
  · rw [if_neg hfirst]
    by_cases hthen : a + bs.length ≤ k ∧ k < a + bs.length + bs'.length
    · rw [if_pos hthen, if_pos (by omega), List.getD_append_right _ _ _ _ (by omega), Nat.sub_sub]
    · rw [if_neg hthen, if_neg (by omega)]

end

/-- The device with Tabok memory as an entry's bytes leave it, and a ring's producer index and sequence one further. -/
def ringPut (prod seq : RegKey) (m : List Host.Cell) (d : Dev) : Dev :=
  rset (rset { d with lp := m } prod (rget d prod + 1)) seq (rget d seq + 1)

section
variable {prod seq : RegKey} {m : List Host.Cell} {d : Dev}

theorem rget_ringPut_prod (hne : prod ≠ seq) : rget (ringPut prod seq m d) prod = (rget d prod + 1) % 2 ^ prod.reg.bits := by
  rw [ringPut, rget_rset_ne _ _ hne, rget_rset_same]

theorem rget_ringPut_seq : rget (ringPut prod seq m d) seq = (rget d seq + 1) % 2 ^ seq.reg.bits := rget_rset_same ..

end

/-- A command that raises no record leaves the device as its meaning says. -/
theorem exec_of_unrecorded {i : Instr} {s : State} {d : Dev} (hgives : Gives i s d) (hlog : d.logNext = s.dev.logNext) :
    exec i s = .next { s with dev := d } := by
  rw [Gives, inCycle_of_logNext hlog] at hgives
  exact hgives

section
variable {c : Nat} {d : Dev} (e : Env)

/-- The address of the entry at the completion ring's producer index (R268). -/
def cqEntry (d : Dev) (c : Nat) : Nat := ringAddr (cget d .RING_CQ_BASE c) (cget d .RING_CQ_LOG2 c) 32 (cget d .RING_CQ_PROD c)

/-- The same of the event ring. -/
def eqEntry (d : Dev) (c : Nat) : Nat := ringAddr (cget d .RING_EQ_BASE c) (cget d .RING_EQ_LOG2 c) 128 (cget d .RING_EQ_PROD c)

/-- The record of the oldest outcome is in the completion ring, the rest of the outcomes wait. -/
def recordPut (c : Nat) (r : Done) (rs : List Done) (d : Dev) : Dev :=
  ringPut ⟨.RING_CQ_PROD, c, 0, 0⟩ ⟨.RING_CQ_CSEQ, c, 0, 0⟩
    (memWrite d.lp (cqEntry d c) (leBytes (cqImage (cget d .RING_CQ_CSEQ c) r) 32)) (setCtx d c { getCtx d c with waiting := rs })

/-- The oldest event entry is in the event ring, body and envelope, the rest of the entries wait. -/
def eventPut (e : Env) (c : Nat) (v : EvEnt) (vs : List EvEnt) (d : Dev) : Dev :=
  ringPut ⟨.RING_EQ_PROD, c, 0, 0⟩ ⟨.RING_EQ_ESEQ, c, 0, 0⟩
    (memWrite (memWrite d.lp (eqEntry d c + 64) (leBytes v.body 64)) (eqEntry d c)
      (leBytes (eqEnvelope e (cget d .RING_EQ_ESEQ c) (getCtx d c).dropped v) 64))
    (setCtx d c { getCtx d c with evq := vs, dropped := 0 })

theorem writeRecord_of_room {r : Done} {rs : List Done} (hwaiting : (getCtx d c).waiting = r :: rs)
    (hmay : mayWriteDone d c r = true) (hen : cget d .RING_EN c = 1) (hfree : cqFree d c ≠ 0) (hin : cqEntry d c + 32 ≤ 2 ^ 36) :
    writeRecord e c d =
      irqCq e c (if r.ofLaunch then launchEnds c r (recordPut c r rs d) else recordPut c r rs d) := by
  have hwrites : ¬ ((!mayWriteDone d c r) = true ∨ cget d .RING_EN c = 0 ∨ cqFree d c = 0) := by
    rw [hmay, hen]; simpa using hfree
  have hbytes := hostWrite_inTabok (e := e) (d := setCtx d c { getCtx d c with waiting := rs })
    (bs := leBytes (cqImage (cget d .RING_CQ_CSEQ c) r) 32) (by rw [length_leBytes]; exact hin)
  simp only [writeRecord, hwaiting, if_neg hwrites]
  exact congrArg (fun x => irqCq e c (if r.ofLaunch then launchEnds c r (cset .RING_CQ_CSEQ c _ (cset .RING_CQ_PROD c _ x))
    else cset .RING_CQ_CSEQ c _ (cset .RING_CQ_PROD c _ x))) hbytes

theorem writeEvent_of_room {v : EvEnt} {vs : List EvEnt} (hevq : (getCtx d c).evq = v :: vs) (hen : cget d .RING_EN c = 1)
    (hfree : eqFree d c ≠ 0) (hin : eqEntry d c + 128 ≤ 2 ^ 36) :
    writeEvent e c d = irqEq e c (eventPut e c v vs d) := by
  have hwrites : ¬ (cget d .RING_EN c = 0 ∨ eqFree d c = 0) := by rw [hen]; simpa using hfree
  have hbody := hostWrite_inTabok (e := e) (d := setCtx d c { getCtx d c with evq := vs, dropped := 0 })
    (a := eqEntry d c + 64) (bs := leBytes v.body 64) (by rw [length_leBytes]; omega)
  have hbytes := hostWrite_inTabok (e := e)
    (d := { setCtx d c { getCtx d c with evq := vs, dropped := 0 } with
      lp := memWrite d.lp (eqEntry d c + 64) (leBytes v.body 64) })
    (a := eqEntry d c) (bs := leBytes (eqEnvelope e (cget d .RING_EQ_ESEQ c) (getCtx d c).dropped v) 64)
    (by rw [length_leBytes]; omega)
  simp only [writeEvent, hevq, if_neg hwrites]
  exact congrArg (fun x => irqEq e c (cset .RING_EQ_ESEQ c _ (cset .RING_EQ_PROD c _ x)))
    ((congrArg (hostWrite e _ _) hbody).trans hbytes)

end

theorem completionRecordWrite_gives {s : State} {c : Nat} (hc : c < 8) (hr : Runs s) :
    Gives (.completionRecordWrite c) s (writeRecord s.env c s.dev) :=
  gives_of_act (f := fun e d => writeRecord e c d) rfl (decide_eq_true hc) hr

theorem eventEntryWrite_gives {s : State} {c : Nat} (hc : c < 8) (hr : Runs s) :
    Gives (.eventEntryWrite c) s (writeEvent s.env c s.dev) :=
  gives_of_act (f := fun e d => writeEvent e c d) rfl (decide_eq_true hc) hr

/-- Settles O25: what each entry puts into memory and its ring, which a launch's end and a message leave. -/
theorem recordsReachTabokMemory : Obligations.RecordsReachTabokMemory := by
  intro s c r rs v vs x get a b image ent hc hr hen
  refine ⟨fun hwaiting hmay hfree hin => ?_, fun hevq hfree hin => ?_⟩
  · have hgives := gives_congr (completionRecordWrite_gives hc hr) (writeRecord_of_room s.env hwaiting hmay hen hfree hin)
    have hends : SameRings c (recordPut c r rs s.dev)
        (if r.ofLaunch then launchEnds c r (recordPut c r rs s.dev) else recordPut c r rs s.dev) := by
      split
      · exact sameRings_launchEnds r
      · exact .refl
    have hsame := hends.trans (sameRings_irqCq s.env)
    have hlen : image.length = 32 := length_leBytes ..
    refine ⟨_, exec_of_unrecorded hgives hsame.logNext, rfl, ?_, ?_, ?_, ?_, ?_⟩
    · exact hsame.waiting.trans (congrArg Ctx.waiting (getCtx_setCtx_same ..))
    · rw [hsame.lp]
      exact memGet_memWrite_inside hlen
    · rw [hsame.lp]
      exact memGet_memWrite_outside hlen
    · exact (hsame.reg ⟨.RING_CQ_PROD, c, 0, 0⟩ nofun nofun).trans (rget_ringPut_prod nofun)
    · exact (hsame.reg ⟨.RING_CQ_CSEQ, c, 0, 0⟩ nofun nofun).trans rget_ringPut_seq
  · have hgives := gives_congr (eventEntryWrite_gives hc hr) (writeEvent_of_room s.env hevq hen hfree hin)
    have hsame := sameRings_irqEq (c := c) (d := eventPut s.env c v vs s.dev) s.env
    have hlen : ent.length = 128 := by rw [List.length_append, length_leBytes, length_leBytes]
    have hread (k : Nat) : memGet (eventPut s.env c v vs s.dev).lp k = memGet (memWrite s.dev.lp b ent) k :=
      memGet_memWrite_append (length_leBytes ..) _ k
    refine ⟨_, exec_of_unrecorded hgives hsame.logNext, rfl, ?_, ?_, ?_, ?_, ?_, ?_⟩
    · exact hsame.evq.trans (congrArg Ctx.evq (getCtx_setCtx_same ..))
    · exact hsame.dropped.trans (congrArg Ctx.dropped (getCtx_setCtx_same ..))
    · intro k hk
      rw [hsame.lp, hread]
      exact memGet_memWrite_inside hlen k hk
    · intro k hk
      rw [hsame.lp, hread]
      exact memGet_memWrite_outside hlen k hk
    · exact (hsame.reg ⟨.RING_EQ_PROD, c, 0, 0⟩ nofun nofun).trans (rget_ringPut_prod nofun)
    · exact (hsame.reg ⟨.RING_EQ_ESEQ, c, 0, 0⟩ nofun nofun).trans rget_ringPut_seq

end Sys2Proof.Machine
end

section
/-! SUPPORT. Doorbells (R270), row by row of their table. -/

namespace Sys2Proof.Machine

/-- What the doorbell word v meets on its context's rings. -/
def doorbellMeets (d : Dev) (v : Nat) : DbCase :=
  let c := bitsOf v 18 16
  dbCase (cget d .RING_EN c) (cget d .RING_GEN c) (cget d .RING_CMD_LOG2 c) (cget d .RING_CMD_PROD c)
    (cget d .RING_CMD_CONS c) (bitsOf v 31 19) (bitsOf v 15 0)

section
variable {d : Dev} {v : Nat} (e : Env)

theorem doorbell_of_ignored (h : doorbellMeets d v = .off ∨ doorbellMeets d v = .stale) :
    doorbell e v d = satAdd e ⟨.RING_DB_IGNORED, 0, 0, 0⟩ 1 d := by
  unfold doorbellMeets at h
  obtain h | h := h <;> simp only [doorbell, h]

theorem doorbell_of_same (h : doorbellMeets d v = .same) : doorbell e v d = d := by
  unfold doorbellMeets at h
  simp only [doorbell, h]

theorem doorbell_of_refused (h : doorbellMeets d v = .refused) : doorbell e v d =
    logError e { cls := 0x0502, level := 4, kind := 5, index := 2, ctx := some (bitsOf v 18 16), syn := v % 2 ^ 32 }
      (rset d ⟨.RING_DB_BAD, bitsOf v 18 16, 0, 0⟩ 1) := by
  unfold doorbellMeets at h
  simp only [doorbell, h, cset]

theorem doorbell_of_accepted (h : doorbellMeets d v = .accepted) :
    doorbell e v d = rset d ⟨.RING_CMD_PROD, bitsOf v 18 16, 0, 0⟩ (bitsOf v 15 0) := by
  unfold doorbellMeets at h
  simp only [doorbell, h, cset]

end

/-! The rows, in their order. -/

section
variable {en gen log2 prod cons tag p : Nat}

theorem dbCase_of_not_live (hlive : ¬ (en ≠ 0 ∧ tag = gen)) : dbCase en gen log2 prod cons tag p = .off := by
  refine if_pos ?_
  by_contra hoff
  exact hlive (by simpa using hoff)

variable (hlive : en ≠ 0 ∧ tag = gen)
include hlive

theorem dbCase_of_live : dbCase en gen log2 prod cons tag p =
    if ringUsed p cons < ringUsed prod cons then .stale
    else if ringUsed p cons = ringUsed prod cons then .same
    else if ringUsed p cons > 2 ^ log2 - 1 then .refused
    else .accepted := if_neg (by simpa using hlive)

theorem dbCase_of_behind (hbehind : ringUsed p cons < ringUsed prod cons) :
    dbCase en gen log2 prod cons tag p = .stale := by
  rw [dbCase_of_live hlive, if_pos hbehind]

theorem dbCase_of_same (hsame : ringUsed p cons = ringUsed prod cons) : dbCase en gen log2 prod cons tag p = .same := by
  rw [dbCase_of_live hlive, if_neg (Nat.not_lt.2 hsame.ge), if_pos hsame]

theorem dbCase_of_ahead (hahead : ringUsed prod cons < ringUsed p cons) : dbCase en gen log2 prod cons tag p =
    if ringUsed p cons > 2 ^ log2 - 1 then .refused else .accepted := by
  rw [dbCase_of_live hlive, if_neg (Nat.not_lt.2 hahead.le), if_neg hahead.ne']

end

/-- Settles O23: the first row that applies. -/
theorem doorbellsFollowTheTable : Obligations.DoorbellsFollowTheTable := by
  intro s v c p get live dd o top ignored err hs
  have hgives : Gives (.ringDoorbell v) s (doorbell s.env v.toNat s.dev) :=
    gives_of_actT (f := fun e d => doorbell e v.toNat d) rfl rfl hs
  have hsyn : v.toNat % 2 ^ 32 = v.toNat := Nat.mod_eq_of_lt v.isLt
  refine ⟨fun hoff => ?_, fun hlive hbehind => ?_, fun hlive hsame => ?_, fun hlive hahead hfull => ?_,
    fun hlive hahead hroom => ?_⟩
  · exact gives_congr hgives (doorbell_of_ignored _ (.inl (dbCase_of_not_live hoff)))
  · exact gives_congr hgives (doorbell_of_ignored _ (.inr (dbCase_of_behind hlive hbehind)))
  · exact gives_congr hgives (doorbell_of_same _ (dbCase_of_same hlive hsame))
  · have hrefused := doorbell_of_refused s.env ((dbCase_of_ahead hlive hahead).trans (if_pos hfull))
    rw [hsyn] at hrefused
    exact gives_congr hgives hrefused
  · exact gives_congr hgives
      (doorbell_of_accepted _ ((dbCase_of_ahead hlive hahead).trans (if_neg (Nat.not_lt.2 hroom))))

end Sys2Proof.Machine
end

section
/-! SUPPORT. Descriptors that are being read (R268, R271 to R273, R450): a fetch, a return, a re-read and a restart. -/

namespace Sys2Proof.Machine

section
variable {d : Dev} {c idx n : Nat} {f : Fetch}

theorem descFetches_of_room (hen : rget d ⟨.RING_EN, c, 0, 0⟩ = 1) (hgoes : rget d ⟨.RING_CMD_STOPPED, c, 0, 0⟩ = 0)
    (hmore : (getCtx d c).fetchNext ≠ rget d ⟨.RING_CMD_PROD, c, 0, 0⟩)
    (hroom : (getCtx d c).queue.length + (getCtx d c).fetches.length + (getCtx d c).taken.length < 64) :
    descFetches c d = setCtx d c { getCtx d c with
      fetches := (getCtx d c).fetches ++ [{ idx := (getCtx d c).fetchNext }]
      fetchNext := ((getCtx d c).fetchNext + 1) % 65536 } := if_pos ⟨hen, hgoes, hmore, hroom⟩

variable (hread : (getCtx d c).fetches.find? (fun y => y.idx = idx) = some f)
include hread

/-- A re-read that may be made (R272 item 1). -/
theorem descRereads_of_missed (e : Env) (hreturned : f.first = false) (hasked : f.asked < 16) :
    descRereads e c idx d = satAdd e ⟨.RING_DESC_REREADS, c, 0, 0⟩ 1 (setCtx d c { getCtx d c with
      fetches := (getCtx d c).fetches.map (fun y => if y.idx = idx then { f with out := f.out + 1, asked := f.asked + 1 } else y) }) := by
  have hmay : ¬ (f.first = true ∨ f.asked ≥ 16) := by
    rw [hreturned]; simpa using hasked
  simp only [descRereads, hread, if_neg hmay]

variable (e : Env) (hout : 0 < f.out)
  (hin : ringAddr (cget d .RING_CMD_BASE c) (cget d .RING_CMD_LOG2 c) 64 idx + 64 ≤ 2 ^ 36)
include hout hin

/-- Data of an outstanding read comes from Tabok memory: its SEQ decides. -/
theorem descReturns_of_memory : descReturns e c idx n d =
    if descSeq n = wantSeq d c idx then
      setCtx d c { getCtx d c with fetches := (getCtx d c).fetches.erase f, taken := (getCtx d c).taken ++ [(idx, n % 2 ^ 512)] }
    else if (fetchMissed f).missed = 16 then descStops e c idx (descSeq n) d
    else setCtx d c { getCtx d c with fetches := (getCtx d c).fetches.map (fun y => if y.idx = idx then fetchMissed f else y) } := by
  have hmemory : ¬ (!inTabok (ringAddr (cget d .RING_CMD_BASE c) (cget d .RING_CMD_LOG2 c) 64 idx) 64) = true := by
    simpa [inTabok] using hin
  simp only [descReturns, hread, if_neg hout.ne', if_neg hmemory]

theorem descReturns_of_expected (hseq : descSeq n = wantSeq d c idx) : descReturns e c idx n d =
    setCtx d c { getCtx d c with
      fetches := (getCtx d c).fetches.erase f, taken := (getCtx d c).taken ++ [(idx, n % 2 ^ 512)] } :=
  (descReturns_of_memory hread e hout hin).trans (if_pos hseq)

variable (hseq : descSeq n ≠ wantSeq d c idx)
include hseq

theorem descReturns_of_last (hmissed : (fetchMissed f).missed = 16) :
    descReturns e c idx n d = descStops e c idx (descSeq n) d :=
  (descReturns_of_memory hread e hout hin).trans ((if_neg hseq).trans (if_pos hmissed))

theorem descReturns_of_mismatch (hmissed : (fetchMissed f).missed ≠ 16) : descReturns e c idx n d =
    setCtx d c { getCtx d c with fetches := (getCtx d c).fetches.map (fun y => if y.idx = idx then fetchMissed f else y) } :=
  (descReturns_of_memory hread e hout hin).trans ((if_neg hseq).trans (if_neg hmissed))

end

/-- Settles O24: a read goes out, comes back with or without the expected SEQ, is made again; a stopped ring restarts. -/
theorem descriptorsAreFetched : Obligations.DescriptorsAreFetched := by
  intro s c idx data f x get a want g again put hc hr
  have hc8 : decide (c < 8) = true := decide_eq_true hc
  have hreturn : Gives (.descReadReturn c idx data) s (descReturns s.env c idx (leNat data) s.dev) :=
    gives_of_act (f := fun e d => descReturns e c idx (leNat data) d) rfl hc8 hr
  refine ⟨fun hen hgoes hmore hroom => ?_, fun hread hout hin hseq => ?_, fun hread hout hin hseq hmissed => ?_,
    fun hread hout hin hseq hmissed => ?_, fun hread hreturned hasked => ?_, fun hs => ?_⟩
  · exact gives_congr (gives_of_act (f := fun _ d => descFetches c d) rfl hc8 hr) (descFetches_of_room hen hgoes hmore hroom)
  · exact gives_congr hreturn (descReturns_of_expected hread s.env hout hin hseq)
  · exact gives_congr hreturn (descReturns_of_mismatch hread s.env hout hin hseq hmissed)
  · exact gives_congr hreturn (descReturns_of_last hread s.env hout hin hseq hmissed)
  · exact gives_congr (gives_of_act (f := fun e d => descRereads e c idx d) rfl hc8 hr)
      (descRereads_of_missed hread s.env hreturned hasked)
  · exact gives_of_actT (f := fun _ d => retryFetch c d) rfl hc8 hs

end Sys2Proof.Machine
end

section
/-! SUPPORT. Writes of the ring registers (R272, R277, R283) and the end of a holdoff (R278). -/

namespace Sys2Proof.Machine

/-- A register that is not among those zeroed keeps its value. -/
theorem rget_foldl_zero_of_not_mem {l : List Reg} {k : RegKey} (hk : k.reg ∉ l) (c : Nat) (d : Dev) :
    rget (l.foldl (fun d r => rset d ⟨r, c, 0, 0⟩ 0) d) k = rget d k := by
  induction l generalizing d with
  | nil => rfl
  | cons r l ih =>
    obtain ⟨hne, hrest⟩ := not_or.1 (fun h => hk (List.mem_cons.2 h))
    exact (ih hrest _).trans (rget_rset_ne d 0 (fun h => hne (h ▸ rfl)))

/-- What RING_EN set from 0 puts to 0 (R283). -/
def ringZeroed : List Reg :=
  [.RING_CMD_PROD, .RING_CMD_CONS, .RING_CQ_PROD, .RING_CQ_CONS, .RING_CQ_CSEQ, .RING_EQ_PROD, .RING_EQ_CONS, .RING_EQ_ESEQ,
    .RING_CMD_STOPPED]

theorem getCtx_foldl_zero (l : List Reg) (c j : Nat) (d : Dev) :
    getCtx (l.foldl (fun d r => rset d ⟨r, c, 0, 0⟩ 0) d) j = getCtx d j := by
  induction l generalizing d with
  | nil => rfl
  | cons r l ih => exact ih _

theorem enableRing_eq (c : Nat) (d : Dev) :
    enableRing c d = setCtx
      (rset (rset (ringZeroed.foldl (fun d r => rset d ⟨r, c, 0, 0⟩ 0) d) ⟨.RING_CMD_EXPECT, c, 0, 0⟩
        (rget d ⟨.RING_CMD_SEQ0, c, 0, 0⟩)) ⟨.RING_EN, c, 0, 0⟩ 1) c
      { getCtx d c with dropped := 0, fetches := [], taken := [], fetchNext := 0 } := by
  have hkept : Reg.RING_CMD_SEQ0 ∉ ringZeroed := by decide
  have hseq0 := rget_foldl_zero_of_not_mem (k := ⟨.RING_CMD_SEQ0, c, 0, 0⟩) hkept c d
  have hctx := getCtx_foldl_zero ringZeroed c c d
  unfold enableRing
  change updCtx (rset (rset (ringZeroed.foldl (fun d r => rset d ⟨r, c, 0, 0⟩ 0) d) _
    (rget (ringZeroed.foldl (fun d r => rset d ⟨r, c, 0, 0⟩ 0) d) ⟨.RING_CMD_SEQ0, c, 0, 0⟩)) _ 1) c _ = _
  rw [hseq0, updCtx_eq, getCtx_rset, getCtx_rset, hctx]

section
variable {d : Dev} {c v : Nat} (e : Env)

theorem writeRingEn_of_set (hoff : rget d ⟨.RING_EN, c, 0, 0⟩ = 0) (hok : ringSetOk d c = true) :
    writeRingEn e c 1 d = enableRing c d := by
  have hen : cget d .RING_EN c = 0 := hoff
  have hretry : bitOf 1 2 = false := rfl
  have hclear : bitOf 1 3 = false := rfl
  simp [writeRingEn, hen, hok, hretry, hclear, show b2n (bitOf 1 0) = 1 from rfl]

theorem writeRingEn_of_clear (hon : rget d ⟨.RING_EN, c, 0, 0⟩ = 1) (hok : ringClearOk d c = true) :
    writeRingEn e c 0 d = disableRing e c d := by
  have hen : cget d .RING_EN c = 1 := hon
  simp [writeRingEn, hen, hok, bitOf, b2n]

theorem writeRingEn_of_set_refused (hv : bitOf v 0 = true) (hoff : rget d ⟨.RING_EN, c, 0, 0⟩ = 0)
    (hno : ringSetOk d c = false) : writeRingEn e c v d = regAccess e (ringOff c 0) true d :=
  if_pos (.inl ⟨by rw [hv]; rfl, hoff, hno⟩)

theorem writeRingEn_of_clear_refused (hv : bitOf v 0 = false) (hon : rget d ⟨.RING_EN, c, 0, 0⟩ = 1)
    (hno : ringClearOk d c = false) : writeRingEn e c v d = regAccess e (ringOff c 0) true d :=
  if_pos (.inr ⟨by rw [hv]; rfl, hon, hno⟩)

variable {rp rc : Reg} {off : Nat}

theorem writeCons_of_taken
    (hcons : ringUsed (rget d ⟨rp, c, 0, 0⟩) (bitsOf v 31 16) ≤ ringUsed (rget d ⟨rp, c, 0, 0⟩) (rget d ⟨rc, c, 0, 0⟩)) :
    writeCons e rp rc c off v d = rset d ⟨rc, c, 0, 0⟩ (bitsOf v 31 16) := if_pos (decide_eq_true hcons)

theorem writeCons_of_refused
    (hcons : ringUsed (rget d ⟨rp, c, 0, 0⟩) (rget d ⟨rc, c, 0, 0⟩) < ringUsed (rget d ⟨rp, c, 0, 0⟩) (bitsOf v 31 16)) :
    writeCons e rp rc c off v d = regAccess e (ringOff c off) true d :=
  if_neg (fun h => Nat.not_lt.2 (of_decide_eq_true h) hcons)

/-! A holdoff ends with a message owed. -/

theorem holdoffEnds_of_completion (howed : (getCtx d c).irqCq = true) : holdoffEnds e (.completion c) d =
    sendIrq (rget d ⟨.RING_IRQ_VEC_CQ, c, 0, 0⟩) (setCtx d c { getCtx d c with irqCqAt := some e.clk.ns, irqCq := false }) :=
  if_pos howed

theorem holdoffEnds_of_event (howed : (getCtx d c).irqEq = true) : holdoffEnds e (.event c) d =
    sendIrq (rget d ⟨.RING_IRQ_VEC_EQ, c, 0, 0⟩) (setCtx d c { getCtx d c with irqEqAt := some e.clk.ns, irqEq := false }) :=
  if_pos howed

theorem holdoffEnds_of_drain (howed : d.irqLog = true) : holdoffEnds e .drain d =
    sendIrq (rget d ⟨.LOG_IRQ_VEC, 0, 0, 0⟩) { d with irqLogAt := some e.clk.ns, irqLog := false } := if_pos howed

end

theorem irqHoldoffExpire_gives {s : State} {r : IrqSource} (hok : irqSourceOk r = true) (hr : Runs s) :
    Gives (.irqHoldoffExpire r) s (holdoffEnds s.env r s.dev) :=
  gives_of_act (f := fun e d => holdoffEnds e r d) rfl hok hr

/-- Settles O26: RING_EN set, cleared and refused both ways, the consumer indices, and the owed messages. -/
theorem ringRegisterWritesAreJudged : Obligations.RingRegisterWritesAreJudged := by
  intro s c v x get new used refused zeroed drained enabled hc hs
  have hc8 : decide (c < 8) = true := decide_eq_true hc
  have hen : Gives (.ringEn c v) s (writeRingEn s.env c v.toNat s.dev) :=
    gives_of_actT (f := fun e d => writeRingEn e c v.toNat d) rfl hc8 hs
  have hcq : Gives (.ringCqCons c v) s (writeCons s.env .RING_CQ_PROD .RING_CQ_CONS c 0x28 v.toNat s.dev) :=
    gives_of_actT (f := fun e d => writeCons e .RING_CQ_PROD .RING_CQ_CONS c 0x28 v.toNat d) rfl hc8 hs
  have heq : Gives (.ringEqCons c v) s (writeCons s.env .RING_EQ_PROD .RING_EQ_CONS c 0x38 v.toNat s.dev) :=
    gives_of_actT (f := fun e d => writeCons e .RING_EQ_PROD .RING_EQ_CONS c 0x38 v.toNat d) rfl hc8 hs
  refine ⟨fun hv hoff hok => ?_, fun hv hon hok => ?_, fun hv hoff hno => ?_, fun hv hon hno => ?_,
    fun htaken => ?_, fun hover => ?_, fun htaken => ?_, fun hover => ?_, fun howed => ?_, fun howed => ?_, fun howed => ?_⟩
  · subst hv
    exact gives_congr hen ((writeRingEn_of_set s.env hoff hok).trans (enableRing_eq c s.dev))
  · subst hv
    exact gives_congr hen (writeRingEn_of_clear s.env hon hok)
  · exact gives_congr hen (writeRingEn_of_set_refused s.env hv hoff hno)
  · exact gives_congr hen (writeRingEn_of_clear_refused s.env hv hon hno)
  · exact gives_congr hcq (writeCons_of_taken s.env htaken)
  · exact gives_congr hcq (writeCons_of_refused s.env hover)
  · exact gives_congr heq (writeCons_of_taken s.env htaken)
  · exact gives_congr heq (writeCons_of_refused s.env hover)
  · exact gives_congr (irqHoldoffExpire_gives hc8 hs.1) (holdoffEnds_of_completion s.env howed)
  · exact gives_congr (irqHoldoffExpire_gives hc8 hs.1) (holdoffEnds_of_event s.env howed)
  · exact gives_congr (irqHoldoffExpire_gives rfl hs.1) (holdoffEnds_of_drain s.env howed)

end Sys2Proof.Machine
end

section
/-! SUPPORT. Queue pairs and their enables (R268, R270, R274, R280, R281), ports, frames and flow control (R279, R281, R390). -/

namespace Sys2Proof.Machine

section
variable {d : Dev} {port v : Nat}

theorem ethDoorbell_of_ahead (hen : rget d ⟨.ETH_QP_EN, port, bitsOf v 25 16, 0⟩ = 1)
    (hahead : ringUsed (getQp d port (bitsOf v 25 16)).prod (getQp d port (bitsOf v 25 16)).cons <
      ringUsed (bitsOf v 15 0) (getQp d port (bitsOf v 25 16)).cons)
    (hroom : ringUsed (bitsOf v 15 0) (getQp d port (bitsOf v 25 16)).cons ≤
      2 ^ rget d ⟨.ETH_QP_SQ_LOG2, port, bitsOf v 25 16, 0⟩ - 1) :
    ethDoorbell port v d =
      setQp port (bitsOf v 25 16) { getQp d port (bitsOf v 25 16) with prod := bitsOf v 15 0 } d := by
  refine if_neg ?_
  rintro (hoff | hbehind | hfull)
  · exact absurd (hoff.symm.trans hen) (by decide)
  · exact Nat.not_lt.2 hbehind hahead
  · exact Nat.not_lt.2 hroom hfull

/-! The word of ETH_QP_EN, for the queue pair that is selected. -/

/-- The fields of the word stored. -/
def qpWord (port qp v : Nat) (d : Dev) : Dev :=
  let put (r : Reg) (x : Nat) (d : Dev) : Dev := rset d ⟨r, port, qp, 0⟩ x
  put .ETH_QP_EN (b2n (bitOf v 16)) (put .ETH_QP_NVME (b2n (bitOf v 17))
    (put .ETH_QP_CQ_LOG2 (bitsOf v 12 8) (put .ETH_QP_SQ_LOG2 (bitsOf v 4 0) d)))

theorem seq0_qpWord (qp : Nat) (d : Dev) :
    rget (qpWord port qp v d) ⟨.ETH_QP_SEQ0, port, qp, 0⟩ = rget d ⟨.ETH_QP_SEQ0, port, qp, 0⟩ := by
  simp [qpWord, rget_rset]

section
variable {qp : Nat} (e : Env) (hsel : rget d ⟨.ETH_QP_SEL, port, 0, 0⟩ = qp)

theorem writeQpEn_of_size (hsize : (log2Ok (bitsOf v 4 0) && log2Ok (bitsOf v 12 8)) = false) :
    writeQpEn e port v d = regAccess e (ethOff port 0x24) true d := by
  simp only [writeQpEn, hsize, Bool.not_false, if_true]

variable (hsq : log2Ok (bitsOf v 4 0) = true) (hcq : log2Ok (bitsOf v 12 8) = true)
include hsel hsq hcq

theorem writeQpEn_of_clears (hon : rget d ⟨.ETH_QP_EN, port, qp, 0⟩ = 1) (hclear : bitOf v 16 = false) :
    writeQpEn e port v d = rset d ⟨.ETH_QP_EN, port, qp, 0⟩ 0 := by
  subst hsel
  simp only [writeQpEn, qget, pget, hsq, hcq, hon, hclear, Bool.and_self, Bool.not_true, Bool.false_eq_true, if_false, if_true]

/-- A queue pair that is not enabled takes the fields of the word, and with the enable starts anew. -/
theorem writeQpEn_of_off (hoff : rget d ⟨.ETH_QP_EN, port, qp, 0⟩ = 0) : writeQpEn e port v d =
    if bitOf v 16 then
      setQp port qp { expect := rget d ⟨.ETH_QP_SEQ0, port, qp, 0⟩ } (rset (qpWord port qp v d) ⟨.ETH_QP_CQ_CONS, port, qp, 0⟩ 0)
    else qpWord port qp v d := by
  rw [← seq0_qpWord qp d (v := v)]
  subst hsel
  simp only [writeQpEn, qget, pget, hsq, hcq, hoff, Bool.and_self, Bool.not_true, Bool.false_eq_true, if_false, Nat.zero_ne_one]
  rfl

end

end

/-! The end of a work request. -/

section
variable {d : Dev} {port qp seq : Nat} {f : Wr}

/-- The record of a request that ended, at the producer's entry of its pair's completion ring. -/
def requestEnded (e : Env) (port qp seq : Nat) (f : Wr) (q : Qp) (ended : Nat × Nat × Dev) : Dev :=
  let r : Done := { seq := seq, outcome := if ended.1 = 0 then 0 else 2, cause := ended.1, aux := ended.2.1, ft := e.clk.ft,
                    rc := ended.2.2.rc }
  hostWrite e (ringAddr (rget ended.2.2 ⟨.ETH_QP_CQ, port, qp, 0⟩) (rget ended.2.2 ⟨.ETH_QP_CQ_LOG2, port, qp, 0⟩) 32 q.cqProd)
    (leBytes (cqImage q.cseq r) 32)
    (setQp port qp { q with flights := q.flights.erase f, cqProd := (q.cqProd + 1) % 65536, cseq := (q.cseq + 1) % 2 ^ 32 }
      ended.2.2)

theorem requestEnds_of_room (e : Env) (o : WrEnd) (hf : (getQp d port qp).flights.find? (fun y => y.seq = seq) = some f)
    (hroom : qpRoom d port qp ≠ 0) :
    requestEnds e port qp seq o d = requestEnded e port qp seq f (getQp d port qp) (wrOutcome e port f o d) := by
  simp only [requestEnds, hf, if_neg hroom]
  rfl

end

/-! Ports. -/

theorem portTrained_of_waits {d : Dev} {port : Nat} (hmask : d.ethMask.testBit port = true)
    (hstate : rget d ⟨.ETH_PORT_STATE, port, 0, 0⟩ ≤ 1) (hclock : rget d ⟨.CLK_DOM_STATE, 7, 0, 0⟩ ≠ 3) :
    portTrained port d = rset d ⟨.ETH_PORT_STATE, port, 0, 0⟩ 2 := if_pos ⟨hmask, hstate, hclock⟩

/-- Priority q of a port is paused until u. -/
def pausePrio (port u : Nat) (d : Dev) (q : Nat) : Dev := { d with pfc := tblSet (fun k => k) d.pfc (port * 8 + q) u 0 }

section
variable {port u : Nat} (qs : List Nat)

theorem pausePrios_keep (d : Dev) : qs.foldl (pausePrio port u) d = { d with pfc := (qs.foldl (pausePrio port u) d).pfc } := by
  induction qs generalizing d with
  | nil => rfl
  | cons q qs ih => exact ih (pausePrio port u d q)

theorem tblGet_pausePrios (d : Dev) (k : Nat) : tblGet (qs.foldl (pausePrio port u) d).pfc k 0 =
    if qs.any (fun q => k = port * 8 + q) then u else tblGet d.pfc k 0 := by
  induction qs generalizing d with
  | nil => rfl
  | cons q qs ih =>
    rw [List.foldl_cons, ih, pausePrio, tblGet_tblSet, List.any_cons]
    by_cases hlater : qs.any (fun q => k = port * 8 + q) = true
    · simp [hlater]
    · by_cases hq : k = port * 8 + q <;> simp [hlater, hq]

end

/-- The priorities that both words name, one by one. -/
theorem any_onesOf_and (a b w : Nat) (p : Nat → Bool) :
    (onesOf (a &&& b) w).any p = (List.range w).any (fun n => p n && a.testBit n && b.testBit n) := by
  rw [onesOf, List.any_filter]
  congr 1
  funext n
  rw [Nat.testBit_and, Bool.and_comm, Bool.and_assoc]

/-- Settles O28: doorbell, the word of ETH_QP_EN in its four cases, the end of a request, and what a port passes. -/
theorem queuePairsAndPorts : Obligations.QueuePairsAndPorts := by
  intro s port qp seq o v frame prios quanta f bell q idx ahead sel put word x ended r at_ passed until_ hport hs
  have hp4 : decide (port < 4) = true := decide_eq_true hport
  have hr : Runs s := hs.1
  have hen : Gives (.ethQpEn port v) s (writeQpEn s.env port v.toNat s.dev) :=
    gives_of_actT (f := fun e d => writeQpEn e port v.toNat d) rfl hp4 hs
  refine ⟨fun hon hahead hroom => ?_, fun hoff hsq hcq hset => ?_, fun hoff hsq hcq hset => ?_, fun hon hsq hcq hclear => ?_,
    fun hsize => ?_, fun hqp hf hroom => ?_, fun hmask hstate hclock => ?_, fun hup hfits => ?_, fun hsends hfits => ?_,
    fun hup => ?_⟩
  · exact gives_congr (gives_of_actT (f := fun _ d => ethDoorbell port v.toNat d) rfl hp4 hs)
      (ethDoorbell_of_ahead hon hahead hroom)
  · have hgives := gives_congr hen ((writeQpEn_of_off s.env rfl hsq hcq hoff).trans (if_pos hset))
    exact ⟨_, exec_of_unrecorded hgives rfl, rfl, rfl⟩
  · exact gives_congr hen ((writeQpEn_of_off s.env rfl hsq hcq hoff).trans (if_neg (Bool.eq_false_iff.1 hset)))
  · exact gives_congr hen (writeQpEn_of_clears s.env rfl hsq hcq hon hclear)
  · exact gives_congr hen (writeQpEn_of_size s.env hsize)
  · exact gives_congr (gives_of_act (f := fun e d => requestEnds e port qp seq o d) rfl (by simp [hport, hqp]) hr)
      (requestEnds_of_room s.env o hf hroom)
  · exact gives_congr (gives_of_act (f := fun _ d => portTrained port d) rfl hp4 hr) (portTrained_of_waits hmask hstate hclock)
  · exact gives_congr (gives_of_act (f := fun e d => if portUp d port && frameFits d port frame then
      passFrame e port true frame d else d) rfl hp4 hr) (if_pos (by simp [hup, frameFits, pget, hfits]))
  · exact gives_congr (gives_of_act (f := fun e d => if portSends d port && frameFits d port frame then
      passFrame e port false frame d else d) rfl hp4 hr) (if_pos (by simp [hsends, frameFits, pget, hfits]))
  · have hpauses := pausePrios_keep (port := port) (u := until_) (onesOf (prios.toNat &&& pget s.dev .ETH_PFC_EN port) 8) s.dev
    have hgives : Gives (.priorityFlowControlRx port prios quanta) s _ := gives_congr
      (gives_of_act (f := fun e d => if portUp d port then pauseFrame e port prios.toNat quanta d else d) rfl hp4 hr)
      ((if_pos hup).trans hpauses)
    refine ⟨_, exec_of_unrecorded hgives rfl, rfl, fun k => ?_⟩
    have hreads := tblGet_pausePrios (port := port) (u := until_) (onesOf (prios.toNat &&& pget s.dev .ETH_PFC_EN port) 8) s.dev k
    rw [any_onesOf_and] at hreads
    exact hreads

end Sys2Proof.Machine
end

section
/-! SUPPORT. From reset to service (R388, R390, R400) and the UCIe modules (R264): what each report gives. -/

namespace Sys2Proof.Machine

/-! Verification of the firmware slots. -/

/-- The conditions of R388 and R398 under which a firmware slot passes. -/
theorem slotPasses_iff (nv : NonVol) (n : Nat) : slotPasses nv n = true ↔
    (fwSlot nv n).present = true ∧ nv.arbCount ≤ (fwSlot nv n).svn ∧ nv.arbCount ≤ (fwSlot nv n).maxArb ∧
      nv.arbCount ≤ nv.rootRec.maxArb ∧ nv.rootRec.selfSigned = true ∧
      keyHash nv.rootRec.modulus = leBytes nv.rootHash 32 := by
  have hkey : (rootKey nv).isSome = true ↔
      nv.rootRec.selfSigned = true ∧ keyHash nv.rootRec.modulus = leBytes nv.rootHash 32 := by
    unfold rootKey fuseBytes
    split <;> simp_all
  simp only [slotPasses, rootMeets, Bool.and_eq_true, decide_eq_true_eq, hkey, and_assoc]

/-- In ROM the slots' verdicts decide (R388). -/
theorem bootVerified_of_rom {e : Env} {d : Dev} (hrom : rget d ⟨.CFG_STATE, 0, 0, 0⟩ = 0) : bootVerified e d =
    if slotPasses e.nv e.nv.bootSlot then startCores e e.nv.bootSlot (identityShown e.nv d)
    else if slotPasses e.nv (1 - e.nv.bootSlot) then
      startCores e (1 - e.nv.bootSlot) (sset .SEC_FW_REVERTED 1 (identityShown e.nv d))
    else
      let d := sset .CFG_STATE 4 (identityShown e.nv d)
      { d with pins := { d.pins with fault := true, alert := true } } := if_neg (not_not.2 hrom)

theorem identityMade_of_none {s : State} {modulus : Nat} (hr : Runs s) (hnone : s.nv.idModulus = 0)
    (hlow : 2 ^ 3071 ≤ modulus) (hhigh : modulus < 2 ^ 3072) (signer cert : List Byte) :
    identityMade modulus signer cert s =
      { s with
        nv := { s.nv with idModulus := modulus, idSealed := true, idSigner := signer, idCert := cert }
        dev := identityShown { s.nv with idModulus := modulus, idSealed := true, idSigner := signer, idCert := cert } s.dev } :=
  if_pos ⟨hr, hnone, hlow, hhigh⟩

theorem identityMade_of_some {s : State} (hsome : s.nv.idModulus ≠ 0) (modulus : Nat) (signer cert : List Byte) :
    identityMade modulus signer cert s = s := if_neg (fun ⟨_, hnone, _, _⟩ => hsome hnone)

/-- A bit that is not as it is to be turns. -/
theorem putBit_of_ne {v n : Nat} {on : Bool} (h : v.testBit n ≠ on) : putBit v n on = v ^^^ 2 ^ n := if_neg h

/-! Self-tests. -/

section
variable {e : Env} {d : Dev} (hserves : tabokRuns d = true)
include hserves

section
variable {p : Nat} (huntested : rget d ⟨.TILE_STATE, p, 0, 0⟩ = 0)
include huntested

theorem tileTested_passed : tileTested e p true d = rset (zeroTile p d) ⟨.TILE_STATE, p, 0, 0⟩ 1 := by
  simp [tileTested, readying, hserves, huntested]

theorem tileTested_failed : tileTested e p false d =
    logError e { cls := 0x0705, level := 3, index := p, syn := p } (rset d ⟨.TILE_STATE, p, 0, 0⟩ 4) := by
  simp [tileTested, readying, hserves, huntested]

end

theorem colTested_of_serves : colTested d = rset d ⟨.CFG_RDY_COL, 0, 0, 0⟩ 1 := if_pos hserves

/-! A UCIe module that is neither up nor disabled ends its training. -/

section
variable {m : Nat} (hoff : (rget d ⟨.CFG_UCIE_OFF, 0, 0, 0⟩).testBit m = false)
  (hup : (rget d ⟨.CFG_UCIE_UP, 0, 0, 0⟩).testBit m = false)
include hoff hup

theorem ucieTrained_of_untrained (ok : Bool) : ucieTrained e m ok d =
    if ok then
      rset { d with ucieRetrain := putBit d.ucieRetrain m false, ucieFails := tblSet (fun k => k) d.ucieFails m 0 0 }
        ⟨.CFG_UCIE_UP, 0, 0, 0⟩ (putBit (rget d ⟨.CFG_UCIE_UP, 0, 0, 0⟩) m true)
    else if d.ucieRetrain.testBit m then
      if tblGet d.ucieFails m 0 + 1 < 3 then
        { d with ucieFails := tblSet (fun k => k) d.ucieFails m (tblGet d.ucieFails m 0 + 1) 0 }
      else ucieOff e m { d with ucieFails := tblSet (fun k => k) d.ucieFails m (tblGet d.ucieFails m 0 + 1) 0 }
    else ucieOff e m d := by
  refine if_neg ?_
  rintro (hstill | hbit | hbit)
  · exact absurd (hstill.symm.trans hserves) (by decide)
  · exact absurd (hoff.symm.trans hbit) (by decide)
  · exact absurd (hup.symm.trans hbit) (by decide)

theorem ucieTrained_up : ucieTrained e m true d =
    rset { d with ucieRetrain := putBit d.ucieRetrain m false, ucieFails := tblSet (fun k => k) d.ucieFails m 0 0 }
      ⟨.CFG_UCIE_UP, 0, 0, 0⟩ (rget d ⟨.CFG_UCIE_UP, 0, 0, 0⟩ ^^^ 2 ^ m) := by
  rw [ucieTrained_of_untrained hserves hoff hup, if_pos rfl, putBit_of_ne (Bool.eq_false_iff.1 hup)]

theorem ucieTrained_first_failed (hfirst : d.ucieRetrain.testBit m = false) : ucieTrained e m false d = ucieOff e m d := by
  rw [ucieTrained_of_untrained hserves hoff hup, if_neg (by decide), hfirst, if_neg (by decide)]

theorem ucieTrained_again_failed (hagain : d.ucieRetrain.testBit m = true) : ucieTrained e m false d =
    if tblGet d.ucieFails m 0 + 1 < 3 then
      { d with ucieFails := tblSet (fun k => k) d.ucieFails m (tblGet d.ucieFails m 0 + 1) 0 }
    else ucieOff e m { d with ucieFails := tblSet (fun k => k) d.ucieFails m (tblGet d.ucieFails m 0 + 1) 0 } := by
  rw [ucieTrained_of_untrained hserves hoff hup, if_neg (by decide), if_pos hagain]

end

end

/-! Flits on a UCIe module. -/

/-- The replays of the last microsecond, with the one at hand (R264). -/
def recentReplays (e : Env) (m : Nat) (d : Dev) : List (Nat × Nat) :=
  d.ucieReplays.filter (fun x => e.clk.ns < x.2 + 1000) ++ [(m, e.clk.ns)]

section
variable {e : Env} {d : Dev} {m : Nat}

theorem ucieFlit_of_good : ucieFlit e m true d = d := if_pos (.inl rfl)

variable (hup : (rget d ⟨.CFG_UCIE_UP, 0, 0, 0⟩).testBit m = true)
include hup

theorem ucieFlit_of_bad : ucieFlit e m false d =
    if ((recentReplays e m d).filter (fun x => x.1 = m)).length ≤ 16 then { d with ucieReplays := recentReplays e m d }
    else rset { d with ucieReplays := (recentReplays e m d).filter (fun x => x.1 ≠ m), ucieRetrain := putBit d.ucieRetrain m true }
      ⟨.CFG_UCIE_UP, 0, 0, 0⟩ (rget d ⟨.CFG_UCIE_UP, 0, 0, 0⟩ ^^^ 2 ^ m) := by
  have htaken : ¬ (false = true ∨ (sget d .CFG_UCIE_UP).testBit m = false) := by simpa [sget] using hup
  have hcleared : putBit (sget d .CFG_UCIE_UP) m false = sget d .CFG_UCIE_UP ^^^ 2 ^ m :=
    putBit_of_ne (Bool.ne_false_iff.2 hup)
  unfold ucieFlit
  rw [if_neg htaken, hcleared]
  rfl

end

theorem fwAlive_of_boot {e : Env} {d : Dev} (hboot : rget d ⟨.CFG_STATE, 0, 0, 0⟩ = 1) (hwait : d.fwWait = 0) :
    fwAlive e d = (e.nv, stageBlock e.nv.cfgBlock (rset d ⟨.CFG_STATE, 0, 0, 0⟩ 2)) := by
  have hstate : cfgState d = 1 := hboot
  simp [fwAlive, hwait, hstate, sset]

section
variable {s : State} {m : Nat} (hm : m < 8)
include hm

theorem ucieModuleTrainEnd_gives (hr : Runs s) (ok : Bool) :
    Gives (.ucieModuleTrainEnd m ok) s (ucieTrained s.env m ok s.dev) :=
  gives_of_act (f := fun e d => ucieTrained e m ok d) rfl (decide_eq_true hm) hr

theorem ucieFlitRx_gives (hr : Runs s) (ok : Bool) : Gives (.ucieFlitRx m ok) s (ucieFlit s.env m ok s.dev) :=
  gives_of_act (f := fun e d => ucieFlit e m ok d) rfl (decide_eq_true hm) hr

end

theorem tileSelfTestDone_gives {s : State} {p : Nat} (hp : p < 1440) (hr : Runs s) (ok : Bool) :
    Gives (.tileSelfTestDone p ok) s (tileTested s.env p ok s.dev) :=
  gives_of_act (f := fun e d => tileTested e p ok d) rfl (decide_eq_true hp) hr

/-- Settles O51: the slots' verdicts, the identity key, the self-tests, a module's training and flits, and the firmware alive. -/
theorem bootBringsTheModuleToService : Obligations.BootBringsTheModuleToService := by
  intro s p m key signer cert e d get put slot shown booted failed made passes tile untrained fails recent mine hr hp hm
  have hboot : Gives .bootVerifyDone s (bootVerified s.env s.dev) := gives_of_act (f := bootVerified) rfl rfl hr
  have hpass (n : Nat) : slotPasses s.nv n = true ↔ passes n := slotPasses_iff s.nv n
  have htrain := ucieModuleTrainEnd_gives hm hr
  have hflit := ucieFlitRx_gives hm hr
  refine ⟨fun hrom hgood => ?_, fun hrom hbad hgood => ?_, fun hrom hbad hbad' => ?_, fun hnone hlow hhigh => ?_,
    fun hsome => ?_, fun hs huntested => ?_, fun hs => ?_, fun hs ⟨hoff, hup⟩ => ?_, fun hs ⟨hoff, hup⟩ hfirst => ?_,
    fun hs ⟨hoff, hup⟩ hagain hfew => ?_, fun hs ⟨hoff, hup⟩ hagain hmany => ?_, ?_, fun hup hfew => ?_, fun hup hmany => ?_,
    fun hstate hwait => ?_⟩
  · exact gives_congr hboot ((bootVerified_of_rom hrom).trans (if_pos ((hpass slot).2 hgood)))
  · exact gives_congr hboot ((bootVerified_of_rom hrom).trans
      ((if_neg (mt (hpass slot).1 hbad)).trans (if_pos ((hpass (1 - slot)).2 hgood))))
  · exact gives_congr hboot ((bootVerified_of_rom hrom).trans
      ((if_neg (mt (hpass slot).1 hbad)).trans (if_neg (mt (hpass (1 - slot)).1 hbad'))))
  · exact congrArg Host.Outcome.next (identityMade_of_none hr hnone hlow hhigh signer cert)
  · exact congrArg Host.Outcome.next (identityMade_of_some hsome key signer cert)
  · have htest := tileSelfTestDone_gives hp hr
    exact ⟨gives_congr (htest true) (tileTested_passed hs.2 huntested), gives_congr (htest false) (tileTested_failed hs.2 huntested)⟩
  · exact gives_congr (gives_of_act (f := fun _ d => colTested d) rfl rfl hr) (colTested_of_serves hs.2)
  · exact gives_congr (htrain true) (ucieTrained_up hs.2 hoff hup)
  · exact gives_congr (htrain false) (ucieTrained_first_failed hs.2 hoff hup hfirst)
  · exact gives_congr (htrain false) ((ucieTrained_again_failed hs.2 hoff hup hagain).trans (if_pos hfew))
  · exact gives_congr (htrain false) ((ucieTrained_again_failed hs.2 hoff hup hagain).trans (if_neg (Nat.not_lt.2 hmany)))
  · exact gives_congr (hflit true) ucieFlit_of_good
  · exact gives_congr (hflit false) ((ucieFlit_of_bad hup).trans (if_pos hfew))
  · exact gives_congr (hflit false) ((ucieFlit_of_bad hup).trans (if_neg (Nat.not_le.2 hmany)))
  · have hs : Serves s := ⟨hr, by simp [tabokRuns, show rget s.dev ⟨.CFG_STATE, 0, 0, 0⟩ = 1 from hstate]⟩
    have halive := actTNv_of_serves hs (fun e d => fwAlive e d)
    rw [fwAlive_of_boot hstate hwait] at halive
    exact halive

end Sys2Proof.Machine
end

section
/-! SUPPORT. Monitors and their words (R415, R416, R418, R424), snapshots (R420), and the drain of the trouble log (R422, R423,
R427). -/

namespace Sys2Proof.Machine

section
variable {e : Env} {d : Dev}

theorem monSample_of_oldest {x : Sample} {xs : List Sample} (h : d.samples = x :: xs) :
    monSample e d = (List.range 64).foldl (monEvent e x) { d with samples := xs } := by
  simp only [monSample, h]

/-- The words of the monitors' blocks lie in the window (R266, R424). -/
theorem monWord_ok {m off : Nat} (hm : m < 64) (halign : off % 4 = 0) (hoff : off < 0x100) :
    offsetOk (0x600000 + 0x100 * m + off) = true := by
  refine (offsetOk_iff _).2 ⟨by omega, ?_⟩
  refine List.any_eq_true.2 ⟨(0x600000, 0x80000), by decide, ?_⟩
  simp only [Bool.and_eq_true, decide_eq_true_eq]
  omega

/-! A snapshot is latched, or missed. -/

section
variable {action : Nat} (hframes : rget d ⟨.MON_SNAP_FRAMES, 0, 0, 0⟩ ≠ 0)
include hframes

theorem takeSnapshot_of_latches (hfree : d.snap = none) :
    let num := rget d ⟨.MON_SNAP_COUNT, 0, 0, 0⟩
    let latched : Dev := { d with snap := some ⟨num, snapFrame e action num d⟩ }
    takeSnapshot e action d =
      if rget d ⟨.MON_SNAP_CLEAR, 0, 0, 0⟩ = 1 then (monsOn latched).foldl (fun d m => monClear m d) latched else latched := by
  simp only [takeSnapshot, if_neg hframes, hfree, Option.isSome_none, Bool.false_eq_true, if_false]
  rfl

theorem takeSnapshot_of_waits (hwaits : d.snap ≠ none) :
    takeSnapshot e action d = satAdd e ⟨.MON_SNAP_MISSED, 0, 0, 0⟩ 1 d := by
  simp only [takeSnapshot, if_neg hframes, Option.isSome_iff_ne_none.2 hwaits, if_true]

end

/-! The oldest record is copied out. -/

theorem length_drainEntry (lost : Nat) (r : LogEnt) : (drainEntry e lost r).length = 128 := by
  rw [drainEntry, List.length_append, length_leBytes, length_leBytes]

/-- The record's entry is in the drain ring's memory, and the record is marked as copied. -/
def drainPut (e : Env) (a : Nat) (r : LogEnt) (d : Dev) : Dev :=
  { d with
    log := d.log.map (fun y => if y.index = r.index then { y with copied := true } else y)
    logLost := 0
    lp := memWrite d.lp a (drainEntry e d.logLost r) }

theorem drainCopy_of_room {r : LogEnt} (hr : logOldest d = some r) (hon : rget d ⟨.LOG_DRAIN_EN, 0, 0, 0⟩ = 1)
    (hfree : drainFree d ≠ 0)
    (hin : ringAddr (gget d .LOG_RING_BASE) (gget d .LOG_RING_LOG2) 128 (gget d .LOG_RING_PROD) + 128 ≤ 2 ^ 36) :
    drainCopy e d = irqDrain e (rset
      (drainPut e (ringAddr (gget d .LOG_RING_BASE) (gget d .LOG_RING_LOG2) 128 (gget d .LOG_RING_PROD)) r d)
      ⟨.LOG_RING_PROD, 0, 0, 0⟩ (gget d .LOG_RING_PROD + 1)) := by
  have hwrites : ¬ (gget d .LOG_DRAIN_EN = 0 ∨ drainFree d = 0) := by
    rw [show gget d .LOG_DRAIN_EN = 1 from hon]; simpa using hfree
  have hbytes := hostWrite_inTabok (e := e) (bs := drainEntry e d.logLost r)
    (a := ringAddr (gget d .LOG_RING_BASE) (gget d .LOG_RING_LOG2) 128 (gget d .LOG_RING_PROD))
    (d := { d with log := d.log.map (fun y => if y.index = r.index then { y with copied := true } else y), logLost := 0 })
    (by rw [length_drainEntry]; exact hin)
  simp only [drainCopy, hr, if_neg hwrites]
  exact congrArg (fun x => irqDrain e (rset x ⟨.LOG_RING_PROD, 0, 0, 0⟩ _)) hbytes

/-! The word of LOG_DRAIN_EN, field by field (notes/assumptions/77.md). -/

/-- The two enables of the word are taken. -/
def drainEnables (v : Nat) (d : Dev) : Dev :=
  rset (rset d ⟨.LOG_IRQ_EN, 0, 0, 0⟩ (b2n (bitOf v 9))) ⟨.LOG_DRAIN_EN, 0, 0, 0⟩ (b2n (bitOf v 8))

section
variable {v : Nat}

theorem writeDrain_of_range (hl : bitsOf v 4 0 < 6 ∨ 16 < bitsOf v 4 0) :
    writeDrain e v d = regAccess e (logOff .LOG_DRAIN_EN) true d := if_pos hl

variable (hlow : 6 ≤ bitsOf v 4 0) (hhigh : bitsOf v 4 0 ≤ 16)
include hlow hhigh

/-- With copying off, the length is taken, and the enable puts the indices to 0. -/
theorem writeDrain_of_off (hoff : rget d ⟨.LOG_DRAIN_EN, 0, 0, 0⟩ = 0) : writeDrain e v d =
    drainEnables v (if bitOf v 8 then
      rset (rset (rset d ⟨.LOG_RING_LOG2, 0, 0, 0⟩ (bitsOf v 4 0)) ⟨.LOG_RING_CONS, 0, 0, 0⟩ 0) ⟨.LOG_RING_PROD, 0, 0, 0⟩ 0
      else rset d ⟨.LOG_RING_LOG2, 0, 0, 0⟩ (bitsOf v 4 0)) := by
  have hrange : ¬ (bitsOf v 4 0 < 6 ∨ 16 < bitsOf v 4 0) := by omega
  simp only [writeDrain, if_neg hrange, show gget d .LOG_DRAIN_EN = 0 from hoff, if_true, true_and]
  rfl

/-- With copying on, only the enables are taken, and another length is recorded. -/
theorem writeDrain_of_on (hon : rget d ⟨.LOG_DRAIN_EN, 0, 0, 0⟩ = 1) : writeDrain e v d =
    drainEnables v (if bitsOf v 4 0 = rget d ⟨.LOG_RING_LOG2, 0, 0, 0⟩ then d
      else regAccess e (logOff .LOG_DRAIN_EN) true d) := by
  have hrange : ¬ (bitsOf v 4 0 < 6 ∨ 16 < bitsOf v 4 0) := by omega
  simp only [writeDrain, if_neg hrange, show gget d .LOG_DRAIN_EN = 1 from hon, Nat.one_ne_zero, false_and, if_false]
  rfl

end

theorem writeDrainCons_eq {v : Nat} {taken : Bool}
    (hcons : consOk (rget d ⟨.LOG_RING_PROD, 0, 0, 0⟩) (rget d ⟨.LOG_RING_CONS, 0, 0, 0⟩) (bitsOf v 31 16) = taken) :
    writeDrainCons e v d =
      if taken then rset d ⟨.LOG_RING_CONS, 0, 0, 0⟩ (bitsOf v 31 16) else regAccess e (logOff .LOG_RING_CONS) true d := by
  subst hcons
  rfl

end

theorem monConfigWrite_of_serves {s : State} (hs : Serves s) {m off : Nat} (hm : m < 64) (halign : off % 4 = 0)
    (hoff : off < 0x100) (v : Word) : exec (.monConfigWrite m off v) s = .next { s with
      nv := (writeListed s.env (0x600000 + 0x100 * m + off) v.toNat [] s.dev).1
      dev := inCycle s.dev (writeListed s.env (0x600000 + 0x100 * m + off) v.toNat [] s.dev).2 } := by
  have hact := actTNv_of_serves hs (fun e d => writeWord e (0x600000 + 0x100 * m + off) 4 v.toNat d)
  rw [writeWord_of_ok _ _ _ ⟨monWord_ok hm halign hoff, rfl⟩] at hact
  exact (if_pos hm).trans hact

/-- Settles O56: samples, clears and words of the monitors, the two ends of a snapshot, a copy, and the words of the drain ring. -/
theorem monitorsAndTheLogDrain : Obligations.MonitorsAndTheLogDrain := by
  intro s m off v x xs r e d get put refused latched word prod a copied l enables cons hr hm
  have hm64 : decide (m < 64) = true := decide_eq_true hm
  have hsnap (hs : Serves s) : Gives .monSnapGo s (takeSnapshot s.env 0 s.dev) :=
    gives_of_actT (f := fun e d => takeSnapshot e 0 d) rfl rfl hs
  have hdrain (hs : Serves s) : Gives (.logDrainEn v) s (writeDrain s.env v.toNat s.dev) :=
    gives_of_actT (f := fun e d => writeDrain e v.toNat d) rfl rfl hs
  have hringCons (hs : Serves s) : Gives (.logRingCons v) s (writeDrainCons s.env v.toNat s.dev) :=
    gives_of_actT (f := fun e d => writeDrainCons e v.toNat d) rfl rfl hs
  refine ⟨fun hx => ?_, fun hs => ?_, fun hs => ?_, fun hs halign hoff => ?_, fun hs hframes hfree hkeep => ?_,
    fun hs hframes hfree hclear => ?_, fun hs hframes hwaits => ?_, fun hold hon hfree hin => ?_, fun hs hl => ?_,
    fun hs hlow hhigh hoff hset => ?_, fun hs hlow hhigh hoff hset => ?_, fun hs hlow hhigh hon hsame => ?_,
    fun hs hlow hhigh hon hother => ?_, fun hs htaken => ?_, fun hs hrefused => ?_⟩
  · exact gives_congr (gives_of_act (f := monSample) rfl rfl hr) (monSample_of_oldest hx)
  · exact gives_congr (gives_of_act (f := fun e d => if tabokRuns d then (List.range 64).foldl (monPeriodic e) d else d)
      rfl rfl hr) (if_pos hs.2)
  · exact gives_of_actT (f := fun _ d => monClear m d) rfl hm64 hs
  · exact monConfigWrite_of_serves hs hm halign hoff v
  · have hno : ¬ rget s.dev ⟨.MON_SNAP_CLEAR, 0, 0, 0⟩ = 1 := fun hclear => Nat.zero_ne_one (hkeep.symm.trans hclear)
    exact gives_congr (hsnap hs) ((takeSnapshot_of_latches hframes hfree).trans (if_neg hno))
  · exact gives_congr (hsnap hs) ((takeSnapshot_of_latches hframes hfree).trans (if_pos hclear))
  · exact gives_congr (hsnap hs) (takeSnapshot_of_waits hframes hwaits)
  · exact gives_congr (gives_of_act (f := drainCopy) rfl rfl hr) (drainCopy_of_room hold hon hfree hin)
  · exact gives_congr (hdrain hs) (writeDrain_of_range hl)
  · exact gives_congr (hdrain hs) ((writeDrain_of_off hlow hhigh hoff).trans (congrArg _ (if_pos hset)))
  · exact gives_congr (hdrain hs) ((writeDrain_of_off hlow hhigh hoff).trans (congrArg _ (if_neg (Bool.eq_false_iff.1 hset))))
  · exact gives_congr (hdrain hs) ((writeDrain_of_on hlow hhigh hon).trans (congrArg _ (if_pos hsame)))
  · exact gives_congr (hdrain hs) ((writeDrain_of_on hlow hhigh hon).trans (congrArg _ (if_neg hother)))
  · exact gives_congr (hringCons hs) (writeDrainCons_eq htaken)
  · exact gives_congr (hringCons hs) (writeDrainCons_eq hrefused)

end Sys2Proof.Machine
end

section
/-! SUPPORT. Packets as bytes (R286, R288): the fields of a structure as its number holds them, and a packet read back from the
start of a packet area. -/

namespace Sys2Proof.Machine

/-! Fields of a structure (R8). -/

theorem packFields_lt (fs : List (Nat × Nat)) : packFields fs < 2 ^ (fs.map Prod.fst).sum := by
  induction fs with
  | nil => simp [packFields]
  | cons f fs ih =>
    have hlow : f.2 % 2 ^ f.1 < 2 ^ f.1 := Nat.mod_lt _ (Nat.two_pow_pos _)
    calc packFields (f :: fs) = f.2 % 2 ^ f.1 + 2 ^ f.1 * packFields fs := rfl
      _ < 2 ^ f.1 * (packFields fs + 1) := by rw [Nat.mul_succ]; omega
      _ ≤ 2 ^ f.1 * 2 ^ (fs.map Prod.fst).sum := Nat.mul_le_mul_left _ ih
      _ = 2 ^ ((f :: fs).map Prod.fst).sum := by rw [List.map_cons, List.sum_cons, Nat.pow_add]

theorem packFields_append (fs gs : List (Nat × Nat)) :
    packFields (fs ++ gs) = packFields fs + 2 ^ (fs.map Prod.fst).sum * packFields gs := by
  induction fs with
  | nil => simp [packFields]
  | cons f fs ih =>
    rw [List.cons_append, packFields, packFields, ih, List.map_cons, List.sum_cons, Nat.pow_add, Nat.mul_add, Nat.mul_assoc,
      Nat.add_assoc]

/-- The lowest field, where it holds its value. -/
theorem bitsOf_packFields_head {w v hi : Nat} (fs : List (Nat × Nat)) (hw : hi + 1 = w) (hv : v < 2 ^ w) :
    bitsOf (packFields ((w, v) :: fs)) hi 0 = v := by
  rw [← hw] at hv ⊢
  rw [bitsOf, packFields, Nat.shiftRight_zero, Nat.sub_zero, Nat.add_mul_mod_self_left, Nat.mod_mod, Nat.mod_eq_of_lt hv]

/-- Bits above the lowest field are those of the fields above it. -/
theorem bitsOf_packFields_tail {w hi lo : Nat} (v : Nat) (fs : List (Nat × Nat)) (hlo : w ≤ lo) (hhi : lo ≤ hi) :
    bitsOf (packFields ((w, v) :: fs)) hi lo = bitsOf (packFields fs) (hi - w) (lo - w) := by
  have hlow : v % 2 ^ w < 2 ^ w := Nat.mod_lt _ (Nat.two_pow_pos _)
  have hshift : packFields ((w, v) :: fs) >>> w = packFields fs := by
    rw [packFields, Nat.shiftRight_eq_div_pow, Nat.add_mul_div_left _ _ (Nat.two_pow_pos w), Nat.div_eq_of_lt hlow, Nat.zero_add]
  rw [bitsOf, bitsOf, ← hshift, ← Nat.shiftRight_add, Nat.add_sub_cancel' hlo, show hi - w + 1 - (lo - w) = hi + 1 - lo by omega]

/-! A packet and its bytes (R288). -/

/-- The fields of a packet fit their widths, and its data are at most 31 units of 16 bytes. -/
def PktFits (p : Pkt) : Prop :=
  p.dst < 2 ^ 16 ∧ p.src < 2 ^ 16 ∧ p.vc < 4 ∧ p.dlc < 2 ∧ p.type < 2 ^ 6 ∧ p.birth < 2 ^ 16 ∧ p.body < 2 ^ 64 ∧
    p.e2e < 2 ^ 32 ∧ p.data.length % 16 = 0 ∧ p.data.length < 512

/-- The fields of the 20 bytes before a packet's data. -/
def pktFields (p : Pkt) : List (Nat × Nat) :=
  [(16, p.dst), (16, p.src), (2, p.vc), (1, p.dlc), (5, p.data.length / 16), (6, p.type), (2, 0), (16, p.birth), (64, p.body),
    (32, p.e2e)]

theorem pktHead_add_e2e {p : Pkt} (he : p.e2e < 2 ^ 32) : pktHead p p.dlc + p.e2e * 2 ^ 128 = packFields (pktFields p) := by
  have h := packFields_append [(16, p.dst), (16, p.src), (2, p.vc), (1, p.dlc), (5, p.data.length / 16), (6, p.type), (2, 0),
    (16, p.birth), (64, p.body)] [(32, p.e2e)]
  have hlast : packFields [(32, p.e2e)] = p.e2e := (Nat.add_zero _).trans (Nat.mod_eq_of_lt he)
  rw [hlast, Nat.mul_comm] at h
  exact h.symm

theorem leNat_pktFields (p : Pkt) : leNat (leBytes (packFields (pktFields p)) 20) = packFields (pktFields p) := by
  have hlt : packFields (pktFields p) < 2 ^ 160 := packFields_lt (pktFields p)
  rw [leNat_leBytes, show 256 ^ 20 = 2 ^ 160 by norm_num, Nat.mod_eq_of_lt hlt]

/-- The packet at the start of an area that begins with a packet's bytes is that packet, and what follows stays. -/
theorem takePkt_pktBytes {p : Pkt} (hp : PktFits p) (rest : List Byte) : takePkt (pktBytes p ++ rest) = (p, rest) := by
  obtain ⟨hdst, hsrc, hvc, hdlc, htype, hbirth, hbody, he2e, hunits, hlen⟩ := hp
  change p.vc < 2 ^ 2 at hvc
  change p.dlc < 2 ^ 1 at hdlc
  have hlenField : p.data.length / 16 < 2 ^ 5 := by omega
  have hdata : 16 * (p.data.length / 16) = p.data.length := by omega
  have hbytes : pktBytes p ++ rest = leBytes (packFields (pktFields p)) 20 ++ (p.data ++ rest) := by
    rw [pktBytes, pktHead_add_e2e he2e, List.append_assoc]
  have htake : (pktBytes p ++ rest).take 20 = leBytes (packFields (pktFields p)) 20 := by
    rw [hbytes, List.take_left' (length_leBytes _ 20)]
  have hdrop : (pktBytes p ++ rest).drop 20 = p.data ++ rest := by rw [hbytes, List.drop_left' (length_leBytes _ 20)]
  unfold takePkt
  dsimp only
  rw [htake, leNat_pktFields, ← List.drop_drop, hdrop]
  simp only [pktFields, bitsOf_packFields_tail, bitsOf_packFields_head, Nat.reduceAdd, Nat.reduceSub, Nat.reduceLeDiff, hdst, hsrc,
    hvc, hdlc, hlenField, htype, hbirth, hbody, he2e, hdata, List.take_left, List.drop_left]

theorem takePkts_pktBytes {ps : List Pkt} (hps : ∀ p ∈ ps, PktFits p) (rest : List Byte) :
    takePkts ps.length (ps.flatMap pktBytes ++ rest) = ps := by
  induction ps with
  | nil => rfl
  | cons p ps ih =>
    obtain ⟨hp, htail⟩ := List.forall_mem_cons.1 hps
    rw [List.flatMap_cons, List.append_assoc, List.length_cons, takePkts, takePkt_pktBytes hp, ih htail]

/-- Settles O40: packet after packet, the 20 bytes of its fields and its data give it back. -/
theorem packetsReadBackFromTheirBytes : Obligations.PacketsReadBackFromTheirBytes :=
  fun _ rest hps => takePkts_pktBytes hps rest

end Sys2Proof.Machine
end

section
/-! SUPPORT. Flits on a link (R285 to R287, R292 to R294, R298): what becomes of a block by its CRC, its kind and its number, what
leaves the receiver's state, and what a link sends. -/

namespace Sys2Proof.Machine

theorem getLink_congr {d d' : Dev} (h : d'.links = d.links) (n : Nat) : getLink d' n = getLink d n := by rw [getLink, h, getLink]

/-! What keeps the links as they are. -/

theorem ownerFailed_links (e : Env) (o : WrOwner) (cause : Nat) (d : Dev) : (ownerFailed e o cause d).links = d.links := by
  unfold ownerFailed
  split
  · unfold writeFailed
    dsimp only
    refine (sameButFail_failWith ..).links.trans ?_
    split <;> rfl
  · rfl

theorem tagFailed_links (e : Env) (t cause : Nat) (d : Dev) : (tagFailed e t cause d).links = d.links := by
  unfold tagFailed
  split
  · exact ownerFailed_links ..
  · exact (sameButLog_satAdd ..).links

theorem discardLink_links (inp : Nat) (q : Queued) (d : Dev) : (discardLink inp q d).2.links = d.links := by
  unfold discardLink someLink takeFree
  dsimp only
  repeat' split
  all_goals rfl

theorem discardPkt_links (e : Env) (inp cause : Nat) (q : Queued) (d : Dev) : (discardPkt e inp cause q d).links = d.links := by
  have hlog (r : Err) : (logError e r (discardLink inp q d).2).links = d.links :=
    (sameButLog_logError e r _).links.trans (discardLink_links inp q d)
  unfold discardPkt
  dsimp only
  split
  · exact hlog _
  · exact (sameButLog_satAdd ..).links.trans (hlog _)

/-! What keeps the number that each link expects (R292). -/

/-- Every link expects the flit that it expected, and rejects flits if it did. -/
structure SameExpected (d d' : Dev) : Prop where
  rxNext : ∀ m, (getLink d' m).rxNext = (getLink d m).rxNext
  rejecting : ∀ m, (getLink d' m).rejecting = (getLink d m).rejecting

theorem SameExpected.refl (d : Dev) : SameExpected d d := ⟨fun _ => rfl, fun _ => rfl⟩

theorem SameExpected.trans {a b c : Dev} (h : SameExpected a b) (k : SameExpected b c) : SameExpected a c :=
  ⟨fun m => (k.rxNext m).trans (h.rxNext m), fun m => (k.rejecting m).trans (h.rejecting m)⟩

theorem SameExpected.of_links {d d' : Dev} (h : d'.links = d.links) : SameExpected d d' :=
  ⟨fun m => by rw [getLink_congr h], fun m => by rw [getLink_congr h]⟩

theorem sameExpected_foldl {α : Type} {f : Dev → α → Dev} (hf : ∀ d a, SameExpected d (f d a)) (l : List α) (d : Dev) :
    SameExpected d (l.foldl f d) := by
  induction l generalizing d with
  | nil => exact .refl d
  | cons a l ih => exact (hf d a).trans (ih _)

theorem sameExpected_updLink (d : Dev) (n : Nat) {f : Link → Link} (hnext : ∀ l, (f l).rxNext = l.rxNext)
    (hrejecting : ∀ l, (f l).rejecting = l.rejecting) : SameExpected d (updLink d n f) := by
  constructor <;> intro m <;> rw [updLink_eq] <;> by_cases hm : m = n
  · subst hm; rw [getLink_setLink_same, hnext]
  · rw [getLink_setLink_ne _ _ hm]
  · subst hm; rw [getLink_setLink_same, hrejecting]
  · rw [getLink_setLink_ne _ _ hm]

theorem sameExpected_freeWords (inp : Nat) (p : Pkt) (d : Dev) : SameExpected d (freeWords inp p d) := by
  unfold freeWords
  split
  · exact sameExpected_updLink d inp (fun _ => rfl) (fun _ => rfl)
  · exact .refl d

theorem sameExpected_injectPkt (e : Env) (via : Option Nat) (p : Pkt) (d : Dev) : SameExpected d (injectPkt e via p d) := by
  unfold injectPkt
  dsimp only
  split
  · split
    · exact .of_links (tagFailed_links ..)
    · exact .of_links (discardPkt_links ..)
  · exact sameExpected_updLink d 36 (fun _ => rfl) (fun _ => rfl)

theorem sameExpected_undeliver (e : Env) (inp cause : Nat) (q : Queued) (d : Dev) :
    SameExpected d (undeliver e inp cause q d) := by
  have hdiscard : SameExpected d (if unsent inp cause q then d else discardPkt e inp cause q d) := by
    split
    · exact .refl d
    · exact .of_links (discardPkt_links ..)
  unfold undeliver
  dsimp only
  split
  · exact hdiscard
  · split
    · exact hdiscard.trans (.of_links (tagFailed_links ..))
    · exact hdiscard.trans (sameExpected_injectPkt ..)

theorem sameExpected_sweepLink (e : Env) (d : Dev) (inp : Nat) : SameExpected d (sweepLink e d inp) := by
  unfold sweepLink
  dsimp only
  refine SameExpected.trans ?_ (sameExpected_foldl (fun d q => ?_) _ _)
  · exact sameExpected_updLink d inp (fun _ => rfl) (fun _ => rfl)
  · exact (sameExpected_undeliver ..).trans (sameExpected_freeWords ..)

theorem sameExpected_bufferPkts (e : Env) (n : Nat) (ps : List Pkt) (d : Dev) : SameExpected d (bufferPkts e n ps d) := by
  unfold bufferPkts
  dsimp only
  refine SameExpected.trans ?_ (sameExpected_foldl (fun d q => ?_) _ _)
  · exact sameExpected_updLink d n (fun _ => rfl) (fun _ => rfl)
  · exact (SameExpected.of_links (discardPkt_links ..)).trans (sameExpected_freeWords ..)

/-! A flit accepted, and a flit rejected (R292). -/

section
variable (e : Env) (n h : Nat) (area : List Byte) (d : Dev)

/-- The link as an accepted flit leaves the number it expects. -/
theorem acceptFlit_sameExpected :
    SameExpected (updLink d n (fun l => { l with rxNext := (l.rxNext + 1) % 4096, rxAny := true, rejecting := false }))
      (acceptFlit e n h area d) := by
  unfold acceptFlit
  dsimp only
  refine SameExpected.trans (.of_links (sameButLog_satAdd e ⟨.LNK_FLITS_RX, n, 0, 0⟩ 1 _).links) ?_
  exact (sameExpected_bufferPkts ..).trans (sameExpected_sweepLink ..)

theorem acceptFlit_rxNext : (getLink (acceptFlit e n h area d) n).rxNext = ((getLink d n).rxNext + 1) % 4096 := by
  rw [(acceptFlit_sameExpected e n h area d).rxNext n, updLink_eq, getLink_setLink_same]

theorem acceptFlit_rejecting : (getLink (acceptFlit e n h area d) n).rejecting = false := by
  rw [(acceptFlit_sameExpected e n h area d).rejecting n, updLink_eq, getLink_setLink_same]

/-- A rejected flit leaves the link as it is, but for its rejecting and for the NAK that the first one makes it owe. -/
theorem getLink_rejectFlit : getLink (rejectFlit n d) n =
    { getLink d n with rejecting := true, nak := (getLink d n).nak || !(getLink d n).rejecting } := by
  rw [rejectFlit, updLink_eq, getLink_setLink_same]
  cases hrejecting : (getLink d n).rejecting with
  | true => rw [if_pos rfl, Bool.not_true, Bool.or_false, ← hrejecting]
  | false => rw [if_neg Bool.false_ne_true, Bool.not_false, Bool.or_true]

end

/-! A block, by its CRC, its kind and its number. -/

/-- The CRC of a block's flit matches (R287). -/
def FlitCrcOk (block : List Byte) : Prop :=
  crc32c ((flitOf block).1.take 428) = leNat (((flitOf block).1.drop 428).take 4)

/-- The header of a block's flit (R286). -/
def flitHeader (block : List Byte) : Nat := leNat ((flitOf block).1.take 8)

/-- The device with a block's codewords counted (R285). -/
def flitCounted (e : Env) (n : Nat) (block : List Byte) (d : Dev) : Dev :=
  satAdd e ⟨.LNK_FEC_UNCORR, n, 0, 0⟩ (flitOf block).2.2 (satAdd e ⟨.LNK_FEC_CORR, n, 0, 0⟩ (flitOf block).2.1 d)

/-- The device with ACK, NAK and both credit returns of a block's flit taken (R286, R293, R296). -/
def flitHeaderTaken (e : Env) (n : Nat) (block : List Byte) (d : Dev) : Dev :=
  let h := flitHeader block
  updLink (flitCounted e n block d) n (fun l => takeCredit (bitsOf h 55 44) (takeCredit (bitsOf h 43 32) (takeAck h l)))

/-- The flit of a block can be decoded and carries the number that the link expects (R292). -/
def FlitExpected (block : List Byte) (l : Link) : Prop := (flitOf block).2.2 = 0 ∧ bitsOf (flitHeader block) 11 0 = l.rxNext

section
variable {e : Env} {n : Nat} {block : List Byte} {d : Dev} (hup : linkUp d n = true)
include hup

theorem flitArrives_of_badCrc (hcrc : ¬ FlitCrcOk block) : flitArrives e n block d =
    rejectFlit n (satAdd e ⟨.LNK_CRC_BAD, n, 0, 0⟩ 1 (flitCounted e n block d)) := by
  rw [flitArrives, hup]
  exact if_pos hcrc

section
variable (hcrc : FlitCrcOk block)
include hcrc

theorem flitArrives_of_crcOk : flitArrives e n block d =
    if bitOf (flitHeader block) 26 then flitHeaderTaken e n block d
    else if (flitOf block).2.2 = 0 ∧ bitsOf (flitHeader block) 11 0 = (getLink (flitHeaderTaken e n block d) n).rxNext then
      acceptFlit e n (flitHeader block) (((flitOf block).1.drop 8).take 420) (flitHeaderTaken e n block d)
    else rejectFlit n (flitHeaderTaken e n block d) := by
  rw [flitArrives, hup]
  exact if_neg (not_not_intro hcrc)

theorem flitArrives_of_null (hnull : (flitHeader block).testBit 26 = true) :
    flitArrives e n block d = flitHeaderTaken e n block d :=
  (flitArrives_of_crcOk hup hcrc).trans (if_pos hnull)

variable (hseq : (flitHeader block).testBit 26 = false)
include hseq

theorem flitArrives_of_expected (hexpected : FlitExpected block (getLink (flitHeaderTaken e n block d) n)) :
    flitArrives e n block d =
      acceptFlit e n (flitHeader block) (((flitOf block).1.drop 8).take 420) (flitHeaderTaken e n block d) :=
  (flitArrives_of_crcOk hup hcrc).trans ((if_neg (Bool.eq_false_iff.1 hseq)).trans (if_pos hexpected))

theorem flitArrives_of_unexpected (hother : ¬ FlitExpected block (getLink (flitHeaderTaken e n block d) n)) :
    flitArrives e n block d = rejectFlit n (flitHeaderTaken e n block d) :=
  (flitArrives_of_crcOk hup hcrc).trans ((if_neg (Bool.eq_false_iff.1 hseq)).trans (if_neg hother))

end

end

/-! What a header leaves of the receiver's state (R292). -/

/-- The link's buffers, the number it expects, whether it rejects and whether it owes a NAK are the same. -/
structure SameReceiver (l l' : Link) : Prop where
  rx : l'.rx = l.rx
  rxNext : l'.rxNext = l.rxNext
  rejecting : l'.rejecting = l.rejecting
  nak : l'.nak = l.nak

theorem sameReceiver_takeAck (h : Nat) (l : Link) : SameReceiver l (takeAck h l) := by
  unfold takeAck
  dsimp only
  repeat' split
  all_goals exact ⟨rfl, rfl, rfl, rfl⟩

theorem sameReceiver_takeCredit (x : Nat) {l l' : Link} (h : SameReceiver l l') : SameReceiver l (takeCredit x l') :=
  ⟨h.rx, h.rxNext, h.rejecting, h.nak⟩

theorem getLink_flitCounted (e : Env) (n : Nat) (block : List Byte) (d : Dev) (m : Nat) :
    getLink (flitCounted e n block d) m = getLink d m :=
  getLink_congr ((sameButLog_satAdd ..).links.trans (sameButLog_satAdd ..).links) m

theorem sameReceiver_flitHeaderTaken (e : Env) (n : Nat) (block : List Byte) (d : Dev) :
    SameReceiver (getLink d n) (getLink (flitHeaderTaken e n block d) n) := by
  rw [flitHeaderTaken, updLink_eq, getLink_setLink_same, getLink_flitCounted]
  exact sameReceiver_takeCredit _ (sameReceiver_takeCredit _ (sameReceiver_takeAck _ _))

theorem flitExpected_congr {l l' : Link} (h : SameReceiver l l') (block : List Byte) :
    FlitExpected block l' ↔ FlitExpected block l := by
  rw [FlitExpected, FlitExpected, h.rxNext]

theorem flitRx_gives {s : State} {n : Nat} (hn : n < 36) (hr : Runs s) (block : List Byte) :
    Gives (.flitRx n block) s (flitArrives s.env n block s.dev) :=
  gives_of_act (f := fun e d => flitArrives e n block d) rfl (decide_eq_true hn) hr

/-- A flit that is rejected leaves what the link holds and expects; from then on the link rejects, and the first such flit makes it
owe a NAK. -/
theorem rejected_of_sameReceiver {d d' : Dev} {n : Nat} (h : SameReceiver (getLink d n) (getLink d' n)) :
    (getLink (rejectFlit n d') n).rxNext = (getLink d n).rxNext ∧ (getLink (rejectFlit n d') n).rx = (getLink d n).rx ∧
      (getLink (rejectFlit n d') n).rejecting = true ∧
      (getLink (rejectFlit n d') n).nak = ((getLink d n).nak || !(getLink d n).rejecting) := by
  rw [getLink_rejectFlit]
  exact ⟨h.rxNext, h.rx, rfl, by rw [h.nak, h.rejecting]⟩

/-- Settles O39: whether the CRC matches, whether the flit is sequenced, and whether it is the expected one. -/
theorem onlyTheExpectedFlitIsAccepted : Obligations.OnlyTheExpectedFlitIsAccepted := by
  intro s n block flit good h null l taken hn hr hup
  have hheader := sameReceiver_flitHeaderTaken s.env n block s.dev
  refine ⟨_, flitRx_gives hn hr block, ?_⟩
  simp only [getLink_inCycle]
  by_cases hgood : good
  · by_cases hnull : null
    · have htaken : ¬ taken := fun ht => ht.2.1 hnull
      rw [flitArrives_of_null hup hgood hnull]
      exact ⟨fun ht => absurd ht htaken, fun _ => ⟨hheader.rxNext, hheader.rx⟩, fun _ _ => ⟨hheader.rejecting, hheader.nak⟩,
        fun _ hother => absurd ⟨hgood, hnull⟩ hother⟩
    · have hseq : (flitHeader block).testBit 26 = false := Bool.eq_false_iff.2 hnull
      by_cases hexpected : FlitExpected block l
      · rw [flitArrives_of_expected hup hgood hseq ((flitExpected_congr hheader block).2 hexpected), acceptFlit_rxNext,
          acceptFlit_rejecting, hheader.rxNext]
        have htaken : taken := ⟨hgood, hnull, hexpected⟩
        exact ⟨fun _ => ⟨rfl, rfl⟩, fun hnot => absurd htaken hnot, fun _ hyes => absurd hyes hnull, fun hnot => absurd htaken hnot⟩
      · have htaken : ¬ taken := fun ht => hexpected ht.2.2
        obtain ⟨hnext, hrx, hrejecting, hnak⟩ := rejected_of_sameReceiver hheader
        rw [flitArrives_of_unexpected hup hgood hseq (mt (flitExpected_congr hheader block).1 hexpected)]
        exact ⟨fun ht => absurd ht htaken, fun _ => ⟨hnext, hrx⟩, fun _ hyes => absurd hyes hnull, fun _ _ => ⟨hrejecting, hnak⟩⟩
  · have htaken : ¬ taken := fun ht => hgood ht.1
    have hcounted : SameReceiver (getLink s.dev n)
        (getLink (satAdd s.env ⟨.LNK_CRC_BAD, n, 0, 0⟩ 1 (flitCounted s.env n block s.dev)) n) := by
      rw [getLink_congr (sameButLog_satAdd ..).links, getLink_flitCounted]
      exact ⟨rfl, rfl, rfl, rfl⟩
    obtain ⟨hnext, hrx, hrejecting, hnak⟩ := rejected_of_sameReceiver hcounted
    rw [flitArrives_of_badCrc hup hgood]
    exact ⟨fun ht => absurd ht htaken, fun _ => ⟨hnext, hrx⟩, fun hg => absurd hg hgood, fun _ _ => ⟨hrejecting, hnak⟩⟩

/-! What a link sends (R293, R294, R298). -/

section
variable {e : Env} {n : Nat} {d : Dev} (hup : linkUp d n = true)
include hup

theorem sendFlit_of_replaying {i : Nat} {f : Flit} (hresend : (getLink d n).resend = some i)
    (hheld : (getLink d n).replay[i]? = some f) : sendFlit e n d = resendFlit e n i f d := by
  simp only [sendFlit, hup, Bool.not_true, Bool.false_eq_true, if_false, hresend, hheld]

theorem sendFlit_of_idle (hresend : (getLink d n).resend = none) : sendFlit e n d = newFlit e n d := by
  simp only [sendFlit, hup, Bool.not_true, Bool.false_eq_true, if_false, hresend]

theorem replayTimesOut_of_held (hheld : (getLink d n).replay ≠ []) :
    replayTimesOut n d = setLink d n { getLink d n with resend := some 0 } := by
  have hnonempty : ¬ (getLink d n).replay.isEmpty = true := mt List.isEmpty_iff.1 hheld
  rw [replayTimesOut, if_pos hup, updLink_eq, if_neg hnonempty]

theorem retryExhausted_of_nine (hnine : ∃ f ∈ (getLink d n).replay, 9 ≤ f.sends) : retryExhausted e n d =
    startRetrain n (logError e (linkErr 0x0402 n n) (rset d ⟨.LNK_RETRY_EXH, n, 0, 0⟩ 1)) := by
  obtain ⟨f, hmem, hsends⟩ := hnine
  exact if_pos ⟨hup, List.any_eq_true.2 ⟨f, hmem, decide_eq_true hsends⟩⟩

end

/-- Settles O38: the four fates of a block, and what a link sends, resends and gives up. -/
theorem flitsAreSentReplayedAndTaken : Obligations.FlitsAreSentReplayedAndTaken := by
  intro s n block e flit d0 good h d1 expected l hn hr hup
  have hok : decide (n < 36) = true := decide_eq_true hn
  have hrx : Gives (.flitRx n block) s (flitArrives e n block s.dev) := flitRx_gives hn hr block
  have hsend : Gives (.flitSend n) s (pumpAll e (sendFlit e n s.dev)) :=
    gives_of_act (f := fun e d => pumpAll e (sendFlit e n d)) rfl hok hr
  have htimeout : Gives (.replayTimeout n) s (replayTimesOut n s.dev) :=
    gives_of_act (f := fun _ d => replayTimesOut n d) rfl hok hr
  have hexhausted : Gives (.retryExhausted n) s (retryExhausted e n s.dev) :=
    gives_of_act (f := fun e d => retryExhausted e n d) rfl hok hr
  refine ⟨fun hbad => ?_, fun hgood hnull => ?_, fun hgood hseq hexpected => ?_, fun hgood hseq hother => ?_,
    fun i f hresend hheld => ?_, fun hidle => ?_, fun hheld => ?_, fun hnine => ?_⟩
  · exact gives_congr hrx (flitArrives_of_badCrc hup hbad)
  · exact gives_congr hrx (flitArrives_of_null hup hgood hnull)
  · exact gives_congr hrx (flitArrives_of_expected hup hgood hseq hexpected)
  · exact gives_congr hrx (flitArrives_of_unexpected hup hgood hseq hother)
  · exact gives_congr hsend (congrArg (pumpAll e) (sendFlit_of_replaying hup hresend hheld))
  · exact gives_congr hsend (congrArg (pumpAll e) (sendFlit_of_idle hup hidle))
  · exact gives_congr htimeout (replayTimesOut_of_held hup hheld)
  · exact gives_congr hexhausted (retryExhausted_of_nine hup hnine)

end Sys2Proof.Machine
end

section
/-! SUPPORT. The states of a link (R294, R300, R389, R395), and REFCLK100_A lost and back (R382, R383, R387). -/

namespace Sys2Proof.Machine

/-! Training and retraining. -/

/-- The link is UP with the lanes that can lock (R300). -/
def linkLocked (n lanes : Nat) (d : Dev) : Dev := lset .LNK_LANES n (lanesUp d n lanes) (lset .LNK_STATE n 2 d)

section
variable {e : Env} {n lanes : Nat} {d : Dev}

section
variable (htraining : rget d ⟨.LNK_STATE, n, 0, 0⟩ = 1)
include htraining

theorem trainingEnds_of_training : trainingEnds e n lanes d =
    if lanesUp d n lanes ≥ 4 then
      linkIrq (askMeasure e n (setLink (linkLocked n lanes d) n
        (freshLink (linkLocked n lanes d) n (getLink (linkLocked n lanes d) n))))
    else updLink (linkDown e n 2 d) n (fun l => { l with again := true }) :=
  if_neg (not_not_intro htraining)

theorem trainingEnds_up (hlanes : 4 ≤ lanesUp d n lanes) : trainingEnds e n lanes d =
    linkIrq (askMeasure e n (setLink (linkLocked n lanes d) n
      (freshLink (linkLocked n lanes d) n (getLink (linkLocked n lanes d) n)))) :=
  (trainingEnds_of_training htraining).trans (if_pos hlanes)

theorem trainingEnds_failed (hlanes : lanesUp d n lanes < 4) : trainingEnds e n lanes d =
    updLink (linkDown e n 2 d) n (fun l => { l with again := true }) :=
  (trainingEnds_of_training htraining).trans (if_neg (Nat.not_le.2 hlanes))

end

theorem trainingAgain_of_down (hdown : rget d ⟨.LNK_STATE, n, 0, 0⟩ = 0) (hen : rget d ⟨.LNK_EN, n, 0, 0⟩ = 1)
    (hagain : (getLink d n).again = true) : trainingAgain n d = rset d ⟨.LNK_STATE, n, 0, 0⟩ 1 :=
  if_pos ⟨hdown, hen, hagain⟩

section
variable (hretraining : rget d ⟨.LNK_STATE, n, 0, 0⟩ = 3)
include hretraining

theorem retrainEnds_of_retraining : retrainEnds e n lanes d =
    if lanesUp d n lanes ≥ 4 then
      updLink (linkLocked n lanes d) n (fun l => { l with
        resend := if l.replay.isEmpty then none else some 0, replay := l.replay.map (fun f => { f with sends := 0 }) })
    else retrainFails e n d :=
  if_neg (not_not_intro hretraining)

theorem retrainEnds_up (hlanes : 4 ≤ lanesUp d n lanes) : retrainEnds e n lanes d =
    updLink (linkLocked n lanes d) n (fun l => { l with
      resend := if l.replay.isEmpty then none else some 0, replay := l.replay.map (fun f => { f with sends := 0 }) }) :=
  (retrainEnds_of_retraining hretraining).trans (if_pos hlanes)

theorem retrainEnds_failed (hlanes : lanesUp d n lanes < 4) : retrainEnds e n lanes d = retrainFails e n d :=
  (retrainEnds_of_retraining hretraining).trans (if_neg (Nat.not_le.2 hlanes))

end

/-! Enabling, and the lanes left out. -/

theorem linkEnable_of_refused (hrefused : linkAllowed d n = false) :
    linkEnable e n d = regAccess e (0x400000 + 0x1000 * n + 4) true d := by
  rw [linkEnable, hrefused]
  rfl

theorem linkEnable_of_allowed (hallowed : linkAllowed d n = true) : linkEnable e n d =
    if rget d ⟨.LNK_STATE, n, 0, 0⟩ = 4 then rset (rset d ⟨.LNK_EN, n, 0, 0⟩ 1) ⟨.LNK_STATE, n, 0, 0⟩ 1
    else rset d ⟨.LNK_EN, n, 0, 0⟩ 1 := by
  have hstate : lget (lset .LNK_EN n 1 d) .LNK_STATE n = rget d ⟨.LNK_STATE, n, 0, 0⟩ := rget_rset_ne d 1 (by simp)
  rw [linkEnable, hallowed, ← hstate]
  rfl

theorem startRetrain_of_up (hup : rget d ⟨.LNK_STATE, n, 0, 0⟩ = 2) : startRetrain n d = rset d ⟨.LNK_STATE, n, 0, 0⟩ 3 :=
  if_pos (decide_eq_true hup)

theorem startRetrain_of_not_up (hother : rget d ⟨.LNK_STATE, n, 0, 0⟩ ≠ 2) : startRetrain n d = d :=
  if_neg (mt of_decide_eq_true hother)

/-- A field takes no more of a value than its own bits (R14). -/
theorem rset_mod (d : Dev) (k : RegKey) (v : Nat) : rset d k (v % 2 ^ k.reg.bits) = rset d k v := by
  rw [rset, rset, Nat.mod_mod]

theorem lset_laneRetire (v : Nat) : lset .LNK_LANE_RETIRE n (v % 256) d = rset d ⟨.LNK_LANE_RETIRE, n, 0, 0⟩ v :=
  rset_mod d ⟨.LNK_LANE_RETIRE, n, 0, 0⟩ v

theorem rget_linkState_laneRetire (v : Nat) :
    rget (rset d ⟨.LNK_LANE_RETIRE, n, 0, 0⟩ v) ⟨.LNK_STATE, n, 0, 0⟩ = rget d ⟨.LNK_STATE, n, 0, 0⟩ := rget_rset_ne d v (by simp)

end

/-! REFCLK100_A (R382, R383). -/

section
variable (e : Env) (d : Dev) (k : Nat)

/-- A clock domain loses its reference: one that was locked is counted (R387). -/
def domainLoses : Dev :=
  if rget d ⟨.CLK_DOM_STATE, k, 0, 0⟩ = 2 then satAdd e ⟨.CLK_DOM_LOSS, k, 0, 0⟩ 1 (rset d ⟨.CLK_DOM_STATE, k, 0, 0⟩ 3)
  else if rget d ⟨.CLK_DOM_STATE, k, 0, 0⟩ = 1 then rset d ⟨.CLK_DOM_STATE, k, 0, 0⟩ 3 else d

theorem domainLoses_locked (hstate : rget d ⟨.CLK_DOM_STATE, k, 0, 0⟩ = 2) :
    domainLoses e d k = satAdd e ⟨.CLK_DOM_LOSS, k, 0, 0⟩ 1 (rset d ⟨.CLK_DOM_STATE, k, 0, 0⟩ 3) := if_pos hstate

theorem domainLoses_locking (hstate : rget d ⟨.CLK_DOM_STATE, k, 0, 0⟩ = 1) :
    domainLoses e d k = rset d ⟨.CLK_DOM_STATE, k, 0, 0⟩ 3 :=
  (if_neg (by rw [hstate]; decide)).trans (if_pos hstate)

theorem domainLoses_other (hlocking : rget d ⟨.CLK_DOM_STATE, k, 0, 0⟩ ≠ 1) (hlocked : rget d ⟨.CLK_DOM_STATE, k, 0, 0⟩ ≠ 2) :
    domainLoses e d k = d := (if_neg hlocked).trans (if_neg hlocking)

/-- The domains lose their reference, then the ports that are not disabled go DOWN, then the links (R383). -/
theorem refclkALost_eq : refclkALost e d =
    (List.range 36).foldl (fun d n =>
      if rget d ⟨.LNK_STATE, n, 0, 0⟩ = 4 ∨ rget d ⟨.LNK_STATE, n, 0, 0⟩ = 0 then d else linkLeaves e n 0 d)
    ((List.range 4).foldl (fun d p =>
      if rget d ⟨.ETH_PORT_STATE, p, 0, 0⟩ = 3 then d else rset d ⟨.ETH_PORT_STATE, p, 0, 0⟩ 0)
    ([4, 5, 6, 7, 15].foldl (domainLoses e) d)) := rfl

end

theorem refclk100ALoss_of_runs {s : State} (hr : Runs s) : exec .refclk100ALoss s = .next { s with
    clk := holdRate s.clk, dev := inCycle s.dev (refclkALost ⟨holdRate s.clk, s.nv⟩ s.dev) } := by
  unfold Runs at hr
  simp only [exec, execRefclk100ALoss, act, hr, if_true]

/-- Settles O41: each end and each command of a link by its state and its lanes, and both turns of REFCLK100_A. -/
theorem linksTrainRetrainStopAndLoseTheirClock : Obligations.LinksTrainRetrainStopAndLoseTheirClock := by
  refine ⟨fun s n lanes v => ?_, fun s => ?_⟩
  · intro e at_ en put up upDev again hn hr
    have hok : decide (n < 36) = true := decide_eq_true hn
    have htrain : Gives (.linkTrainingEnd n lanes) s (trainingEnds e n lanes s.dev) :=
      gives_of_act (f := fun e d => trainingEnds e n lanes d) rfl hok hr
    have hretrain : Gives (.linkRetrainEnd n lanes) s (retrainEnds e n lanes s.dev) :=
      gives_of_act (f := fun e d => retrainEnds e n lanes d) rfl hok hr
    have henable (hs : Serves s) : Gives (.lnkEnSet n) s (linkEnable e n s.dev) :=
      gives_of_actT (f := fun e d => linkEnable e n d) rfl hok hs
    have hretire (hs : Serves s) : Gives (.lnkLaneRetire n v) s
        (startRetrain n (rset s.dev ⟨.LNK_LANE_RETIRE, n, 0, 0⟩ v.toNat)) := by
      rw [← lset_laneRetire]
      exact gives_of_actT (f := fun _ d => startRetrain n (lset .LNK_LANE_RETIRE n (v.toNat % 256) d)) rfl hok hs
    refine ⟨fun hstate hlanes => ?_, fun hstate hlanes => ?_, fun hstate hen hagain => ?_, fun hstate hlanes => ?_,
      fun hstate hlanes => ?_, fun hstate => ?_, fun hs hallowed hstate => ?_, fun hs hallowed hstate => ?_,
      fun hs hrefused => ?_, fun hs => ?_, fun hs hstate => ?_, fun hs hstate => ?_, fun hs hstate => ?_⟩
    · exact gives_congr htrain (trainingEnds_up hstate hlanes)
    · exact gives_congr htrain (trainingEnds_failed hstate hlanes)
    · exact gives_congr (gives_of_act (f := fun _ d => trainingAgain n d) rfl hok hr) (trainingAgain_of_down hstate hen hagain)
    · exact gives_congr hretrain (retrainEnds_up hstate hlanes)
    · exact gives_congr hretrain (retrainEnds_failed hstate hlanes)
    · exact gives_congr (gives_of_act (f := fun e d => if lget d .LNK_STATE n = 3 then retrainFails e n d else d) rfl hok hr)
        (if_pos hstate)
    · exact gives_congr (henable hs) ((linkEnable_of_allowed hallowed).trans (if_pos hstate))
    · exact gives_congr (henable hs) ((linkEnable_of_allowed hallowed).trans (if_neg hstate))
    · exact gives_congr (henable hs) (linkEnable_of_refused hrefused)
    · exact gives_of_actT (f := fun e d => linkDisable e n d) rfl hok hs
    · exact gives_congr (gives_of_actT (f := fun _ d => startRetrain n d) rfl hok hs) (startRetrain_of_up hstate)
    · exact gives_congr (hretire hs) (startRetrain_of_up ((rget_linkState_laneRetire _).trans hstate))
    · exact gives_congr (hretire hs) (startRetrain_of_not_up fun hup => hstate ((rget_linkState_laneRetire _).symm.trans hup))
  · intro dom held e lost ports links hr
    have hlost : lost = [4, 5, 6, 7, 15].foldl (domainLoses e) s.dev := by
      refine congrArg (fun f => [4, 5, 6, 7, 15].foldl f s.dev) (funext fun d => funext fun k => ?_)
      split
      · rename_i hstate; exact (domainLoses_locking e d k hstate).symm
      · rename_i hstate; exact (domainLoses_locked e d k hstate).symm
      · rename_i hlocking hlocked; exact (domainLoses_other e d k hlocking hlocked).symm
    have hlinks : links = refclkALost e s.dev := by
      rw [refclkALost_eq, ← hlost]
    refine ⟨?_, gives_of_act (f := fun _ d => refclkAReturns d) rfl rfl hr⟩
    rw [hlinks]
    exact refclk100ALoss_of_runs hr

end Sys2Proof.Machine
end

section
/-! SUPPORT. Control packets of a link (R301 to R304, R306) and fabric time as TIME brings it (R46, R305). -/

namespace Sys2Proof.Machine

/-! HEARTBEAT, MEASURE and IDENTITY. -/

section
variable {e : Env} {n : Nat} {d d' : Dev} {p : Pkt}

theorem sendHeartbeat_of_up (hup : linkUp d n = true) : sendHeartbeat e n d =
    sendCtl n (ctlPkt e d 0x20 0 (leBytes (packFields [(64, d.rc), (16, rget d ⟨.LNK_LIVE, 0, 0, 0⟩),
      (1, b2n (!d.fatals.isEmpty)), (47, 0)]) 16)) d := if_pos hup

theorem heartbeatArrives_of_head (hhead : takeCtl d n 0x20 = some (p, d')) : heartbeatArrives n d =
    { d' with outbox := d'.outbox ++
      [.heartbeat n (bitsOf (leNat p.data) 63 0) (bitsOf (leNat p.data) 79 64) ((leNat p.data).testBit 80)] } := by
  simp only [heartbeatArrives, hhead, bitOf]

theorem heartbeatMissed_of_up (hup : linkUp d n = true) : heartbeatMissed e n d =
    linkIrq (linkDown e n 0 (rset d ⟨.LNK_HB_MISS, n, 0, 0⟩ 1)) := if_pos hup

/-- The round trip and the delay as a reply to a MEASURE gives them (R304). -/
def linkMeasured (n x turn : Nat) (d : Dev) : Dev := lset .LNK_DELAY n ((x - turn) / 2) (lset .LNK_RTT n x d)

/-- The exchanges that are left after a reply (R303, R304). -/
def measuresLeft (n x : Nat) (p : Pkt) (d : Dev) : Nat := (getLink (linkMeasured n x (bitsOf p.body 15 0) d) n).measures - 1

/-- The device with a reply taken in (R304). -/
def replyTaken (n x : Nat) (p : Pkt) (d : Dev) : Dev :=
  updLink (linkMeasured n x (bitsOf p.body 15 0) d) n (fun l => { l with measures := measuresLeft n x p d })

section
variable {x : Nat} (hhead : takeCtl d n 0x25 = some (p, d'))
include hhead

theorem measureArrives_of_request (hrequest : p.body.testBit 16 = false) : measureArrives e n x d =
    sendCtl n (ctlPkt e d' 0x25 (x % 65536 + 65536) []) d' := by
  simp only [measureArrives, hhead, bitOf, hrequest, Bool.false_eq_true, if_false]

theorem measureArrives_of_reply (hreply : p.body.testBit 16 = true) : measureArrives e n x d =
    if measuresLeft n x p d' = 0 then sendIdentity e n (replyTaken n x p d') else askMeasure e n (replyTaken n x p d') := by
  simp only [measureArrives, hhead, bitOf, hreply, if_true]
  rfl

end

theorem identityArrives_of_head (hhead : takeCtl d n 0x21 = some (p, d')) : identityArrives n d =
    let w := leNat p.data
    lset .LNK_NBR_VALID n (bitsOf w 95 95) (lset .LNK_NBR_LINK n (bitsOf w 94 89) (lset .LNK_NBR_SLOT n (bitsOf w 88 83)
      (lset .LNK_NBR_STEP n (bitsOf w 82 82) (lset .LNK_NBR_GRADE n (bitsOf w 81 81) (lset .LNK_NBR_ADDR_V n (bitsOf w 80 80)
        (lset .LNK_NBR_ADDR n (bitsOf w 79 64) (lset .LNK_NBR_SERIAL n (bitsOf w 63 0) d'))))))) := by
  simp only [identityArrives, hhead, List.foldl_cons, List.foldl_nil]

theorem sendTime_of_aligned (hup : linkUp d n = true) (hsynced : ftSynced d = true)
    (hchild : (rget d ⟨.LNK_HOIST_CHILD, 0, 0, 0⟩).testBit n = true) :
    sendTime e n d = sendCtl n (ctlPkt e d 0x22 e.clk.ft []) d := if_pos ⟨hup, hsynced, hchild⟩

end

/-! TIME. -/

section
variable {s : State} {n : Nat} {p : Pkt} {d : Dev}

/-- The time that a TIME on link n brings: the packet's, and a sixteenth of LNK_DELAY (R305). -/
def timeBrought (n : Nat) (p : Pkt) (d : Dev) : Nat := p.body + rget d ⟨.LNK_DELAY, n, 0, 0⟩ / 16

section
variable (hn : n < 36) (hr : Runs s)
include hn hr

theorem time_of_runs : exec (.time n) s = .next (timeArrives n s) := by
  unfold Runs at hr
  simp only [exec, execTime, hn, hr, if_true]

variable (hhead : takeCtl s.dev n 0x22 = some (p, d))
include hhead

theorem time_of_other (hother : ¬ rget d ⟨.LNK_HOIST_PARENT, 0, 0, 0⟩ = n) : exec (.time n) s = .next { s with dev := d } := by
  rw [time_of_runs hn hr]
  simp only [timeArrives, hhead, if_neg hother]

theorem time_of_parent {aligned : Bool} {c : Clock} (hparent : rget d ⟨.LNK_HOIST_PARENT, 0, 0, 0⟩ = n)
    (haligned : ftSynced d = aligned) (hclk : discipline aligned (timeBrought n p d) s.clk = c) :
    exec (.time n) s = .next { s with dev := rset d ⟨.CLK_FT_SYNCED, 0, 0, 0⟩ 1, clk := c } := by
  subst haligned hclk
  rw [time_of_runs hn hr]
  simp only [timeArrives, hhead, if_pos hparent]
  rfl

end

/-! The clock of a child, by whether it is aligned, whether it holds, and whether a correction is under way. -/

variable {t : Nat} {c : Clock}

theorem discipline_forward (h : c.ft ≤ t) : discipline false t c = { c with ft := t, trim := 0, seen := c.ns } := by
  simp only [discipline, Bool.not_false, if_true, if_pos h]

theorem discipline_held (h : t < c.ft) : discipline false t c = { c with hold := c.ft - t, trim := 0, seen := c.ns } := by
  simp only [discipline, Bool.not_false, if_true, if_neg (Nat.not_le.2 h)]

theorem discipline_holding (hhold : c.hold ≠ 0) :
    discipline true t c = { c with hold := c.ft - t, trim := max 0 ((t : Int) - c.ft), seen := c.ns } := by
  simp only [discipline, Bool.not_true, Bool.false_eq_true, if_false, if_pos hhold]

theorem discipline_correcting (hhold : c.hold = 0) (htrim : c.trim ≠ 0) :
    discipline true t c = { c with trim := (t : Int) - c.ft, seen := c.ns } := by
  simp only [discipline, Bool.not_true, Bool.false_eq_true, if_false, hhold, ne_eq, not_true_eq_false, htrim]

theorem discipline_settled (hhold : c.hold = 0) (htrim : c.trim = 0) : discipline true t c = { c with
    trim := (t : Int) - c.ft, seen := c.ns
    rate := max (-200) (min 200 (c.rate + (((t : Int) - c.ft) * 1000000).tdiv ((c.ns - c.seen : Nat) : Int))) } := by
  simp only [discipline, Bool.not_true, Bool.false_eq_true, if_false, hhold, ne_eq, not_true_eq_false, htrim, if_true]

end

/-- Settles O42: each control packet sent and taken, and what TIME makes of the clock. -/
theorem linkControlPacketsAct : Obligations.LinkControlPacketsAct := by
  refine ⟨fun s n x p d => ?_, fun s n p d => ?_⟩
  · intro e w put nbr left timed beat hn hr
    have hok : decide (n < 36) = true := decide_eq_true hn
    have hmeasure : Gives (.measure n x) s (measureArrives e n x s.dev) :=
      gives_of_act (f := fun e d => measureArrives e n x d) rfl hok hr
    refine ⟨fun hup => ?_, fun hhead => ?_, fun hup => ?_, fun hhead hrequest => ?_, fun hhead hreply hleft => ?_,
      fun hhead hreply hleft => ?_, fun hhead => ?_, fun hup hsynced hchild => ?_⟩
    · exact gives_congr (gives_of_act (f := fun e d => sendHeartbeat e n d) rfl hok hr) (sendHeartbeat_of_up hup)
    · exact gives_congr (gives_of_act (f := fun _ d => heartbeatArrives n d) rfl hok hr) (heartbeatArrives_of_head hhead)
    · exact gives_congr (gives_of_act (f := fun e d => heartbeatMissed e n d) rfl hok hr) (heartbeatMissed_of_up hup)
    · exact gives_congr hmeasure (measureArrives_of_request hhead hrequest)
    · exact gives_congr hmeasure ((measureArrives_of_reply hhead hreply).trans (if_neg hleft))
    · exact gives_congr hmeasure ((measureArrives_of_reply hhead hreply).trans (if_pos hleft))
    · exact gives_congr (gives_of_act (f := fun _ d => identityArrives n d) rfl hok hr) (identityArrives_of_head hhead)
    · exact gives_congr (gives_of_act (f := fun e d => sendTime e n d) rfl hok hr) (sendTime_of_aligned hup hsynced hchild)
  · intro t synced parent off ppm got hn hr hhead
    refine ⟨time_of_other hn hr hhead, fun hparent hsync hahead => ?_, fun hparent hsync hbehind => ?_,
      fun hparent hsync hhold => ?_, fun hparent hsync hhold htrim => ?_, fun hparent hsync hhold htrim => ?_⟩
    · exact time_of_parent hn hr hhead hparent hsync (discipline_forward hahead)
    · exact time_of_parent hn hr hhead hparent hsync (discipline_held hbehind)
    · exact time_of_parent hn hr hhead hparent hsync (discipline_holding hhold)
    · exact time_of_parent hn hr hhead hparent hsync (discipline_correcting hhold htrim)
    · exact time_of_parent hn hr hhead hparent hsync (discipline_settled hhold htrim)

end Sys2Proof.Machine
end

section
/-! SUPPORT. The hoist (R313, R314, R316): what its packets and its commands do in each state, and which links carry HOIST_UP and
HOIST_DOWN. -/

namespace Sys2Proof.Machine

/-! Control packets that are sent. -/

section
variable (e : Env) (n : Nat) (p : Pkt) (d : Dev)

theorem ctl_sendCtl_same : (getLink (sendCtl n p d) n).ctl = (getLink d n).ctl ++ [p] := by
  rw [sendCtl, updLink_eq, getLink_setLink_same]

theorem ctl_sendCtl_ne {m : Nat} (hm : m ≠ n) : (getLink (sendCtl n p d) m).ctl = (getLink d m).ctl := by
  rw [sendCtl, updLink_eq, getLink_setLink_ne _ _ hm]

/-- A control packet takes only registers from the device. -/
theorem ctlPkt_congr {d' : Dev} (h : d'.regs = d.regs) (type body : Nat) (data : List Byte) :
    ctlPkt e d' type body data = ctlPkt e d type body data := by
  rw [ctlPkt, ctlPkt, myAddr, myAddr, rget_congr h]

end

/-! HOIST_DOWN to the children. -/

/-- HOIST_DOWN joins the control packets of a link (R314). -/
def sendDown (e : Env) (d : Dev) (n : Nat) : Dev := sendCtl n (ctlPkt e d 0x24 (hget d .LNK_HOIST_ID) []) d

section
variable (e : Env)

theorem sendHoistDown_eq (d : Dev) :
    sendHoistDown e d = (hoistChildren d).foldl (sendDown e) { d with hoistArrived := true } := rfl

theorem foldl_sendDown_regs (l : List Nat) (d : Dev) : (l.foldl (sendDown e) d).regs = d.regs := by
  induction l generalizing d with
  | nil => rfl
  | cons n l ih => exact ih (sendDown e d n)

theorem foldl_sendDown_hoistArrived (l : List Nat) (d : Dev) : (l.foldl (sendDown e) d).hoistArrived = d.hoistArrived := by
  induction l generalizing d with
  | nil => rfl
  | cons n l ih => exact ih (sendDown e d n)

theorem ctl_foldl_sendDown {l : List Nat} (hl : l.Nodup) (d : Dev) (m : Nat) :
    (getLink (l.foldl (sendDown e) d) m).ctl =
      (getLink d m).ctl ++ if m ∈ l then [ctlPkt e d 0x24 (hget d .LNK_HOIST_ID) []] else [] := by
  induction l generalizing d with
  | nil => simp
  | cons n l ih =>
    obtain ⟨hn, hl'⟩ := List.nodup_cons.1 hl
    have hsame : ctlPkt e (sendDown e d n) 0x24 (hget (sendDown e d n) .LNK_HOIST_ID) [] =
      ctlPkt e d 0x24 (hget d .LNK_HOIST_ID) [] := ctlPkt_congr e d rfl ..
    rw [List.foldl_cons, ih hl', hsame]
    by_cases hm : m = n
    · subst hm
      rw [sendDown, ctl_sendCtl_same, if_neg hn, if_pos List.mem_cons_self, List.append_nil]
    · rw [sendDown, ctl_sendCtl_ne _ _ _ hm]
      simp only [List.mem_cons, hm, false_or]

theorem hoistChildren_nodup (d : Dev) : (hoistChildren d).Nodup := List.nodup_range.filter _

end

/-! Every child has come, and the packets that arrive. -/

/-- The packet belongs to the hoist of this device, which is not wired (R314, R316). -/
def HoistOwn (p : Pkt) (d : Dev) : Prop :=
  rget d ⟨.LNK_HOIST_WIRED, 0, 0, 0⟩ ≠ 1 ∧ bitsOf p.body 7 0 = rget d ⟨.LNK_HOIST_ID, 0, 0, 0⟩

/-- The HOIST_UP of child link n is counted (R314). -/
def childUp (n : Nat) (d : Dev) : Dev :=
  let x := n * 256 + rget d ⟨.LNK_HOIST_ID, 0, 0, 0⟩
  { d with hoistUps := if x ∈ d.hoistUps then d.hoistUps else d.hoistUps ++ [x] }

theorem mem_childUp {n : Nat} {d : Dev} {x : Nat} :
    x ∈ (childUp n d).hoistUps ↔ x = n * 256 + rget d ⟨.LNK_HOIST_ID, 0, 0, 0⟩ ∨ x ∈ d.hoistUps := by
  unfold childUp
  dsimp only
  split
  · rename_i hmem
    exact ⟨Or.inr, fun h => h.elim (fun hx => hx ▸ hmem) id⟩
  · rw [List.mem_append, List.mem_singleton, or_comm]

section
variable {e : Env} {n : Nat} {p : Pkt} {d d' : Dev}

/-- With every child in, the hoist goes down from the root, and up from any other device (R314). -/
theorem hoistAllUp_of_complete (hstate : rget d ⟨.LNK_HOIST_STATE, 0, 0, 0⟩ = 1) (hwired : rget d ⟨.LNK_HOIST_WIRED, 0, 0, 0⟩ = 0)
    (hups : ∀ m ∈ hoistChildren d, m * 256 + rget d ⟨.LNK_HOIST_ID, 0, 0, 0⟩ ∈ d.hoistUps) (harrived : d.hoistArrived = false) :
    hoistAllUp e d = if rget d ⟨.LNK_HOIST_PARENT, 0, 0, 0⟩ = 63 then sendHoistDown e d
      else hoistState 2 (sendCtl (rget d ⟨.LNK_HOIST_PARENT, 0, 0, 0⟩)
        (ctlPkt e d 0x23 (rget d ⟨.LNK_HOIST_ID, 0, 0, 0⟩) []) d) := by
  have hall : (hoistChildren d).all (fun m => m * 256 + hget d .LNK_HOIST_ID ∈ d.hoistUps) = true :=
    List.all_eq_true.2 fun m hm => decide_eq_true (hups m hm)
  exact if_pos ⟨hstate, hwired, hall, by rw [harrived]; rfl⟩

theorem hoistEnter_of_idle (hstate : rget d ⟨.LNK_HOIST_STATE, 0, 0, 0⟩ = 0) : hoistEnter e d =
    hoistAllUp e { rset d ⟨.LNK_HOIST_STATE, 0, 0, 0⟩ 1 with pins := { d.pins with hoistOut := false } } :=
  if_neg (not_not_intro hstate)

theorem not_hoistOwn_iff : ¬ HoistOwn p d ↔
    hget d .LNK_HOIST_WIRED = 1 ∨ bitsOf p.body 7 0 ≠ hget d .LNK_HOIST_ID := by
  rw [HoistOwn, not_and_or, not_not]
  rfl

theorem hoistUpArrives_of_own (hhead : takeCtl d n 0x23 = some (p, d')) (hown : HoistOwn p d') :
    hoistUpArrives e n d = hoistAllUp e (childUp n d') := by
  have hbody : bitsOf p.body 7 0 = hget d' .LNK_HOIST_ID := hown.2
  have htaken := mt not_hoistOwn_iff.2 (not_not_intro hown)
  simp only [hoistUpArrives, hhead, if_neg htaken]
  rw [hbody]
  rfl

theorem hoistUpArrives_of_other (hhead : takeCtl d n 0x23 = some (p, d')) (hother : ¬ HoistOwn p d') :
    hoistUpArrives e n d = d' := by
  simp only [hoistUpArrives, hhead, if_pos (not_hoistOwn_iff.1 hother)]

/-- HOIST_DOWN of the hoist comes from the parent, to a device that has passed HOIST_UP on (R314). -/
def HoistDownOwn (n : Nat) (p : Pkt) (d : Dev) : Prop :=
  HoistOwn p d ∧ rget d ⟨.LNK_HOIST_STATE, 0, 0, 0⟩ = 2 ∧ rget d ⟨.LNK_HOIST_PARENT, 0, 0, 0⟩ = n

theorem not_hoistDownOwn_iff : ¬ HoistDownOwn n p d ↔ hget d .LNK_HOIST_WIRED = 1 ∨ bitsOf p.body 7 0 ≠ hget d .LNK_HOIST_ID ∨
    hget d .LNK_HOIST_STATE ≠ 2 ∨ hget d .LNK_HOIST_PARENT ≠ n := by
  rw [HoistDownOwn, not_and_or, not_and_or, not_hoistOwn_iff, or_assoc]
  rfl

theorem hoistDownArrives_of_own (hhead : takeCtl d n 0x24 = some (p, d')) (hown : HoistDownOwn n p d') :
    hoistDownArrives e n d = sendHoistDown e d' := by
  simp only [hoistDownArrives, hhead, if_neg (mt not_hoistDownOwn_iff.2 (not_not_intro hown))]

theorem hoistDownArrives_of_other (hhead : takeCtl d n 0x24 = some (p, d')) (hother : ¬ HoistDownOwn n p d') :
    hoistDownArrives e n d = d' := by
  simp only [hoistDownArrives, hhead, if_pos (not_hoistDownOwn_iff.1 hother)]

/-! The release, and the failure. -/

theorem hoistRelease_of_arrived (harrived : d.hoistArrived = true)
    (hstate : rget d ⟨.LNK_HOIST_STATE, 0, 0, 0⟩ = 1 ∨ rget d ⟨.LNK_HOIST_STATE, 0, 0, 0⟩ = 2) :
    hoistRelease e d = hoistReleases e d := if_pos ⟨harrived, hstate⟩

theorem hoistWired_of_entered (hwired : rget d ⟨.LNK_HOIST_WIRED, 0, 0, 0⟩ = 1) (hstate : rget d ⟨.LNK_HOIST_STATE, 0, 0, 0⟩ = 1)
    (hpins : pinsTaken d = false) : hoistWired e d = hoistReleases e d :=
  if_pos ⟨hwired, hstate, by rw [hpins]; rfl⟩

theorem hoistFails_of_entered (hstate : rget d ⟨.LNK_HOIST_STATE, 0, 0, 0⟩ = 1 ∨ rget d ⟨.LNK_HOIST_STATE, 0, 0, 0⟩ = 2) :
    hoistFails e d = linkIrq (hoistState 4
      { logError e { cls := 0x0407, level := 4, kind := 2, syn := rget d ⟨.LNK_HOIST_ID, 0, 0, 0⟩ } d with
        hoistArrived := false, hoistUps := [] }) := if_pos hstate

end

theorem hoistUp_gives {s : State} {n : Nat} (hn : n < 36) (hr : Runs s) :
    Gives (.hoistUp n) s (hoistUpArrives s.env n s.dev) :=
  gives_of_act (f := fun e d => hoistUpArrives e n d) rfl (decide_eq_true hn) hr

/-- Settles O43: each packet and each command of the hoist, by the hoist's state. -/
theorem hoistsRunAsTheirTableStates : Obligations.HoistsRunAsTheirTableStates := by
  intro s n p d e get st own down put named released err failed hn hr
  have hup := hoistUp_gives hn hr
  have hdown : Gives (.hoistDown n) s (hoistDownArrives s.env n s.dev) :=
    gives_of_act (f := fun e d => hoistDownArrives e n d) rfl (decide_eq_true hn) hr
  refine ⟨fun hs hstate => ?_, fun hhead hown => ?_, fun hhead hother => ?_, fun hhead hown => ?_, fun hhead hother => ?_,
    fun harrived hstate => ?_, fun hwired hstate hpins => ?_, fun hstate => ⟨?_, fun hs => ?_⟩⟩
  · exact gives_congr (gives_of_actT (f := hoistEnter) rfl rfl hs) (hoistEnter_of_idle hstate)
  · exact gives_congr hup (hoistUpArrives_of_own hhead hown)
  · exact gives_congr hup (hoistUpArrives_of_other hhead hother)
  · exact gives_congr hdown (hoistDownArrives_of_own hhead hown)
  · exact gives_congr hdown (hoistDownArrives_of_other hhead hother)
  · exact gives_congr (gives_of_act (f := hoistRelease) rfl rfl hr) (hoistRelease_of_arrived harrived hstate)
  · exact gives_congr (gives_of_act (f := hoistWired) rfl rfl hr) (hoistWired_of_entered hwired hstate hpins)
  · exact gives_congr (gives_of_act (f := hoistFails) rfl rfl hr) (hoistFails_of_entered hstate)
  · exact gives_congr (gives_of_actT (f := hoistFails) rfl rfl hs) (hoistFails_of_entered hstate)

/-- Settles O44: the last child's HOIST_UP completes the hoist, which goes to the parent's link or, at the root, to every child's. -/
theorem theRootPassesTheHoistDown : Obligations.TheRootPassesTheHoistDown := by
  intro s n p d get sent hn hr hhead hwired hbody hstate harrived hchildren
  have hunwired : rget d ⟨.LNK_HOIST_WIRED, 0, 0, 0⟩ ≠ 1 := fun h => Nat.zero_ne_one (hwired.symm.trans h)
  have hups : ∀ m ∈ hoistChildren d, m * 256 + get .LNK_HOIST_ID ∈ (childUp n d).hoistUps := fun m hm =>
    mem_childUp.2 ((hchildren m hm).imp_left fun hmn : m = n => by rw [hmn])
  have hgives := gives_congr (hoistUp_gives hn hr) ((hoistUpArrives_of_own hhead ⟨hunwired, hbody⟩).trans
    (hoistAllUp_of_complete hstate hwired hups harrived))
  refine ⟨fun hparent => ?_, fun hparent => ?_⟩
  · have hchild : ¬ rget (childUp n d) ⟨.LNK_HOIST_PARENT, 0, 0, 0⟩ = 63 := fun h => by
      have hroot : get .LNK_HOIST_PARENT = 63 := h
      omega
    rw [if_neg hchild] at hgives
    refine ⟨_, hgives, ?_, ?_, fun m hm => ?_⟩
    · exact (rget_inCycle _ _ (by simp)).trans (rget_rset_same ..)
    · exact (congrArg Link.ctl (getLink_inCycle ..)).trans (ctl_sendCtl_same ..)
    · exact (congrArg Link.ctl (getLink_inCycle ..)).trans (ctl_sendCtl_ne _ _ _ hm)
  · have hroot : rget (childUp n d) ⟨.LNK_HOIST_PARENT, 0, 0, 0⟩ = 63 := hparent
    rw [if_pos hroot, sendHoistDown_eq] at hgives
    refine ⟨_, hgives, ?_, ?_, fun m => ?_⟩
    · exact (rget_inCycle _ _ (by simp)).trans ((rget_congr (foldl_sendDown_regs ..) _).trans hstate)
    · exact (inCycle_hoistArrived ..).trans (foldl_sendDown_hoistArrived ..)
    · have hctl := (congrArg Link.ctl (getLink_inCycle s.dev _ m)).trans
        (ctl_foldl_sendDown s.env (hoistChildren_nodup (childUp n d)) { childUp n d with hoistArrived := true } m)
      split
      · rename_i hmem
        exact hctl.trans (congrArg _ (if_pos hmem))
      · rename_i hmem
        exact hctl.trans ((congrArg _ (if_neg hmem)).trans (List.append_nil _))

end Sys2Proof.Machine
end

section
/-! SUPPORT. Every command in every state (R399 to R401, R403): it completes where its units exist, the queue stays as it is,
and fuses only burn. One case split over the commands, by the way in which each reaches the device. -/

namespace Sys2Proof.Machine

/-! Fuses. -/

/-- What no command can undo: the fuses, and the modulus of the identity key. -/
def fuses (nv : NonVol) : (Nat × Nat × Nat) × Bool × Nat × Nat × Nat × Nat :=
  ((nv.arbCount, nv.ownerBurned, nv.ownerRevoked), nv.gradeE, nv.stepping, nv.serial, nv.rootHash, nv.idModulus)

/-- The fuses nv' are those of nv, with more of them burned. -/
structure OnlyBurned (nv nv' : NonVol) : Prop where
  arb : nv.arbCount ≤ nv'.arbCount
  burned : ∀ k, nv.ownerBurned.testBit k = true → nv'.ownerBurned.testBit k = true
  revoked : ∀ k, nv.ownerRevoked.testBit k = true → nv'.ownerRevoked.testBit k = true
  grade : nv'.gradeE = nv.gradeE
  stepping : nv'.stepping = nv.stepping
  serial : nv'.serial = nv.serial
  rootHash : nv'.rootHash = nv.rootHash
  identity : nv.idModulus ≠ 0 → nv'.idModulus = nv.idModulus

theorem OnlyBurned.refl (nv : NonVol) : OnlyBurned nv nv :=
  ⟨le_rfl, fun _ h => h, fun _ h => h, rfl, rfl, rfl, rfl, fun _ => rfl⟩

theorem OnlyBurned.trans {a b c : NonVol} (h : OnlyBurned a b) (k : OnlyBurned b c) : OnlyBurned a c where
  arb := h.arb.trans k.arb
  burned := fun n hn => k.burned n (h.burned n hn)
  revoked := fun n hn => k.revoked n (h.revoked n hn)
  grade := k.grade.trans h.grade
  stepping := k.stepping.trans h.stepping
  serial := k.serial.trans h.serial
  rootHash := k.rootHash.trans h.rootHash
  identity := fun hn => (k.identity ((h.identity hn).symm ▸ hn)).trans (h.identity hn)

/-- A write of the boot flash burns nothing. -/
theorem OnlyBurned.of_fuses {nv nv' : NonVol} (h : fuses nv' = fuses nv) : OnlyBurned nv nv' := by
  unfold fuses at h
  simp only [Prod.ext_iff] at h
  obtain ⟨⟨harb, hburned, hrevoked⟩, hgrade, hstepping, hserial, hroot, hidentity⟩ := h
  exact ⟨harb.ge, fun k hk => hburned ▸ hk, fun k hk => hrevoked ▸ hk, hgrade, hstepping, hserial, hroot, fun _ => hidentity⟩

theorem testBit_lor_of_left {a : Nat} (b : Nat) {k : Nat} (h : a.testBit k = true) : (a ||| b).testBit k = true := by
  rw [Nat.testBit_or, h, Bool.true_or]

theorem onlyBurned_fuseDone (op : FuseOp) (nv : NonVol) : OnlyBurned nv (fuseDone op nv) := by
  cases op with
  | advance t => exact { OnlyBurned.refl nv with arb := Nat.le_max_left _ _ }
  | burn slot hash => exact { OnlyBurned.refl nv with burned := fun _ h => testBit_lor_of_left _ h }
  | revoke slot => exact { OnlyBurned.refl nv with revoked := fun _ h => testBit_lor_of_left _ h }

/-- Whatever a failing operation leaves, it leaves nothing unburned. -/
theorem onlyBurned_fuseCut (op : FuseOp) (x : Nat) (nv : NonVol) : OnlyBurned nv (fuseCut op x nv) := by
  have hslot : OnlyBurned nv (if x % 2 = 1 then fuseDone op nv else nv) := by
    split
    · exact onlyBurned_fuseDone op nv
    · exact .refl nv
  cases op with
  | advance t => exact { OnlyBurned.refl nv with arb := Nat.le_add_right _ _ }
  | burn slot hash => exact hslot
  | revoke slot => exact hslot

theorem onlyBurned_fusesKept (d : Dev) (nv : NonVol) : OnlyBurned nv (fusesKept d nv).1 := by
  unfold fusesKept
  split
  · exact onlyBurned_fuseCut _ _ nv
  · exact .refl nv

theorem onlyBurned_fusesFinished (d : Dev) (nv : NonVol) : OnlyBurned nv (fusesFinished d nv) := by
  unfold fusesFinished
  split
  · exact onlyBurned_fuseDone _ nv
  · exact .refl nv

/-! The commands that write fuses or the boot flash. -/

theorem onlyBurned_fuseEnds (e : Env) (ok : Bool) (d : Dev) : OnlyBurned e.nv (fuseEnds e ok d).1 := by
  unfold fuseEnds
  split
  · exact .refl _
  · split
    · exact onlyBurned_fuseDone _ _
    · exact onlyBurned_fuseCut _ _ _

theorem fuses_commitDone (e : Env) (rec : List Byte) (d : Dev) : fuses (commitDone e rec d).1 = fuses e.nv := by
  unfold commitDone
  split
  · rfl
  · dsimp only
    split <;> rfl

theorem fuses_imageTaken (e : Env) (r : VerifyReq) (bs : List Byte) (im : Image) (c : Cert) (d : Dev) :
    fuses (imageTaken e r bs im c d).1 = fuses e.nv := by
  unfold imageTaken
  split
  · unfold fwTaken
    dsimp only
    split <;> rfl
  all_goals rfl

theorem fuses_verified (e : Env) (r : VerifyReq) (bs cert : List Byte) (d : Dev) :
    fuses (verified e r bs cert d).1 = fuses e.nv := by
  unfold verified
  dsimp only
  split
  · split
    · exact fuses_imageTaken ..
    · rfl
  · rfl

theorem fuses_verifyEnds (e : Env) (bs cert : List Byte) (d : Dev) : fuses (verifyEnds e bs cert d).1 = fuses e.nv := by
  unfold verifyEnds
  split
  · rfl
  · dsimp only
    split
    · exact fuses_verified ..
    · split <;> exact fuses_verified ..

theorem fuses_fwAlive (e : Env) (d : Dev) : fuses (fwAlive e d).1 = fuses e.nv := by
  unfold fwAlive
  repeat' split
  all_goals rfl

theorem fuses_calApply (e : Env) (d : Dev) : fuses (calApply e d).1 = fuses e.nv := by
  unfold calApply
  split <;> rfl

theorem fuses_writeSec {e : Env} {v : Nat} {k : RegKey} {d : Dev} {r : NonVol × Dev} (h : writeSec e v k d = some r) :
    fuses r.1 = fuses e.nv := by
  unfold writeSec at h
  split at h
  case h_4 =>
    obtain rfl := Option.some.inj h
    split
    · exact fuses_fwAlive ..
    · rfl
  case h_6 =>
    obtain rfl := Option.some.inj h
    split
    · exact fuses_calApply ..
    · rfl
  case h_8 => cases h
  all_goals
    obtain rfl := Option.some.inj h
    rfl

theorem fuses_writeListed (e : Env) (off v : Nat) (imgs : List LoadImage) (d : Dev) :
    fuses (writeListed e off v imgs d).1 = fuses e.nv := by
  unfold writeListed
  split
  · rfl
  · split
    · exact fuses_writeSec ‹_›
    · rfl

theorem fuses_writeWord (e : Env) (off width v : Nat) (d : Dev) : fuses (writeWord e off width v d).1 = fuses e.nv := by
  unfold writeWord
  split
  · exact fuses_writeListed ..
  · rfl

theorem fuses_debugAccess (dr : Nat) (e : Env) (d : Dev) : fuses (debugAccess dr e d).1 = fuses e.nv := by
  unfold debugAccess
  dsimp only
  split
  · rfl
  · split
    · exact fuses_writeWord ..
    · rfl

/-! What every command keeps. -/

/-- t has the queue of s, and of its fuses none unburned. -/
structure KeepsQueueAndFuses (s t : State) : Prop where
  queue : t.pending = s.pending
  fuses : OnlyBurned s.nv t.nv

theorem KeepsQueueAndFuses.of_eq {s t : State} (hqueue : t.pending = s.pending) (hnv : t.nv = s.nv) :
    KeepsQueueAndFuses s t := ⟨hqueue, hnv ▸ .refl _⟩

/-- What is kept from t on is kept from s on, where t came of s by a change of the device and of the boot flash. -/
theorem KeepsQueueAndFuses.after {s t u : State} (k : KeepsQueueAndFuses t u) (hqueue : t.pending = s.pending)
    (hnv : Machine.fuses t.nv = Machine.fuses s.nv) : KeepsQueueAndFuses s u :=
  ⟨k.queue.trans hqueue, (OnlyBurned.of_fuses hnv).trans k.fuses⟩

/-- An outcome in s: a next state where `wf` says that the units exist, and any next state keeps the queue and the fuses. -/
structure Answers (s : State) (wf : Bool) (o : Host.Outcome State Fault Refusal) : Prop where
  completes : wf = true → Completes o
  keeps : ∀ t, o = .next t → KeepsQueueAndFuses s t

section
variable {s : State} {wf : Bool}

theorem answers_next {t : State} (h : KeepsQueueAndFuses s t) : Answers s wf (.next t) :=
  ⟨fun _ => ⟨t, rfl⟩, by rintro _ ⟨⟩; exact h⟩

theorem answers_guarded {ok : Prop} [Decidable ok] {o : Host.Outcome State Fault Refusal} {r : Refusal}
    (hok : wf = true → ok) (h : Answers s wf o) : Answers s wf (if ok then o else .refused r) := by
  refine ⟨fun hwf => ?_, fun t ht => ?_⟩
  · rw [if_pos (hok hwf)]
    exact h.completes hwf
  · split at ht
    · exact h.keeps t ht
    · cases ht

theorem answers_act {ok : Bool} (hok : wf = true → ok = true) (f : Env → Dev → Dev) : Answers s wf (act s ok f) :=
  answers_guarded hok (answers_next (.of_eq rfl rfl))

theorem answers_actT {ok : Bool} (hok : wf = true → ok = true) (f : Env → Dev → Dev) : Answers s wf (actT s ok f) :=
  answers_act hok _

theorem answers_actNv {f : Env → Dev → NonVol × Dev} (hf : ∀ e d, OnlyBurned e.nv (f e d).1) : Answers s wf (actNv s f) := by
  unfold actNv
  split
  · exact answers_next ⟨rfl, hf ⟨s.clk, s.nv⟩ s.dev⟩
  · exact answers_next (.of_eq rfl rfl)

theorem answers_actTNv {f : Env → Dev → NonVol × Dev} (hf : ∀ e d, fuses (f e d).1 = fuses e.nv) :
    Answers s wf (actTNv s f) := by
  refine answers_actNv fun e d => ?_
  split
  · exact .of_fuses (hf e d)
  · exact .refl _

theorem answers_actP (f : Env → Dev → Dev) : Answers s wf (actP s f) := answers_next (.of_eq rfl rfl)

end

/-! Supplies, reset and the pins. -/

theorem keeps_shutDown (s : State) : KeepsQueueAndFuses s (shutDown s) := ⟨rfl, onlyBurned_fusesKept s.dev s.nv⟩

/-- A reset lets a fuse operation under way complete (R432). -/
theorem keeps_resetSeen (s : State) : KeepsQueueAndFuses s (resetSeen s) := by
  unfold resetSeen
  dsimp only
  split
  · exact .of_eq rfl rfl
  · split
    · split <;> exact .of_eq rfl rfl
    · split
      · exact ⟨rfl, onlyBurned_fusesFinished s.dev s.nv⟩
      · exact .of_eq rfl rfl

theorem keeps_pinsBack (s : State) : KeepsQueueAndFuses s (pinsBack s) :=
  (keeps_resetSeen _).after rfl rfl

theorem keeps_vinFails (s : State) : KeepsQueueAndFuses s (vinFails s) :=
  ⟨rfl, (keeps_shutDown s).fuses⟩

theorem keeps_throttlePin (high : Bool) (s : State) : KeepsQueueAndFuses s (throttlePin high s) := by
  unfold throttlePin
  exact .of_eq rfl rfl

theorem keeps_softStart (s : State) : KeepsQueueAndFuses s (softStart s) := by
  unfold softStart
  split <;> exact .of_eq rfl rfl

theorem keeps_railsUp (s : State) : KeepsQueueAndFuses s (railsUp s) := by
  unfold railsUp
  split
  · exact (keeps_resetSeen _).after rfl rfl
  · exact .of_eq rfl rfl

theorem keeps_identityMade (modulus : Nat) (signer cert : List Byte) (s : State) :
    KeepsQueueAndFuses s (identityMade modulus signer cert s) := by
  unfold identityMade
  split
  · rename_i h
    obtain ⟨-, hnone, -, -⟩ := h
    exact ⟨rfl, { OnlyBurned.refl s.nv with identity := fun hsome => absurd hnone hsome }⟩
  · exact .of_eq rfl rfl

theorem keeps_timeArrives (n : Nat) (s : State) : KeepsQueueAndFuses s (timeArrives n s) := by
  unfold timeArrives
  split
  · exact .of_eq rfl rfl
  · split <;> exact .of_eq rfl rfl

section
variable {s : State} {wf : Bool}

/-- A command of the test access port; the pins come back with the fuses as the command has left them. -/
theorem answers_actTap {f : Env → Dev → NonVol × Dev} (hf : ∀ e d, fuses (f e d).1 = fuses e.nv) :
    Answers s wf (actTap s f) := by
  unfold actTap
  split
  · refine answers_next ?_
    have hleft := hf ⟨s.clk, s.nv⟩ (tckRuns s.dev)
    split
    · exact (keeps_pinsBack _).after rfl hleft
    · exact ⟨rfl, .of_fuses hleft⟩
  · exact answers_next (.of_eq rfl rfl)

theorem answers_actJ (f : Env → Dev → Dev) : Answers s wf (actJ s f) := answers_actTap fun _ _ => rfl

end

/-- Every command completes where it is well formed, and keeps the queue and the fuses. -/
theorem exec_answers (i : Instr) (s : State) : Answers s i.wf (exec i s) := by
  cases i <;> dsimp only [exec]
  case time n => exact answers_guarded of_decide_eq_true (answers_next (by split; exacts [keeps_timeArrives n s, .of_eq rfl rfl]))
  case refclk100ALoss => exact answers_next (.of_eq rfl rfl)
  case undervoltageShutdown | overvoltageShutdown => exact answers_next (keeps_vinFails s)
  case refclk100BLoss | breakerTrip => exact answers_next (keeps_shutDown s)
  case modMatedNHigh => exact answers_next ((keeps_shutDown _).after rfl rfl)
  case powerUp | modMatedNLow => exact answers_next ((keeps_softStart _).after rfl rfl)
  case modRstNAssert | modRstNDeassert => exact answers_next ((keeps_resetSeen _).after rfl rfl)
  case railsInRegulation => exact answers_next (keeps_railsUp s)
  case identityKeyGenerated => exact answers_next (keeps_identityMade _ _ _ s)
  case throttleAssert | throttleRelease => exact answers_next (keeps_throttlePin _ s)
  case fuseOpDone ok => exact answers_actNv fun e d => onlyBurned_fuseEnds e ok d
  case cfgCommitDone => exact answers_actNv fun e d => .of_fuses (fuses_commitDone e _ d)
  case verifyDone => exact answers_actNv fun e d => .of_fuses (fuses_verifyEnds e _ _ d)
  case secFwAlive => exact answers_actTNv fuses_fwAlive
  case secCalApply => exact answers_actTNv fuses_calApply
  case registerWrite => exact answers_actTNv fun e d => fuses_writeWord e _ _ _ d
  case monConfigWrite => exact answers_guarded (fun h => by simp [Instr.wf] at h; exact h.1) (answers_actTNv fun e d => fuses_writeWord e _ _ _ d)
  case regRead | mboxWrite | mboxRead | entdaa | rstdaa | enec | disec | getpid | getbcr | getdcr | getstatus | getmwl | getmrl
    | hotJoin => exact answers_actP _
  case extest | idcode | samplePreload | clamp | highz | jtagTrstN => exact answers_actJ _
  case dbgAccess => exact answers_actTap (fuses_debugAccess _)
  case bypass =>
    unfold execBypass
    split
    · exact answers_actJ _
    · exact answers_next (.of_eq rfl rfl)
  case ringDoorbell | clkArmGo | clkArmCancel | clkRcSetGo | lnkHoistEnter | lnkHoistAbandon | testRcpGo | testRcpAbort | pwrBudgetW
    | cfgStageClear | cfgCommit | cfgMboxInAck | cfgMboxOutPost | secArbAdvance | secOwnerBurn | secOwnerRevoke
    | secVerifyGo | secFwHandover | secUcGo | secAttGo | testMarkSuspect | testMarkNote | testDrain | testPackLoad
    | monSnapGo | logDrainEn | logRingCons | pairLowRead => exact answers_actT (fun _ => rfl) _
  case ringCmdRetry | ringEn | ringCqCons | ringEqCons | ethDoorbell | ethQpEn | tileDmaPause | tileDmaResume
    | tileHalt | tileResume | tilePenWrite | hbmRetireGo | lnkEnSet | lnkEnClear | lnkRetrainGo | lnkLaneRetire
    | cfgStage | testLGo | testLTile | monClear => exact answers_actT (fun h => h) _
  case recordComplete | recordAged | hazardWaitLimit | deadlinePass | descReread | rdmaRead | rdmaWrite | send | nvmeRead | nvmeWrite
    | wcbEvict | tileScrub | flitRx | linkTrainingEnd | linkRetrainEnd | tokenGrant => exact answers_act Bool.and_elim_left _
  case tileCtxEn => exact answers_actT Bool.and_elim_left _
  case descReadReturn => exact answers_act (fun h => Bool.and_elim_left (Bool.and_elim_left h)) _
  case testLAbort => exact answers_actT (fun h => Bool.and_elim_left (Bool.and_elim_left h)) _
  case hbmRead | hbmWrite | powerSample => exact answers_act (fun _ => rfl) _
  all_goals exact answers_act (fun h => h) _

theorem tick_nv (s : State) : (tick s).nv = s.nv := by
  unfold tick
  dsimp only
  split <;> rfl

/-- What a step keeps of the fuses: a command's, or a nanosecond's. -/
theorem step_onlyBurned {s t : State} (h : step s = .next t) : OnlyBurned s.nv t.nv := by
  unfold step at h
  split at h
  · obtain rfl := Host.Outcome.next.inj h
    exact (tick_nv s).symm ▸ .refl _
  · rename_i c rest _
    exact ((exec_answers c { s with pending := rest }).keeps t h).fuses

theorem step_front (c : Instr) (rest : List Instr) (s : State) :
    step { s with pending := c :: rest } = exec c { s with pending := rest } := rfl

/-- A well-formed command answers a state with the queue as it was. -/
theorem exec_completes {c : Instr} (hwf : c.wf = true) (s : State) : ∃ t, exec c s = .next t ∧ t.pending = s.pending := by
  obtain ⟨t, ht⟩ := (exec_answers c s).completes hwf
  exact ⟨t, ht, ((exec_answers c s).keeps t ht).queue⟩

/-- Settles O4: a step burns fuses and unburns none. -/
theorem fusesOnlyBurn : Obligations.FusesOnlyBurn := by
  intro s t h
  obtain ⟨harb, hburned, hrevoked, hgrade, hstepping, hserial, hroot, hidentity⟩ := step_onlyBurned h
  exact ⟨harb, hburned, hrevoked, hgrade, hstepping, hserial, hroot, hidentity⟩

/-- Settles O3: every well-formed command completes and keeps the queue. -/
theorem commandsCompleteAndKeepTheQueue : Obligations.CommandsCompleteAndKeepTheQueue :=
  fun _ rest s hwf => ⟨exec_completes hwf s, exec_completes hwf { s with pending := rest }⟩

/-- Settles O1: the step runs the front command on the rest of the queue. -/
theorem stepRunsFrontCommand : Obligations.StepRunsFrontCommand := step_front

end Sys2Proof.Machine
end

section
/-! SUPPORT. The management port and its mailbox (R433 to R435), and the boundary scan (R436). -/

namespace Sys2Proof.Machine

/-- A write of one register leaves every other. -/
theorem rget_rset_of_reg (d : Dev) {k j : RegKey} (v : Nat) (h : j.reg ≠ k.reg) : rget (rset d k v) j = rget d j :=
  rget_rset_ne d v fun hk => h (congrArg RegKey.reg hk)

/-! Words of an array of registers, written one after another. -/

/-- Words 0 to n − 1 of a register array take the values of f. -/
def setWords (r : Reg) (f : Nat → Nat) (n : Nat) (d : Dev) : Dev :=
  (List.range n).foldl (fun d w => rset d ⟨r, w, 0, 0⟩ (f w)) d

theorem setWords_succ (r : Reg) (f : Nat → Nat) (n : Nat) (d : Dev) :
    setWords r f (n + 1) d = rset (setWords r f n d) ⟨r, n, 0, 0⟩ (f n) := by
  rw [setWords, List.range_succ, List.foldl_append]
  rfl

theorem rget_setWords (r : Reg) (f : Nat → Nat) (n : Nat) (d : Dev) (w : Nat) :
    rget (setWords r f n d) ⟨r, w, 0, 0⟩ = if w < n then f w % 2 ^ r.bits else rget d ⟨r, w, 0, 0⟩ := by
  induction n with
  | zero => rfl
  | succ n ih =>
    rw [setWords_succ, rget_rset]
    by_cases h : w = n
    · subst h
      rw [if_pos rfl, if_pos (Nat.lt_succ_self w)]
    · have hkey : (⟨r, w, 0, 0⟩ : RegKey) ≠ ⟨r, n, 0, 0⟩ := fun hk => h (congrArg RegKey.i hk)
      have hlt : w < n + 1 ↔ w < n := by omega
      rw [if_neg hkey, ih]
      simp only [hlt]

theorem rget_setWords_ne {r : Reg} {k : RegKey} (hk : k.reg ≠ r) (f : Nat → Nat) (n : Nat) (d : Dev) :
    rget (setWords r f n d) k = rget d k := by
  induction n with
  | zero => rfl
  | succ n ih => rw [setWords_succ, rget_rset_of_reg _ _ hk, ih]

@[simp] theorem setWords_outbox (r : Reg) (f : Nat → Nat) (n : Nat) (d : Dev) : (setWords r f n d).outbox = d.outbox := by
  induction n with
  | zero => rfl
  | succ n ih => rw [setWords_succ, rset_outbox, ih]

/-! Bytes of a little-endian number (R9). -/

theorem leNat_byte (l : List Byte) (k : Nat) : leNat l / 256 ^ k % 256 = (l.getD k 0).toNat := by
  induction l generalizing k with
  | nil => simp [leNat]
  | cons b l ih =>
    have hb : b.toNat < 256 := b.isLt
    cases k with
    | zero => simp only [leNat, Nat.pow_zero, Nat.div_one, List.getD_cons_zero]; omega
    | succ k =>
      rw [leNat, Nat.pow_succ', ← Nat.div_div_eq_div_mul, show (b.toNat + 256 * leNat l) / 256 = leNat l by omega, ih,
        List.getD_cons_succ]

/-- The bytes of a word do not see what lies beyond it. -/
theorem byte_of_word (n : Nat) {k : Nat} (hk : k < 4) : n % 2 ^ 32 / 256 ^ k % 256 = n / 256 ^ k % 256 := by
  obtain rfl | rfl | rfl | rfl : k = 0 ∨ k = 1 ∨ k = 2 ∨ k = 3 := by omega
  all_goals omega

/-! Commands of the management port. -/

section
variable {s : State} {i : Instr} {f : Env → Dev → Dev} (hp : powered s.dev = true) (hpins : pinsTaken s.dev = false)
include hp hpins

theorem gives_of_actP (hi : exec i s = actP s f) : Gives i s (f s.env s.dev) := hi.trans (actP_of_powered hp hpins f)

theorem gives_of_addressed (hi : exec i s = actP s (addressed f)) (ha : s.dev.i3c.addr ≠ none) :
    Gives i s (f s.env s.dev) :=
  gives_congr (gives_of_actP hp hpins hi) (if_pos (Option.isSome_iff_ne_none.2 ha))

end

/-- While the boundary scan has the pins, nothing reaches the management port. -/
theorem gives_of_actP_taken {s : State} {i : Instr} {f : Env → Dev → Dev} (hpins : pinsTaken s.dev = true)
    (hi : exec i s = actP s f) : Gives i s s.dev := by
  simp [Gives, hi, actP, hpins]

theorem provisionedId_eq (nv : NonVol) (d : Dev) :
    provisionedId nv d = nv.serial % 2 ^ 26 + slotId d % 64 * 2 ^ 26 + 2 ^ 32 + 0x1A57 * 2 ^ 33 := by
  simp only [provisionedId, packFields]
  omega

theorem takeAddress_of_none {d : Dev} (h : d.i3c.addr = none) (addr : Nat) (e : Env) : takeAddress addr e d =
    emit (.word (provisionedId e.nv d * 2 ^ 16)) { d with i3c := { d.i3c with addr := some addr } } := by
  simp [takeAddress, h]

theorem joinRequest_of_due {d : Dev} (hnone : d.i3c.addr = none) (hon : d.i3c.hotJoinOn = true)
    (hmade : d.i3c.hotJoinMade = false) : joinRequest d = emit .hotJoin { d with i3c := { d.i3c with hotJoinMade := true } } := by
  simp [joinRequest, hnone, hon, hmade]

/-! Commands of the test access port: where one ends EXTEST, CLAMP or HIGHZ, the pins come back. -/

section
variable {s : State} {i : Instr} {f : Env → Dev → Dev} {x : Dev} (hp : powered s.dev = true)
  (hi : exec i s = actJ s f) (hx : f s.env (tckRuns s.dev) = x) (hlog : x.logNext = s.dev.logNext)
include hp hi hx hlog

theorem exec_of_actJ :
    exec i s = .next (if pinsTaken s.dev ∧ !pinsTaken x then pinsBack { s with dev := x } else { s with dev := x }) := by
  subst hx
  refine (hi.trans (actTap_of_powered hp _)).trans ?_
  simp only [inCycle_of_logNext hlog]
  rfl

theorem gives_of_actJ {n : JtagInstr} (hn : x.jtag.instr = n) (hheld : n = .extest ∨ n = .clamp ∨ n = .highz) : Gives i s x := by
  have htaken : pinsTaken x = true := by simpa [pinsTaken, hn, or_assoc] using hheld
  refine (exec_of_actJ hp hi hx hlog).trans ?_
  rw [inCycle_of_logNext hlog, if_neg (by simp [htaken])]

theorem exec_of_actJ_released {n : JtagInstr} (hn : x.jtag.instr = n) (hheld : ¬ (n = .extest ∨ n = .clamp ∨ n = .highz)) :
    exec i s = .next (if pinsTaken s.dev = true then pinsBack { s with dev := x } else { s with dev := x }) := by
  have hfree : pinsTaken x = false := by simpa [pinsTaken, hn, and_assoc] using hheld
  simp [exec_of_actJ hp hi hx hlog, hfree]

end

theorem scan_eq (shift : Nat) (d : Dev) : scan shift d = emit (.word (captured d (Config.freeNat d.free)))
    { d with free := d.free + 1, jtag := { d.jtag with bsr := shift } } := rfl

/-- Every opcode of no other instruction selects BYPASS. -/
theorem opcodeInstr_of_other {n : Nat} (h : n ∉ [0x00, 0x01, 0x02, 0x04, 0x05, 0x20]) : opcodeInstr n = .bypass := by
  simp only [List.mem_cons, List.not_mem_nil, or_false, not_or] at h
  obtain ⟨h0, h1, h2, h4, h5, h20⟩ := h
  unfold opcodeInstr
  split
  case h_7 => rfl
  all_goals contradiction

/-! The mailbox. -/

/-- Word w of a message's bytes. -/
def mailWord (bs : List Byte) (w : Nat) : Nat :=
  memNat ((List.range 4).map (fun i => (4 * w + i, bs.getD (4 * w + i) 0))) (4 * w) 4

theorem mailWord_eq (bs : List Byte) (w : Nat) :
    mailWord bs w = leNat [bs.getD (4 * w) 0, bs.getD (4 * w + 1) 0, bs.getD (4 * w + 2) 0, bs.getD (4 * w + 3) 0] := by
  have hread (n : Nat) : memNat [(n, bs.getD n 0), (n + 1, bs.getD (n + 1) 0), (n + 2, bs.getD (n + 2) 0), (n + 3, bs.getD (n + 3) 0)] n 4 =
      leNat [bs.getD n 0, bs.getD (n + 1) 0, bs.getD (n + 2) 0, bs.getD (n + 3) 0] := by
    have h2 : n ≠ n + 1 + 1 := by omega
    have h3 : n ≠ n + 1 + 1 + 1 := by omega
    simp [memNat, memRead, memGet, tblGet, h2, h3]
  exact hread (4 * w)

theorem mailWord_byte (bs : List Byte) (w : Nat) {k : Nat} (hk : k < 4) :
    mailWord bs w / 256 ^ k % 256 = (bs.getD (4 * w + k) 0).toNat := by
  rw [mailWord_eq, leNat_byte]
  obtain rfl | rfl | rfl | rfl : k = 0 ∨ k = 1 ∨ k = 2 ∨ k = 3 := by omega
  all_goals rfl

/-- The words and the length of a message are in the mailbox, and it is full. -/
def mailHeld (len : Nat) (bs : List Byte) (d : Dev) : Dev :=
  sset .CFG_MBOX_IN_FULL 1 (sset .CFG_MBOX_IN_LEN len (setWords .CFG_MBOX_IN (mailWord bs) ((len + 3) / 4) d))

section
variable {d : Dev} {len : Nat} {bytes : List Byte}

theorem mailIn_refused (h : rget d ⟨.CFG_MBOX_IN_FULL, 0, 0, 0⟩ = 1 ∨ len = 0 ∨ 256 < len) :
    mailIn len bytes d = emit .nack d := if_pos h

theorem mailIn_taken (hfree : rget d ⟨.CFG_MBOX_IN_FULL, 0, 0, 0⟩ = 0) (hlow : 1 ≤ len) (hhigh : len ≤ 256)
    (hbytes : len ≤ bytes.length) : mailIn len bytes d =
      let d' := mailHeld len (bytes.take len) d
      if rget d ⟨.CFG_MBOX_IRQ_EN, 0, 0, 0⟩ = 1 then sendIrq (rget d ⟨.CFG_MBOX_IRQ_VEC, 0, 0, 0⟩) d' else d' := by
  have htaken : ¬ (sget d .CFG_MBOX_IN_FULL = 1 ∨ len = 0 ∨ 256 < len) := by
    rw [show sget d .CFG_MBOX_IN_FULL = 0 from hfree]
    omega
  have hsame (r : Reg) (hin : r ≠ .CFG_MBOX_IN) (hlen : r ≠ .CFG_MBOX_IN_LEN) (hfull : r ≠ .CFG_MBOX_IN_FULL) :
      sget (mailHeld len (bytes.take len) d) r = sget d r := by
    rw [sget, mailHeld, sset, sset, rget_rset_of_reg _ _ hfull, rget_rset_of_reg _ _ hlen, rget_setWords_ne hin]
    rfl
  unfold mailIn
  rw [if_neg htaken, if_neg (Nat.not_lt.2 hbytes)]
  show (if sget (mailHeld len (bytes.take len) d) .CFG_MBOX_IRQ_EN = 1 then
    sendIrq (sget (mailHeld len (bytes.take len) d) .CFG_MBOX_IRQ_VEC) (mailHeld len (bytes.take len) d)
    else mailHeld len (bytes.take len) d) = _
  rw [hsame .CFG_MBOX_IRQ_EN (by decide) (by decide) (by decide), hsame .CFG_MBOX_IRQ_VEC (by decide) (by decide) (by decide)]
  rfl

theorem mailOut_of_empty (h : rget d ⟨.CFG_MBOX_OUT_FULL, 0, 0, 0⟩ = 0) (count : Nat) :
    mailOut count d = emit (.i3c ([0, 0].take count)) d := if_pos h

/-- The posted reply as it goes out, its length before it. -/
def mailSent (d : Dev) : List Byte :=
  leBytes (sget d .CFG_MBOX_OUT_LEN) 2 ++
    ((List.range 64).flatMap (fun w => leBytes (rget d ⟨.CFG_MBOX_OUT, w, 0, 0⟩) 4)).take (sget d .CFG_MBOX_OUT_LEN)

theorem mailOut_of_posted (h : rget d ⟨.CFG_MBOX_OUT_FULL, 0, 0, 0⟩ = 1) (count : Nat) : mailOut count d =
    let d' := emit (.i3c ((mailSent d).take count)) d
    if sget d .CFG_MBOX_OUT_LEN + 2 ≤ count then sset .CFG_MBOX_OUT_FULL 0 d' else d' := by
  have hfull : ¬ sget d .CFG_MBOX_OUT_FULL = 0 := fun h0 => Nat.one_ne_zero (h.symm.trans h0)
  exact if_neg hfull

theorem mailPost_of_empty (e : Env) (h : rget d ⟨.CFG_MBOX_OUT_FULL, 0, 0, 0⟩ = 0) :
    mailPost e d = rset d ⟨.CFG_MBOX_OUT_FULL, 0, 0, 0⟩ 1 := by
  have hempty : ¬ sget d .CFG_MBOX_OUT_FULL = 1 := fun h1 => Nat.zero_ne_one (h.symm.trans h1)
  exact if_neg hempty

theorem mailPost_of_waiting (e : Env) (h : rget d ⟨.CFG_MBOX_OUT_FULL, 0, 0, 0⟩ = 1) :
    mailPost e d = regAccess e (regOffset ⟨.CFG_MBOX_OUT_POST, 0, 0, 0⟩) true d := if_pos h

theorem rget_mailIn_taken (hfree : rget d ⟨.CFG_MBOX_IN_FULL, 0, 0, 0⟩ = 0) (hlow : 1 ≤ len) (hhigh : len ≤ 256)
    (hbytes : len ≤ bytes.length) (k : RegKey) :
    rget (mailIn len bytes d) k = rget (mailHeld len (bytes.take len) d) k := by
  rw [mailIn_taken hfree hlow hhigh hbytes]
  dsimp only
  split <;> rfl

theorem mailIn_taken_outbox (hfree : rget d ⟨.CFG_MBOX_IN_FULL, 0, 0, 0⟩ = 0) (hlow : 1 ≤ len) (hhigh : len ≤ 256)
    (hbytes : len ≤ bytes.length) : (mailIn len bytes d).outbox = d.outbox ++
      (if rget d ⟨.CFG_MBOX_IRQ_EN, 0, 0, 0⟩ = 1 then [.irq (rget d ⟨.CFG_MBOX_IRQ_VEC, 0, 0, 0⟩)] else []) := by
  have hheld : (mailHeld len (bytes.take len) d).outbox = d.outbox := setWords_outbox ..
  rw [mailIn_taken hfree hlow hhigh hbytes]
  dsimp only
  split
  · exact congrArg (· ++ _) hheld
  · rw [hheld, List.append_nil]

/-- The words of the mailbox after a message. -/
theorem mailHeld_word (bs : List Byte) (w : Nat) : rget (mailHeld len bs d) ⟨.CFG_MBOX_IN, w, 0, 0⟩ =
    if w < (len + 3) / 4 then mailWord bs w % 2 ^ 32 else rget d ⟨.CFG_MBOX_IN, w, 0, 0⟩ := by
  have hfull : Reg.CFG_MBOX_IN ≠ .CFG_MBOX_IN_FULL := by decide
  have hlen : Reg.CFG_MBOX_IN ≠ .CFG_MBOX_IN_LEN := by decide
  rw [mailHeld, sset, sset, rget_rset_of_reg _ _ hfull, rget_rset_of_reg _ _ hlen, rget_setWords]
  rfl

theorem mailHeld_len (bs : List Byte) (hlen : len ≤ 256) : rget (mailHeld len bs d) ⟨.CFG_MBOX_IN_LEN, 0, 0, 0⟩ = len := by
  rw [mailHeld, sset, rget_rset_of_reg _ _ (by decide), sset, rget_rset_same]
  exact Nat.mod_eq_of_lt (Nat.lt_of_le_of_lt hlen (by decide))

end

/-- Settles O58: byte by byte, the registers that a taken message leaves. -/
theorem messagesEnterTheMailbox : Obligations.MessagesEnterTheMailbox := by
  intro s len bytes get word hpower hpins ha hfree hlow hhigh hbytes
  have hgives : Gives (.mboxWrite len bytes) s (mailIn len bytes s.dev) :=
    gives_of_addressed ((powered_iff _).2 hpower) hpins (f := fun _ d => mailIn len bytes d) rfl ha
  have hreg (k : RegKey) (hk : k.reg ≠ .CLK_CTX_PEND_LOG) :
      rget (inCycle s.dev (mailIn len bytes s.dev)) k = rget (mailHeld len (bytes.take len) s.dev) k :=
    (rget_inCycle _ _ hk).trans (rget_mailIn_taken hfree hlow hhigh hbytes k)
  have hin : Reg.CFG_MBOX_IN ≠ .CLK_CTX_PEND_LOG := by decide
  refine ⟨_, hgives, ?_, ?_, fun i hi => ?_, fun w hw => ?_, ?_⟩
  · refine (hreg ⟨.CFG_MBOX_IN_FULL, 0, 0, 0⟩ (by decide)).trans ?_
    exact rget_rset_same ..
  · exact (hreg ⟨.CFG_MBOX_IN_LEN, 0, 0, 0⟩ (by decide)).trans (mailHeld_len _ hhigh)
  · have hword : word (inCycle s.dev (mailIn len bytes s.dev)) (i / 4) = mailWord (bytes.take len) (i / 4) % 2 ^ 32 :=
      (hreg ⟨.CFG_MBOX_IN, i / 4, 0, 0⟩ hin).trans ((mailHeld_word _ _).trans (if_pos (by omega)))
    have hbyte : (bytes.take len).getD i 0 = bytes.getD i 0 := by
      simp [List.getD_eq_getElem?_getD, hi]
    rw [hword, byte_of_word _ (Nat.mod_lt i (by decide)), mailWord_byte _ _ (Nat.mod_lt i (by decide)), Nat.div_add_mod, hbyte]
  · exact (hreg ⟨.CFG_MBOX_IN, w, 0, 0⟩ hin).trans ((mailHeld_word _ _).trans (if_neg (Nat.not_lt.2 hw)))
  · exact (inCycle_outbox _ _).trans (mailIn_taken_outbox hfree hlow hhigh hbytes)

/-- Settles O57: the management port's commands, the instructions of the scan, and Tabok's writes of the mailbox. -/
theorem managementAndTestPortsAnswer : Obligations.ManagementAndTestPortsAnswer := by
  intro s addr shift op len count bytes d get out slot pid at_ allow instr run scanned tap free_ bypasses free reply sent hpower
  have hp : powered s.dev = true := (powered_iff _).2 hpower
  have hread (hpins : free_) (ha : d.i3c.addr ≠ none) : Gives (.mboxRead count) s (mailOut count d) :=
    gives_of_addressed hp hpins (f := fun _ d => mailOut count d) rfl ha
  refine ⟨fun hpins hnone => ?_, fun hpins => ?_, fun hheld => ?_, fun hpins hnone hon hmade => ?_, fun hpins ha => ?_,
    fun hpins ha hempty => ?_, fun hpins ha hfull hless => ?_, fun hpins ha hfull hall => ?_, fun hpins ha hnack => ?_,
    ?_, ?_, ?_, ?_, ?_, fun hop => ?_, ?_, fun hs => ?_, fun hs hempty => ?_, fun hs hfull => ?_⟩
  · refine gives_congr (gives_of_actP hp hpins (f := takeAddress addr.toNat) rfl) ?_
    rw [takeAddress_of_none hnone, provisionedId_eq]
    rfl
  · exact ⟨gives_of_actP hp hpins (f := fun _ d => { d with i3c := { d.i3c with addr := none } }) rfl,
      gives_of_actP hp hpins (f := fun _ d => { d with i3c := { d.i3c with hotJoinOn := true } }) rfl,
      gives_of_actP hp hpins (f := fun _ d => { d with i3c := { d.i3c with hotJoinOn := false } }) rfl⟩
  · have htaken : pinsTaken s.dev = true := Bool.not_eq_false _ ▸ hheld
    exact ⟨gives_of_actP_taken htaken (f := fun _ d => { d with i3c := { d.i3c with addr := none } }) rfl,
      gives_of_actP_taken htaken (f := addressed fun _ d => mailIn len bytes d) rfl,
      gives_of_actP_taken htaken (f := addressed fun _ d => mailOut count d) rfl⟩
  · exact gives_congr (gives_of_actP hp hpins (f := fun _ d => joinRequest d) rfl) (joinRequest_of_due hnone hon hmade)
  · have hfree (i : Instr) (hi : exec i s = actP s (addressed fun _ d => answerFree d)) : Gives i s free :=
      gives_of_addressed hp hpins hi ha
    refine ⟨?_, gives_of_addressed hp hpins (f := fun _ d => emit (.word 0) d) rfl ha,
      gives_of_addressed hp hpins (f := fun _ d => emit (.word 0) d) rfl ha, hfree .getstatus rfl, hfree .getmwl rfl, hfree .getmrl rfl⟩
    refine gives_congr (gives_of_addressed hp hpins (f := fun e d => emit (.word (provisionedId e.nv d)) d) rfl ha) ?_
    rw [provisionedId_eq]
    rfl
  · exact gives_congr (hread hpins ha) (mailOut_of_empty hempty count)
  · exact gives_congr (hread hpins ha) ((mailOut_of_posted hfull count).trans (if_neg (Nat.not_le.2 hless)))
  · exact gives_congr (hread hpins ha) ((mailOut_of_posted hfull count).trans (if_pos hall))
  · exact gives_congr (gives_of_addressed hp hpins (f := fun _ d => mailIn len bytes d) rfl ha) (mailIn_refused hnack)
  · exact gives_of_actJ hp (n := .extest) (f := fun _ d => scan shift.toNat (takeInstr .extest d))
      rfl (scan_eq ..) rfl rfl (by decide)
  · exact gives_of_actJ hp (n := .clamp) (f := fun _ d => takeInstr .clamp d) rfl rfl rfl rfl (by decide)
  · exact gives_of_actJ hp (n := .highz) (f := fun _ d => takeInstr .highz d) rfl rfl rfl rfl (by decide)
  · exact exec_of_actJ_released hp (n := .samplePreload) (f := fun _ d => scan shift.toNat (takeInstr .samplePreload d))
      rfl (scan_eq ..) rfl rfl (by decide)
  · exact exec_of_actJ_released hp (n := .idcode) (f := fun e d => emit (.word (idcodeOf e.nv)) (takeInstr .idcode d))
      rfl rfl rfl rfl (by decide)
  · exact exec_of_actJ_released hp (n := .bypass) (f := fun _ d => takeInstr .bypass d)
      (if_pos (opcodeInstr_of_other hop)) rfl rfl rfl (by decide)
  · exact exec_of_actJ_released hp (n := .idcode) (f := fun _ d => { d with jtag := { d.jtag with instr := .idcode, tck := none } })
      rfl rfl rfl rfl (by decide)
  · exact gives_of_actT (f := fun _ d => sset .CFG_MBOX_IN_FULL 0 d) rfl rfl hs
  · exact gives_congr (gives_of_actT (f := fun e d => mailPost e d) rfl rfl hs) (mailPost_of_empty s.env hempty)
  · exact gives_congr (gives_of_actT (f := fun e d => mailPost e d) rfl rfl hs) (mailPost_of_waiting s.env hfull)

end Sys2Proof.Machine
end

section
/-! SUPPORT. Staging a configuration block, its checks in order, and what an accepted one leaves (R392 to R395). -/

namespace Sys2Proof.Machine

section
variable {s : State} {i : Instr} {f : Env → Dev → NonVol × Dev} {nv : NonVol} {x : Dev}

/-- While the module runs, a command that may also write fuses or boot flash gives what its meaning says. -/
theorem exec_of_actNv (hr : Runs s) (hi : exec i s = actNv s f) (hx : f s.env s.dev = (nv, x)) :
    exec i s = .next { s with nv := nv, dev := inCycle s.dev x } := by
  have hruns : s.dev.power = .running := hr
  have hact := hi.trans (if_pos hruns)
  change exec i s = .next { s with nv := (f s.env s.dev).1, dev := inCycle s.dev (f s.env s.dev).2 } at hact
  rwa [hx] at hact

theorem exec_of_actNv_unrecorded (hr : Runs s) (hi : exec i s = actNv s f) (hx : f s.env s.dev = (nv, x))
    (hlog : x.logNext = s.dev.logNext) : exec i s = .next { s with nv := nv, dev := x } := by
  rw [exec_of_actNv hr hi hx, inCycle_of_logNext hlog]

end

/-! Staging words, CFG_STAGE_CLEAR and CFG_COMMIT. -/

section
variable {d : Dev} (e : Env)

theorem stagingOpen_iff : stagingOpen d = true ↔
    rget d ⟨.CFG_STATE, 0, 0, 0⟩ = 2 ∧ rget d ⟨.CFG_COMMIT_BUSY, 0, 0, 0⟩ = 0 := by
  simp only [stagingOpen, Bool.and_eq_true, decide_eq_true_eq]
  rfl

theorem stageWord_of_open (h : stagingOpen d = true) (w v : Nat) : stageWord e w v d =
    { rset d ⟨.CFG_STAGE, w, 0, 0⟩ v with stageMask := putBit d.stageMask w true } := if_pos h

theorem stageWord_of_closed (h : ¬ stagingOpen d = true) (w v : Nat) :
    stageWord e w v d = regAccess e (regOffset ⟨.CFG_STAGE, w, 0, 0⟩) true d := if_neg h

theorem stageClear_of_open (h : stagingOpen d = true) : stageClear e d = { d with stageMask := 0 } := if_pos h

theorem stageClear_of_closed (h : ¬ stagingOpen d = true) :
    stageClear e d = regAccess e (regOffset ⟨.CFG_STAGE_CLEAR, 0, 0, 0⟩) true d := if_neg h

theorem commitStart_of_idle (h : rget d ⟨.CFG_COMMIT_BUSY, 0, 0, 0⟩ = 0) :
    commitStart e d = rset d ⟨.CFG_COMMIT_BUSY, 0, 0, 0⟩ 1 := by
  have hidle : ¬ sget d .CFG_COMMIT_BUSY = 1 := fun h1 => Nat.zero_ne_one (h.symm.trans h1)
  exact if_neg hidle

theorem commitStart_of_busy (h : rget d ⟨.CFG_COMMIT_BUSY, 0, 0, 0⟩ = 1) :
    commitStart e d = regAccess e (regOffset ⟨.CFG_COMMIT, 0, 0, 0⟩) true d := if_pos h

end

/-! The checks of R393. -/

/-- Check k of R393 fails. -/
def CommitFails (nv : NonVol) (rec : List Byte) (d : Dev) (k : Nat) : Prop :=
  let b := stagedBlock d
  let slots := fieldAt b 0x1A 2
  (k = 1 ∧ cfgState d ≠ 2) ∨ (k = 2 ∧ popCount d.stageMask 256 ≠ 256) ∨ (k = 3 ∧ blockForm b = false) ∨
  (k = 4 ∧ fieldAt b 0x1FC 4 ≠ crc32c (b.take 0x1FC)) ∨ (k = 5 ∧ ownerKey nv rec = none) ∨
  (k = 6 ∧ ∀ c, ownerKey nv rec = some c →
    fieldAt b 0x278 8 ≠ c.keyId ∨ rsaOk c.modulus (b.take 0x280) (b.drop 0x280) = false) ∨
  (k = 7 ∧ fieldAt b 0x10 8 ≠ nv.serial) ∨ (k = 8 ∧ slots.testBit 6 = true ∧ slots % 64 ≠ sget d .CFG_SLOT_ID) ∨
  (k = 9 ∧ fieldAt b 0xC 4 < sget d .CFG_VER_FLOOR)

section
variable {nv : NonVol} {rec : List Byte} {d : Dev}

theorem CommitFails.bounds {k : Nat} (h : CommitFails nv rec d k) : 0 < k ∧ k < 10 := by
  simp only [CommitFails] at h
  omega

/-- The checks run in order: the code is that of the first that fails, or 0. -/
theorem commitCode_spec : (commitCode nv rec d = 0 ∧ ∀ k, ¬ CommitFails nv rec d k) ∨
    (CommitFails nv rec d (commitCode nv rec d) ∧ ∀ j < commitCode nv rec d, ¬ CommitFails nv rec d j) := by
  have b1 : ∀ j < 1, ¬ CommitFails nv rec d j := fun j hj hf => Nat.not_lt.2 hf.bounds.1 hj
  unfold commitCode
  dsimp only
  split
  next h => exact .inr ⟨by simp [CommitFails, h], b1⟩
  next h =>
  have b2 := Nat.forall_lt_succ_right.2 ⟨b1, by simpa [CommitFails] using h⟩
  split
  next h => exact .inr ⟨by simp [CommitFails, h], b2⟩
  next h =>
  have b3 := Nat.forall_lt_succ_right.2 ⟨b2, by simpa [CommitFails] using h⟩
  split
  next h => exact .inr ⟨by simpa [CommitFails] using h, b3⟩
  next h =>
  have b4 := Nat.forall_lt_succ_right.2 ⟨b3, by simpa [CommitFails] using h⟩
  split
  next h => exact .inr ⟨by simp [CommitFails, h], b4⟩
  next h =>
  have b5 := Nat.forall_lt_succ_right.2 ⟨b4, by simpa [CommitFails] using h⟩
  split
  next hkey => exact .inr ⟨by simp [CommitFails, hkey], b5⟩
  next c hkey =>
  have b6 := Nat.forall_lt_succ_right.2 ⟨b5, by simp [CommitFails, hkey]⟩
  split
  next h => exact .inr ⟨by simpa [CommitFails, hkey] using h, b6⟩
  next h =>
  have b7 := Nat.forall_lt_succ_right.2 ⟨b6, by simpa [CommitFails, hkey] using h⟩
  split
  next h => exact .inr ⟨by simp [CommitFails, h], b7⟩
  next h =>
  have b8 := Nat.forall_lt_succ_right.2 ⟨b7, by simpa [CommitFails] using h⟩
  split
  next h => exact .inr ⟨by simpa [CommitFails, bitOf] using h, b8⟩
  next h =>
  have b9 := Nat.forall_lt_succ_right.2 ⟨b8, by simpa [CommitFails, bitOf] using h⟩
  split
  next h => exact .inr ⟨by simp [CommitFails, h], b9⟩
  next h =>
  have b10 := Nat.forall_lt_succ_right.2 ⟨b9, by simpa [CommitFails] using h⟩
  exact .inl ⟨rfl, fun k hf => b10 k hf.bounds.2 hf⟩

theorem commitCode_of_first {k : Nat} (hk : CommitFails nv rec d k) (hfirst : ∀ j < k, ¬ CommitFails nv rec d j) :
    commitCode nv rec d = k := by
  obtain ⟨-, hnone⟩ | ⟨hcode, hleast⟩ := commitCode_spec (nv := nv) (rec := rec) (d := d)
  · exact absurd hk (hnone k)
  · exact Nat.le_antisymm (Nat.le_of_not_lt fun hlt => hleast k hlt hk) (Nat.le_of_not_lt fun hlt => hfirst _ hlt hcode)

theorem commitCode_of_none (h : ∀ k, ¬ CommitFails nv rec d k) : commitCode nv rec d = 0 := by
  obtain ⟨hcode, -⟩ | ⟨hfails, -⟩ := commitCode_spec (nv := nv) (rec := rec) (d := d)
  · exact hcode
  · exact absurd hfails (h _)

end

/-! The end of a check. -/

section
variable {e : Env} {d : Dev} {rec : List Byte}

theorem ownerRecRead_of_readable
    (h : rget d ⟨.SEC_CERT_ADDR, 0, 0, 0⟩ = 0 ∨ inTabok (rget d ⟨.SEC_CERT_ADDR, 0, 0, 0⟩) 1024 = true) :
    ownerRecRead e rec d = (if rget d ⟨.SEC_CERT_ADDR, 0, 0, 0⟩ = 0 then e.nv.ownerRec else rec, d) := by
  unfold ownerRecRead
  dsimp only [sget]
  split
  · rfl
  · exact if_pos (h.resolve_left ‹_›)

/-- The registers of a check that has ended, with its code. -/
def commitEnded (code : Nat) (d : Dev) : Dev :=
  { sset .CFG_COMMIT_BUSY 0 (sset .CFG_COMMIT_RESULT code d) with stageMask := 0 }

variable {record : List Byte} (hbusy : rget d ⟨.CFG_COMMIT_BUSY, 0, 0, 0⟩ = 1) (hread : ownerRecRead e rec d = (record, d))
include hbusy hread

theorem commitDone_of_busy : commitDone e rec d =
    let after := if commitCode e.nv record d = 0 then commitEffects e record d else (e.nv, d)
    (after.1, commitEnded (commitCode e.nv record d) after.2) := by
  have hunder : ¬ sget d .CFG_COMMIT_BUSY = 0 := fun h0 => Nat.one_ne_zero (hbusy.symm.trans h0)
  unfold commitDone
  rw [if_neg hunder]
  simp only [hread]
  rfl

theorem commitDone_of_failed {k : Nat} (hk : CommitFails e.nv record d k) (hfirst : ∀ j < k, ¬ CommitFails e.nv record d j) :
    commitDone e rec d = (e.nv, commitEnded k d) := by
  have hcode := commitCode_of_first hk hfirst
  have hne : k ≠ 0 := Nat.pos_iff_ne_zero.1 hk.bounds.1
  simp only [commitDone_of_busy hbusy hread, hcode, if_neg hne]

theorem commitDone_of_accepted (h : ∀ k, ¬ CommitFails e.nv record d k) : commitDone e rec d =
    ((commitEffects e record d).1, commitEnded 0 (commitEffects e record d).2) := by
  simp only [commitDone_of_busy hbusy hread, commitCode_of_none h, if_true]

end

/-- An accepted block ends in CFG_STATE 3 with MOD_READY asserted. -/
theorem commitEffects_ready (e : Env) (rec : List Byte) (d : Dev) : ∃ x, (commitEffects e rec d).2 =
    { sset .CFG_STATE 3 x with pins := { (sset .CFG_STATE 3 x).pins with ready := true } } := ⟨_, rfl⟩

theorem cfgState_commitEffects (e : Env) (rec : List Byte) (d : Dev) :
    rget (commitEffects e rec d).2 ⟨.CFG_STATE, 0, 0, 0⟩ = 3 := by
  obtain ⟨x, hx⟩ := commitEffects_ready e rec d
  rw [hx]
  exact (rget_congr (d := sset .CFG_STATE 3 x) rfl _).trans (rget_rset_same ..)

section
variable (code : Nat) (d : Dev)

theorem rget_commitEnded_regs (k : RegKey) :
    rget (commitEnded code d) k = rget (sset .CFG_COMMIT_BUSY 0 (sset .CFG_COMMIT_RESULT code d)) k := rget_congr rfl k

theorem rget_commitEnded_busy : rget (commitEnded code d) ⟨.CFG_COMMIT_BUSY, 0, 0, 0⟩ = 0 :=
  (rget_commitEnded_regs ..).trans (rget_rset_same ..)

theorem rget_commitEnded_result :
    rget (commitEnded code d) ⟨.CFG_COMMIT_RESULT, 0, 0, 0⟩ = code % 2 ^ Reg.CFG_COMMIT_RESULT.bits := by
  refine (rget_commitEnded_regs ..).trans ?_
  exact (rget_rset_of_reg _ _ (by decide)).trans (rget_rset_same ..)

theorem rget_commitEnded {k : RegKey} (hbusy : k.reg ≠ .CFG_COMMIT_BUSY) (hresult : k.reg ≠ .CFG_COMMIT_RESULT) :
    rget (commitEnded code d) k = rget d k := by
  refine (rget_commitEnded_regs ..).trans ?_
  exact (rget_rset_of_reg _ _ hbusy).trans (rget_rset_of_reg _ _ hresult)

end

/-- Settles O52: staging while it is open and closed, the start of a check, and its end with the first check that fails or
with none. -/
theorem configurationsAreStagedAndCommitted : Obligations.ConfigurationsAreStagedAndCommitted := by
  intro s w v rec e d get put refused isOpen b slots record readable fails ended hs hw
  have hstage : Gives (.cfgStage w v) s (stageWord e w v.toNat d) :=
    gives_of_actT (f := fun e d => stageWord e w v.toNat d) rfl (decide_eq_true hw) hs
  have hclear : Gives .cfgStageClear s (stageClear e d) := gives_of_actT (f := stageClear) rfl rfl hs
  have hstart : Gives .cfgCommit s (commitStart e d) := gives_of_actT (f := commitStart) rfl rfl hs
  refine ⟨fun hopen => ?_, fun hclosed => ?_, fun hopen => ?_, fun hclosed => ?_, fun hidle => ?_, fun hbusy => ?_,
    fun k hbusy hread hk hfirst => ?_, fun hbusy hread hnone => ?_⟩
  · exact gives_congr hstage (stageWord_of_open e (stagingOpen_iff.2 hopen) w v.toNat)
  · exact gives_congr hstage (stageWord_of_closed e (mt stagingOpen_iff.1 hclosed) w v.toNat)
  · exact gives_congr hclear (stageClear_of_open e (stagingOpen_iff.2 hopen))
  · exact gives_congr hclear (stageClear_of_closed e (mt stagingOpen_iff.1 hclosed))
  · exact gives_congr hstart (commitStart_of_idle e hidle)
  · exact gives_congr hstart (commitStart_of_busy e hbusy)
  · exact exec_of_actNv hs.1 (f := fun e d => commitDone e rec d) rfl
      (commitDone_of_failed (record := record) hbusy (ownerRecRead_of_readable hread) hk hfirst)
  · have hdone := exec_of_actNv hs.1 (i := .cfgCommitDone rec) (f := fun e d => commitDone e rec d) rfl
      (commitDone_of_accepted (record := record) hbusy (ownerRecRead_of_readable hread) hnone)
    refine ⟨_, hdone, ?_, ?_, ?_, ?_, ?_, rfl, rfl, rfl⟩
    · exact (rget_inCycle _ _ (by decide)).trans (rget_commitEnded_result ..)
    · exact (rget_inCycle _ _ (by decide)).trans (rget_commitEnded_busy ..)
    · refine (rget_inCycle _ _ (by decide)).trans ?_
      exact (rget_commitEnded _ _ (by decide) (by decide)).trans (cfgState_commitEffects ..)
    · exact congrArg Pins.ready (inCycle_pins _ _)
    · exact inCycle_stageMask _ _

end Sys2Proof.Machine
end

section
/-! SUPPORT. Fuse operations, verifications and attestation (R396 to R407): what starts, what is refused, what an end leaves. -/

namespace Sys2Proof.Machine

/-! Fuse operations. -/

section
variable {s : State} {i : Instr} {r : Reg} {op : FuseOp} {ok : Bool} {P : Prop}

/-- A fuse operation starts under its condition with none under way, and is refused else. -/
theorem fuseStart_judged (hi : Gives i s (fuseStart s.env r ok op s.dev)) (hok : ok = true ↔ P) :
    (P → s.dev.fuseOp = none → Gives i s (rset { s.dev with fuseOp := some op } ⟨.SEC_FUSE_RESULT, 0, 0, 0⟩ 1)) ∧
    (¬ P ∨ s.dev.fuseOp ≠ none →
      Gives i s (regAccess s.env (regOffset ⟨r, 0, 0, 0⟩) true (rset s.dev ⟨.SEC_FUSE_RESULT, 0, 0, 0⟩ 2))) := by
  rw [← hok]
  exact ⟨fun hp hnone => gives_congr hi (if_pos ⟨hp, hnone⟩),
    fun hno => gives_congr hi (if_neg fun ⟨hp, hnone⟩ => hno.elim (· hp) (· hnone))⟩

end

section
variable {e : Env} {d : Dev} {op : FuseOp} (h : d.fuseOp = some op)
include h

theorem fuseEnds_of_success : fuseEnds e true d = (fuseDone op e.nv, rset { d with fuseOp := none } ⟨.SEC_FUSE_RESULT, 0, 0, 0⟩ 0) := by
  simp only [fuseEnds, h, if_true]
  rfl

theorem fuseEnds_of_failure : fuseEnds e false d = (fuseCut op (Config.freeNat d.free) e.nv,
    rset { d with fuseOp := none, free := d.free + 1 } ⟨.SEC_FUSE_RESULT, 0, 0, 0⟩ 3) := by
  simp only [fuseEnds, h, Bool.false_eq_true, if_false]
  rfl

end

/-! The verifier. -/

/-- What SEC_VERIFY_GO asks for. -/
def verifyAsked (d : Dev) : VerifyReq := ⟨sget d .SEC_IMG_ADDR, sget d .SEC_CERT_ADDR, sget d .SEC_IMG_KIND, sget d .SEC_IMG_CTX⟩

theorem verifyAsked_under_way (d : Dev) (v : Nat) : verifyAsked (sset .SEC_VERIFY_RESULT v d) = verifyAsked d := by
  have hsame (r : Reg) (hr : r ≠ .SEC_VERIFY_RESULT) : sget (sset .SEC_VERIFY_RESULT v d) r = sget d r := rget_rset_of_reg _ _ hr
  rw [verifyAsked, hsame .SEC_IMG_ADDR (by decide), hsame .SEC_CERT_ADDR (by decide), hsame .SEC_IMG_KIND (by decide),
    hsame .SEC_IMG_CTX (by decide), verifyAsked]

section
variable {e : Env} {d : Dev}

theorem verifyGo_of_busy (h : rget d ⟨.SEC_VERIFY_BUSY, 0, 0, 0⟩ = 1) :
    verifyGo e d = regAccess e (regOffset ⟨.SEC_VERIFY_GO, 0, 0, 0⟩) true d := if_pos h

theorem verifyGo_of_idle (h : rget d ⟨.SEC_VERIFY_BUSY, 0, 0, 0⟩ = 0) : verifyGo e d =
    let asked := sset .SEC_VERIFY_RESULT 1 d
    if (verifyAsked d).kind = 3 ∧ d.packLoad.isSome then packRefused e 4 asked
    else sset .SEC_VERIFY_BUSY 1 { asked with verify := some (verifyAsked d) } := by
  have hidle : ¬ sget d .SEC_VERIFY_BUSY = 1 := fun h1 => Nat.zero_ne_one (h.symm.trans h1)
  rw [← verifyAsked_under_way d 1]
  exact if_neg hidle

theorem verifyEnds_of_inTabok {r : VerifyReq} {img cert : List Byte} (h : d.verify = some r)
    (himg : inTabok r.img img.length = true) (hcert : inTabok r.cert 1024 = true) :
    verifyEnds e img cert d = verified e r img cert (sset .SEC_VERIFY_BUSY 0 { d with verify := none }) := by
  simp only [verifyEnds, h, himg, hcert, Bool.not_true, Bool.false_eq_true, if_false]

end

/-! Attestation. -/

/-- y is a signature of a message under a salt, by the key of a modulus (R396). -/
def Signs (modulus : Nat) (body salt : List Byte) (y : Nat) : Prop :=
  y < modulus ∧ pow65537 modulus y = beNat (pssEncode (sha256 body) salt)

/-- The signature found is one, where there is one. -/
theorem rsaRoot_spec {modulus em z : Nat} (hlt : z < modulus) (hpow : pow65537 modulus z = em) (free : Nat) :
    (rsaRoot modulus em).getD free < modulus ∧ pow65537 modulus ((rsaRoot modulus em).getD free) = em := by
  have hsome : (rsaRoot modulus em).isSome = true :=
    List.find?_isSome.2 ⟨z, List.mem_range.2 hlt, decide_eq_true hpow⟩
  obtain ⟨y, hy⟩ := Option.isSome_iff_exists.1 hsome
  have hpow' := List.find?_some hy
  rw [hy, Option.getD_some]
  exact ⟨List.mem_range.1 (List.mem_of_find?_eq_some hy), of_decide_eq_true hpow'⟩

section
variable {e : Env} {d : Dev}

theorem attGo_of_busy (h : rget d ⟨.SEC_ATT_STATE, 0, 0, 0⟩ = 1 ∨ d.report ≠ none) : attGo e d =
    regAccess e (regOffset ⟨.SEC_ATT_GO, 0, 0, 0⟩) true (rset d ⟨.SEC_ATT_STATE, 0, 0, 0⟩ 3) :=
  if_pos (h.imp id Option.isSome_iff_ne_none.2)

theorem attGo_of_free (h : ¬ (rget d ⟨.SEC_ATT_STATE, 0, 0, 0⟩ = 1 ∨ d.report ≠ none)) : attGo e d =
    if sget d .SEC_ID_PRESENT = 0 then sset .SEC_ATT_STATE 3 d
    else sset .SEC_ATT_STATE 1 { d with report := some { addr := rbase d ⟨.SEC_ATT_ADDR, 0, 0, 0⟩, body := reportBody e d } } :=
  if_neg fun hbusy => h (hbusy.imp id Option.isSome_iff_ne_none.1)

/-- The signed report, with a signature y. -/
def reportSigned (modulus : Nat) (body : List Byte) (y : Nat) : List Byte :=
  body ++ leBytes (keyId modulus) 8 ++ beBytes y 384

theorem length_reportSigned (modulus : Nat) (body : List Byte) (y : Nat) :
    (reportSigned modulus body y).length = body.length + 392 := by
  simp [reportSigned, beBytes]

theorem attDone_of_report {q : Report} (h : d.report = some q) (hin : inTabok q.addr (q.body.length + 392) = true) :
    ∃ y, ((∃ z, Signs e.nv.idModulus q.body (leBytes (Config.freeNat d.free) 32) z) →
        Signs e.nv.idModulus q.body (leBytes (Config.freeNat d.free) 32) y) ∧
      attDone e d = sset .SEC_ATT_LEN (q.body.length + 392) (sset .SEC_ATT_STATE 2
        { d with report := none, free := d.free + 2, lp := memWrite d.lp q.addr (reportSigned e.nv.idModulus q.body y) }) := by
  refine ⟨(rsaRoot e.nv.idModulus (beNat (pssEncode (sha256 q.body) (leBytes (Config.freeNat d.free) 32)))).getD
    (Config.freeNat (d.free + 1) % e.nv.idModulus), fun ⟨z, hlt, hpow⟩ => rsaRoot_spec hlt hpow _, ?_⟩
  generalize hy : (rsaRoot _ _).getD _ = y
  have hlen := length_reportSigned e.nv.idModulus q.body y
  have hwrite (d : Dev) : hostWrite e q.addr (reportSigned e.nv.idModulus q.body y) d =
      { d with lp := memWrite d.lp q.addr (reportSigned e.nv.idModulus q.body y) } := if_pos (hlen ▸ hin)
  have hsigned : q.body ++ leBytes (keyId e.nv.idModulus) 8 ++ identitySigns e.nv.idModulus q.body
      (leBytes (takeFree { d with report := none }).1 32) (takeFree (takeFree { d with report := none }).2).1 =
      reportSigned e.nv.idModulus q.body y := by
    subst hy
    rfl
  simp only [attDone, h, hsigned, hlen, hin, hwrite, if_true]
  rfl

end

/-- Settles O53: the three fuse operations and their two ends, the verifier's start and end, the report's start and end. -/
theorem fusesAndImagesAreJudged : Obligations.FusesAndImagesAreJudged := by
  intro s op img cert r q e d nv get put refused runs target slot hash cut req asked ended salt signed bs sent busy hs
  have hr : Runs s := hs.1
  have hverify : Gives .secVerifyGo s (verifyGo e d) := gives_of_actT (f := verifyGo) rfl rfl hs
  have hatt : Gives .secAttGo s (attGo e d) := gives_of_actT (f := attGo) rfl rfl hs
  refine ⟨?_, ?_, ?_, fun hop => ?_, fun hop => ?_, fun hbusy => ?_, fun hidle hkind => ?_, fun hidle hkind hload => ?_,
    fun hreq himg hcert => ?_, fun hbusy => ?_, fun hfree hnokey => ?_, fun hfree hkey => ?_, fun hreport hin => ?_⟩
  · refine fuseStart_judged (gives_of_actT (f := arbAdvance) rfl rfl hs) ?_
    simp only [Bool.and_eq_true, decide_eq_true_eq, and_assoc]
    rfl
  · refine fuseStart_judged (gives_of_actT (f := ownerBurn) rfl rfl hs) ?_
    simp only [Bool.and_eq_true, Bool.not_eq_true', List.any_eq_true, decide_eq_true_eq, and_assoc]
    rfl
  · refine fuseStart_judged (gives_of_actT (f := ownerRevoke) rfl rfl hs) ?_
    simp only [Bool.and_eq_true, Bool.not_eq_true', List.any_eq_true, List.mem_range, decide_eq_true_eq, and_assoc]
    rfl
  · exact exec_of_actNv_unrecorded hr (f := fun e d => fuseEnds e true d) rfl (fuseEnds_of_success hop) rfl
  · exact exec_of_actNv_unrecorded hr (f := fun e d => fuseEnds e false d) rfl (fuseEnds_of_failure hop) rfl
  · exact gives_congr hverify (verifyGo_of_busy hbusy)
  · refine gives_congr hverify ((verifyGo_of_idle hidle).trans (if_neg fun ⟨hthree, hload⟩ => ?_))
    exact hkind.elim (· hthree) (Option.isSome_iff_ne_none.1 hload)
  · exact gives_congr hverify ((verifyGo_of_idle hidle).trans (if_pos ⟨hkind, Option.isSome_iff_ne_none.2 hload⟩))
  · exact exec_of_actNv hr (f := fun e d => verifyEnds e img cert d) rfl (verifyEnds_of_inTabok hreq himg hcert)
  · exact gives_congr hatt (attGo_of_busy hbusy)
  · exact gives_congr hatt ((attGo_of_free hfree).trans (if_pos hnokey))
  · have hpresent : ¬ sget d .SEC_ID_PRESENT = 0 := fun h0 => Nat.one_ne_zero (hkey.symm.trans h0)
    exact gives_congr hatt ((attGo_of_free hfree).trans (if_neg hpresent))
  · obtain ⟨y, hsigned, hdone⟩ := attDone_of_report (e := e) hreport hin
    exact ⟨y, hsigned, gives_congr (gives_of_act (f := attDone) rfl rfl hr) hdone⟩

end Sys2Proof.Machine
end

section
/-! SUPPORT. Firmware switch-over, microcode and calibration of a running module (R404, R405). -/

namespace Sys2Proof.Machine

/-- While Tabok serves, a write that may also reach fuses or boot flash, and raises no record, gives what its meaning says. -/
theorem exec_of_actTNv_unrecorded {s : State} {i : Instr} {f : Env → Dev → NonVol × Dev} {nv : NonVol} {x : Dev} (hs : Serves s)
    (hi : exec i s = actTNv s f) (hx : f s.env s.dev = (nv, x)) (hlog : x.logNext = s.dev.logNext) :
    exec i s = .next { s with nv := nv, dev := x } := by
  rw [hi, actTNv_of_serves hs, hx, inCycle_of_logNext hlog]

/-! The switch-over. -/

section
variable {d : Dev} (e : Env)

section
variable (hswitching : rget d ⟨.SEC_FW_SWITCHING, 0, 0, 0⟩ = 1)
include hswitching

theorem handOver_of_waiting (hwait : d.fwWait = 0) : handOver d = { d with fwWait := 1 } := if_pos ⟨hswitching, hwait⟩

theorem fwHandover_of_switching : fwHandover e d = handOver d := if_pos hswitching

/-- LNK_LIVE changes, by 1 to 65,535 modulo 2^16. -/
theorem securityLive_of_switching (hlive : d.fwDead = false) : securityLive d = rset { d with free := d.free + 1 } ⟨.LNK_LIVE, 0, 0, 0⟩
    ((rget d ⟨.LNK_LIVE, 0, 0, 0⟩ + 1 + Config.freeNat d.free % 65535) % 65536) := if_pos ⟨hswitching, hlive⟩

end

theorem fwAlive_of_new (h : d.fwWait = 1) : fwAlive e d = switched e d := if_pos h

theorem fwAlive_of_old (h : d.fwWait = 2) :
    fwAlive e d = (e.nv, rset { d with fwWait := 0 } ⟨.SEC_FW_SWITCHING, 0, 0, 0⟩ 0) := by
  simp only [fwAlive, h]
  rfl

theorem notAlive_of_new (h : d.fwWait = 1) : notAlive d = rset { d with fwWait := 2 } ⟨.SEC_FW_REVERTED, 0, 0, 0⟩ 1 := if_pos h

theorem notAlive_of_old (h : d.fwWait = 2) :
    notAlive d = { d with fwWait := 3, fwDead := true, pins := { d.pins with alert := true } } := by
  simp [notAlive, h]

/-! What a switch-over to live firmware leaves. -/

theorem switched_nv : (switched e d).1 = { e.nv with bootSlot := 1 - rget d ⟨.SEC_FW_ACTIVE, 0, 0, 0⟩ } := rfl

theorem switched_fwWait : (switched e d).2.fwWait = 0 := rfl

theorem switched_active : rget (switched e d).2 ⟨.SEC_FW_ACTIVE, 0, 0, 0⟩ = 1 - rget d ⟨.SEC_FW_ACTIVE, 0, 0, 0⟩ := by
  have hbit : 1 - rget d ⟨.SEC_FW_ACTIVE, 0, 0, 0⟩ < 2 := by omega
  exact (rget_rset_same ..).trans (Nat.mod_eq_of_lt hbit)

theorem switched_pending : rget (switched e d).2 ⟨.SEC_FW_PENDING, 0, 0, 0⟩ = 0 := by
  unfold switched sset
  rw [rget_rset_of_reg _ _ (by decide), rget_rset_same]
  rfl

theorem switched_switching : rget (switched e d).2 ⟨.SEC_FW_SWITCHING, 0, 0, 0⟩ = 0 := by
  unfold switched sset
  rw [rget_rset_of_reg _ _ (by decide), rget_rset_of_reg _ _ (by decide), rget_rset_same]
  rfl

theorem switched_meas : ∀ x ∈ (switched e d).2.meas, x.kind = 1 → x.pending = false := by
  intro x hx hkind
  obtain ⟨y, -, rfl⟩ := List.mem_map.1 hx
  by_cases hfirmware : y.kind = 1
  · rw [if_pos hfirmware]
  · rw [if_neg hfirmware] at hkind
    exact absurd hkind hfirmware

/-! Microcode. -/

section
variable {m : Meas} (hheld : d.ucHeld = some m)
include hheld

theorem ucGo_of_held : ucGo e d =
    let p := sget d .SEC_UC_TILE
    if p < 1440 ∧ (tileState d p = 1 ∨ tileState d p = 3) then
      sset .SEC_UC_STATE 1 (rset { d with ucLoad := d.ucLoad ++ [(p, tileState d p, m)] } ⟨.TILE_STATE, p, 0, 0⟩ 5)
    else sRefused e .SEC_UC_GO (sset .SEC_UC_STATE 3 d) := by
  simp only [ucGo, hheld]

end

theorem ucGo_of_refused (h : d.ucHeld = none ∨ ¬ (rget d ⟨.SEC_UC_TILE, 0, 0, 0⟩ < 1440 ∧
      (tileState d (rget d ⟨.SEC_UC_TILE, 0, 0, 0⟩) = 1 ∨ tileState d (rget d ⟨.SEC_UC_TILE, 0, 0, 0⟩) = 3))) :
    ucGo e d = regAccess e (regOffset ⟨.SEC_UC_GO, 0, 0, 0⟩) true (rset d ⟨.SEC_UC_STATE, 0, 0, 0⟩ 3) := by
  cases hheld : d.ucHeld with
  | none =>
    simp only [ucGo, hheld]
    rfl
  | some m => exact (ucGo_of_held e hheld).trans (if_neg (h.resolve_left (by simp [hheld])))

theorem ucDone_of_load {p st : Nat} {m : Meas} {rest : List (Nat × Nat × Meas)} (h : d.ucLoad = (p, st, m) :: rest) : ucDone d =
    let loaded := rset { d with ucLoad := rest, ucTiles := tblSet (fun k => k) d.ucTiles p m {} } ⟨.TILE_STATE, p, 0, 0⟩ st
    if rest = [] then sset .SEC_UC_STATE 2 loaded else loaded := by
  simp only [ucDone, h]

/-! Calibration. -/

theorem calApply_of_held {m : Meas} {v : Nat} {tables : List Byte} (h : d.calHeld = some (m, v, tables)) : calApply e d =
    let res := Config.freeNat d.free % 2 ^ Reg.PWR_RESERVE_W.bits
    let cost := Config.freeNat (d.free + 1) % 2 ^ Reg.PWR_TOKEN_COST.bits
    ({ e.nv with cal := { res := res, cost := cost, version := v, svn := m.version, tables := tables } },
     { sset .SEC_CAL_VER v (measure m { d with free := d.free + 2 }) with calNext := some (res, cost) }) := by
  have hnext : (takeFree d).2 = { d with free := d.free + 1 } := rfl
  simp only [calApply, h, hnext]
  rfl

end

/-- Settles O54: the hand-over, the firmware alive and not alive in time, LNK_LIVE, a microcode load, and calibration. -/
theorem servicesAreReplacedLive : Obligations.ServicesAreReplacedLive := by
  intro s p st v m rest tables e d get put tile refusedUc mayLoad loaded res cost hr
  have hlate : Gives .aliveTimeout s (notAlive d) := gives_of_act (f := fun _ d => notAlive d) rfl rfl hr
  have hload : Gives .microcodeLoadDone s (ucDone d) := gives_of_act (f := fun _ d => ucDone d) rfl rfl hr
  refine ⟨fun hswitching hwait => ⟨?_, fun hs => ?_⟩, fun hs hwait => ?_, fun hs hwait => ?_, fun hwait => ?_, fun hwait => ?_,
    fun hswitching hlive => ?_, fun hs hheld hmay => ?_, fun hs hno => ?_, fun hmost hrest => ?_, fun hmost hrest => ?_,
    fun hs hheld => ?_⟩
  · exact gives_congr (gives_of_act (f := fun _ d => handOver d) rfl rfl hr) (handOver_of_waiting hswitching hwait)
  · exact gives_congr (gives_of_actT (f := fwHandover) rfl rfl hs)
      ((fwHandover_of_switching e hswitching).trans (handOver_of_waiting hswitching hwait))
  · refine ⟨_, exec_of_actTNv_unrecorded hs (f := fwAlive) rfl (fwAlive_of_new e hwait) rfl, switched_nv e, switched_fwWait e,
      switched_active e, switched_pending e, switched_switching e, switched_meas e⟩
  · have halive := exec_of_actTNv_unrecorded hs (i := .secFwAlive) (f := fwAlive) rfl (fwAlive_of_old e hwait) rfl
    exact halive.trans (congrArg (fun x => Host.Outcome.next { s with dev := x }) (inCycle_of_logNext rfl).symm)
  · exact gives_congr hlate (notAlive_of_new hwait)
  · exact gives_congr hlate (notAlive_of_old hwait)
  · have hold : get .LNK_LIVE < 65536 := rget_lt d ⟨.LNK_LIVE, 0, 0, 0⟩
    refine ⟨(get .LNK_LIVE + 1 + Config.freeNat d.free % 65535) % 65536, by omega, by omega, ?_⟩
    exact gives_congr (gives_of_act (f := fun _ d => securityLive d) rfl rfl hr) (securityLive_of_switching hswitching hlive)
  · exact gives_congr (gives_of_actT (f := ucGo) rfl rfl hs) ((ucGo_of_held e hheld).trans (if_pos hmay))
  · exact gives_congr (gives_of_actT (f := ucGo) rfl rfl hs) (ucGo_of_refused e hno)
  · exact gives_congr hload ((ucDone_of_load hmost).trans (if_pos hrest))
  · exact gives_congr hload ((ucDone_of_load hmost).trans (if_neg hrest))
  · exact exec_of_actTNv_unrecorded hs (f := calApply) rfl (calApply_of_held e hheld) rfl

end Sys2Proof.Machine
end

section
/-! SUPPORT. Marks, the drain, pattern packs and lovage runs (R361 to R369): what each write and each end gives. -/

namespace Sys2Proof.Machine

section
variable {d : Dev} (e : Env)

/-! Marks. -/

theorem markSuspectGo_of_taken (h : rget d ⟨.TEST_MARK_CLASS, 0, 0, 0⟩ ∈ markClasses) :
    markSuspectGo e d = markRecord e 2 d := if_pos h

theorem markSuspectGo_of_refused (h : rget d ⟨.TEST_MARK_CLASS, 0, 0, 0⟩ ∉ markClasses) :
    markSuspectGo e d = regAccess e (regOffset ⟨.TEST_MARK_SUSPECT, 0, 0, 0⟩) true d := if_neg h

theorem markNoteGo_of_tile (h : rget d ⟨.TEST_MARK_CLASS, 0, 0, 0⟩ = 0x0703 ∨ rget d ⟨.TEST_MARK_CLASS, 0, 0, 0⟩ = 0x0705) :
    markNoteGo e d = markRecord e 0 d := if_pos h

theorem markNoteGo_of_other (h3 : rget d ⟨.TEST_MARK_CLASS, 0, 0, 0⟩ ≠ 0x0703)
    (h5 : rget d ⟨.TEST_MARK_CLASS, 0, 0, 0⟩ ≠ 0x0705) :
    markNoteGo e d = regAccess e (regOffset ⟨.TEST_MARK_NOTE, 0, 0, 0⟩) true d := if_neg (not_or_intro h3 h5)

/-! The drain. -/

theorem drain_of_loaded (h : ∃ c < 8, ctxState d c ≠ 0) :
    drain e d = regAccess e (regOffset ⟨.TEST_DRAIN, 0, 0, 0⟩) true d :=
  if_pos (List.any_eq_true.2 (h.imp fun _ ⟨hc, hstate⟩ => ⟨List.mem_range.2 hc, decide_eq_true hstate⟩))

theorem drain_of_empty (h : ∀ c < 8, ctxState d c = 0) : drain e d =
    let stopped := sset .TEST_DRAINED 1 ((lovageRuns d).foldl (lovageAbort e 3) d)
    let ports := (List.range 4).foldl (fun d p => rset d ⟨.ETH_PORT_STATE, p, 0, 0⟩ 3) (sset .LNK_ROUTE_EN 0 stopped)
    sweepAll e { ports with pins := { ports.pins with fault := true } } := by
  refine if_neg fun hany => ?_
  obtain ⟨c, hc, hstate⟩ := List.any_eq_true.1 hany
  exact of_decide_eq_true hstate (h c (List.mem_range.1 hc))

/-! Pattern packs. -/

theorem packLoadGo_judged : packLoadGo e d =
    if d.packLoad ≠ none ∨ ∃ r, d.verify = some r ∧ r.kind = 3 then packRefused e 4 d
    else { d with packLoad := some (rbase d ⟨.TEST_PACK_ADDR, 0, 0, 0⟩, rbase d ⟨.TEST_PACK_CERT, 0, 0, 0⟩) } := by
  simp only [packLoadGo, Option.isSome_iff_ne_none, Option.any_eq_true, decide_eq_true_eq]

theorem packEnds_of_load {a cert : Nat} (h : d.packLoad = some (a, cert)) : packEnds e d =
    let head := hbmTake e a 64 { d with packLoad := none }
    let body := hbmTake e a (fieldAt head.1 0x10 8) head.2
    let signer := hbmTake e cert 1024 body.2
    packDone e body.1 (verifyCode e.nv signer.2 3 body.1 signer.1) signer.2 := by
  simp only [packEnds, h]

/-! Lovage runs. -/

section
variable {k : Nat}

theorem lovageOn_iff : lovageOn d k = true ↔ rget d ⟨.TEST_L_STATE, k, 0, 0⟩ = 1 ∨ rget d ⟨.TEST_L_STATE, k, 0, 0⟩ = 2 := by
  simp [lovageOn]

/-- A run that is on ends with its reason and its record, which names the slot's tile. -/
theorem lovageAbort_of_on (h : rget d ⟨.TEST_L_STATE, k, 0, 0⟩ = 1 ∨ rget d ⟨.TEST_L_STATE, k, 0, 0⟩ = 2) (reason : Nat) :
    lovageAbort e reason d k = logError e { cls := 0x0702, level := 3, index := lovageTile d k, syn := reason }
      (rset (rset d ⟨.TEST_L_STATE, k, 0, 0⟩ 5) ⟨.TEST_L_REASON, k, 0, 0⟩ reason) := by
  have hstate : Reg.TEST_L_TILE ≠ .TEST_L_STATE := by decide
  have hreason : Reg.TEST_L_TILE ≠ .TEST_L_REASON := by decide
  have htile : lovageTile (rset (rset d ⟨.TEST_L_STATE, k, 0, 0⟩ 5) ⟨.TEST_L_REASON, k, 0, 0⟩ reason) k = lovageTile d k :=
    (rget_rset_of_reg _ _ hreason).trans (rget_rset_of_reg _ _ hstate)
  rw [← htile]
  exact if_pos (lovageOn_iff.2 h)

theorem lovageGo_of_may (h : lovageMay d k = true) : lovageGo e k d =
    let armed := storesFree (lovageTile d k) { d with
      lovPack := tblSet (fun k => k) d.lovPack k ((d.pack.map (·.pats)).getD []) []
      lovGo := (k, e.clk.ns) :: d.lovGo.filter (fun x => x.1 ≠ k) }
    lovSet .TEST_L_STATE k 1 (lovSet .TEST_L_REASON k 0 (lovSet .TEST_L_ELAPSED_MS k 0 armed)) := if_pos h

theorem lovageGo_of_not (h : lovageMay d k = false) :
    lovageGo e k d = regAccess e (regOffset ⟨.TEST_L_GO, k, 0, 0⟩) true d := if_neg (Bool.eq_false_iff.1 h)

theorem lovageTileSet_of_on (h : rget d ⟨.TEST_L_STATE, k, 0, 0⟩ = 1 ∨ rget d ⟨.TEST_L_STATE, k, 0, 0⟩ = 2) (v : Nat) :
    lovageTileSet e k v d = regAccess e (regOffset ⟨.TEST_L_TILE, k, 0, 0⟩) true d := if_pos (lovageOn_iff.2 h)

theorem lovageTileSet_of_rest (h : ¬ (rget d ⟨.TEST_L_STATE, k, 0, 0⟩ = 1 ∨ rget d ⟨.TEST_L_STATE, k, 0, 0⟩ = 2)) (v : Nat) :
    lovageTileSet e k v d = lovSet .TEST_L_STATE k 0 (lovSet .TEST_L_TILE k v d) := if_neg (mt lovageOn_iff.1 h)

section
variable (hheating : rget d ⟨.TEST_L_STATE, k, 0, 0⟩ = 1)
include hheating

theorem lovageHot_of_heating : lovageHot k d = if junctionHot d k then lovSet .TEST_L_STATE k 2 d else d := by
  have hstate : lovGet d .TEST_L_STATE k = 1 := hheating
  simp only [lovageHot, hstate, true_and]

theorem lovageCold_of_heating : lovageCold e k d = lovageAbort e 5 d k := if_pos hheating

end

section
variable {digests : List Nat} (h : rget d ⟨.TEST_L_STATE, k, 0, 0⟩ = 2)
include h

theorem lovageEnds_of_pass (hpass : firstDiff 0 ((tblGet d.lovPack k []).map (·.expect)) digests = none) :
    lovageEnds e k digests d = rset (lovSet .TEST_L_STATE k 3 d) ⟨.TILE_STATE, lovageTile d k, 0, 0⟩ 1 := by
  have hrunning : lovGet d .TEST_L_STATE k = 2 := h
  simp only [lovageEnds, hrunning, hpass, ne_eq, not_true, if_false]

theorem lovageEnds_of_fail {i : Nat} (hdiff : firstDiff 0 ((tblGet d.lovPack k []).map (·.expect)) digests = some i) :
    lovageEnds e k digests d = logError e
      { cls := 0x0701, level := 3, index := lovageTile d k, syn := i % 2 ^ 32 + digests.getD i 0 * 2 ^ 64 }
      (lovSet .TEST_L_STATE k 4 (lovSet .TEST_L_FAIL_PAT k i d)) := by
  have hrunning : lovGet d .TEST_L_STATE k = 2 := h
  simp only [lovageEnds, hrunning, hdiff, ne_eq, not_true, if_false]

end

end

end

theorem exec_lovageRunEnd (k : Nat) (digests : List (BitVec 64)) (s : State) : exec (.lovageRunEnd k digests) s =
    act s (k < 16) (fun e d => lovageEnds e k (digests.map (·.toNat)) d) := rfl

theorem lovageRunEnd_gives {s : State} {k : Nat} (hk : k < 16) (hr : Runs s) (digests : List (BitVec 64)) :
    Gives (.lovageRunEnd k digests) s (lovageEnds s.env k (digests.map (·.toNat)) s.dev) :=
  gives_of_act (exec_lovageRunEnd k digests s) (decide_eq_true hk) hr

/-- Settles O55: marks, the drain, pack loads, and each write and each end of a lovage run. -/
theorem testsMarkDrainLoadAndRun : Obligations.TestsMarkDrainLoadAndRun := by
  intro s k reason v digests a cert e d get put refused cls st on aborted stopped ports busy h body signer armed diff hot hr hk
  have hk16 : decide (k < 16) = true := decide_eq_true hk
  have hheat : Gives (.lovageTargetReached k) s (lovageHot k d) := gives_of_act (f := fun _ d => lovageHot k d) rfl hk16 hr
  have hcold : Gives (.lovageHeatTimeout k) s (lovageCold e k d) := gives_of_act (f := fun e d => lovageCold e k d) rfl hk16 hr
  have hend : Gives (.lovageRunEnd k digests) s (lovageEnds e k (digests.map (·.toNat)) d) :=
    lovageRunEnd_gives hk hr digests
  have hload (hs : Serves s) : Gives .testPackLoad s (packLoadGo e d) := gives_of_actT (f := packLoadGo) rfl rfl hs
  have hgo (hs : Serves s) : Gives (.testLGo k) s (lovageGo e k d) := gives_of_actT (f := fun e d => lovageGo e k d) rfl hk16 hs
  have htile (hs : Serves s) : Gives (.testLTile k v) s (lovageTileSet e k (v.toNat % 2048) d) :=
    gives_of_actT (f := fun e d => lovageTileSet e k (v.toNat % 2048) d) rfl hk16 hs
  refine ⟨fun hs hcls => ?_, fun hs hcls => ?_, fun hs hcls => ?_, fun hs h3 h5 => ?_, fun hs hempty => ?_, fun hs hloaded => ?_,
    fun hs hfree => ?_, fun hs hbusy => ?_, fun hpack => ?_, fun hs hmay => ?_, fun hs hno => ?_, fun hs hon => ?_,
    fun hs hon => ?_, fun hs hrest => ?_, fun hst hhot => ?_, fun hst hcool => ?_, fun hst => ?_, fun hst hpass => ?_,
    fun i hst hdiff => ?_⟩
  · exact gives_congr (gives_of_actT (f := markSuspectGo) rfl rfl hs) (markSuspectGo_of_taken e hcls)
  · exact gives_congr (gives_of_actT (f := markSuspectGo) rfl rfl hs) (markSuspectGo_of_refused e hcls)
  · exact gives_congr (gives_of_actT (f := markNoteGo) rfl rfl hs) (markNoteGo_of_tile e hcls)
  · exact gives_congr (gives_of_actT (f := markNoteGo) rfl rfl hs) (markNoteGo_of_other e h3 h5)
  · exact gives_congr (gives_of_actT (f := drain) rfl rfl hs) (drain_of_empty e hempty)
  · exact gives_congr (gives_of_actT (f := drain) rfl rfl hs) (drain_of_loaded e hloaded)
  · exact gives_congr (hload hs) ((packLoadGo_judged e).trans (if_neg hfree))
  · exact gives_congr (hload hs) ((packLoadGo_judged e).trans (if_pos hbusy))
  · exact gives_congr (gives_of_act (f := packEnds) rfl rfl hr) (packEnds_of_load e hpack)
  · exact gives_congr (hgo hs) (lovageGo_of_may e hmay)
  · exact gives_congr (hgo hs) (lovageGo_of_not e hno)
  · exact gives_congr (gives_of_actT (f := fun e d => lovageAbort e reason d k) rfl hk16 hs) (lovageAbort_of_on e hon reason)
  · exact gives_congr (htile hs) (lovageTileSet_of_on e hon _)
  · exact gives_congr (htile hs) (lovageTileSet_of_rest e hrest _)
  · exact gives_congr hheat ((lovageHot_of_heating hst).trans (if_pos (decide_eq_true hhot)))
  · exact gives_congr hheat ((lovageHot_of_heating hst).trans (if_neg (mt of_decide_eq_true hcool)))
  · exact gives_congr hcold ((lovageCold_of_heating e hst).trans (lovageAbort_of_on e (.inl hst) 5))
  · exact gives_congr hend (lovageEnds_of_pass e hst hpass)
  · exact gives_congr hend (lovageEnds_of_fail e hst hdiff)

end Sys2Proof.Machine
end

section
/-! SUPPORT. Power arbitration (R371 to R378, R386): the clock step, the tokens, the throttle and load shedding, case by case. -/

namespace Sys2Proof.Machine

section
variable {d : Dev} (e : Env)

/-! Samples of the input power. -/

theorem readRails_kOver (rails : List Nat) (d : Dev) : (readRails rails d).kOver = d.kOver := by
  unfold readRails
  induction rails.zipIdx generalizing d with
  | nil => rfl
  | cons x xs ih => exact ih (rset d ⟨.PWR_RAIL_MV, x.2, 0, 0⟩ x.1)

theorem overRises_of_lower {k : Nat} (h : d.kOver < k) : overRises k d = wset .PWR_OVER_SEEN 1 { d with kOver := k } := if_pos h

theorem overRises_of_not {k : Nat} (h : k ≤ d.kOver) : overRises k d = d := if_neg (Nat.not_lt.2 h)

/-- What a sample reads. -/
def sampleRead (w mv : Nat) (rails : List Nat) (d : Dev) : Dev :=
  readRails rails (wset .PWR_INPUT_MV mv (wset .PWR_INPUT_W w d))

theorem sampleRead_kOver (w mv : Nat) (rails : List Nat) (d : Dev) : (sampleRead w mv rails d).kOver = d.kOver :=
  readRails_kOver ..

section
variable {w mv : Nat} {rails : List Nat}

theorem powerSample_of_peak (h : 4200 < w) : powerSample e w mv rails d =
    throttleRecord e 3 true (wset .PWR_PEAK_SEEN 1 (overRises 14 (sampleRead w mv rails d))) := if_pos h

theorem powerSample_of_no_peak (h : w ≤ 4200) : powerSample e w mv rails d = sampleRead w mv rails d :=
  if_neg (Nat.not_lt.2 h)

end

theorem overStepUp_of_above (h : budget d < rget d ⟨.PWR_INPUT_W, 0, 0, 0⟩) : overStepUp e d =
    if d.kOver = 0 then throttleRecord e 2 true (overRises (min 14 (d.kOver + 1)) d) else overRises (min 14 (d.kOver + 1)) d :=
  if_neg (Nat.not_le.2 h)

theorem overStepDown_of_below (h : rget d ⟨.PWR_INPUT_W, 0, 0, 0⟩ ≤ budget d) :
    overStepDown d = { d with kOver := d.kOver - 1 } := if_pos h

/-! Tokens. -/

theorem takeCal_of_none (h : d.calNext = none) : takeCal d = d := by
  simp only [takeCal, h]

theorem takeCal_of_some {res cost : Nat} (h : d.calNext = some (res, cost)) :
    takeCal d = wset .PWR_RESERVE_W res (wset .PWR_TOKEN_COST cost { d with calNext := none }) := by
  simp only [takeCal, h]

/-- The step for the tokens held, once who asks is noted and the budget judged. -/
def tokensJudged (e : Env) (d : Dev) : Dev :=
  let d := budgetFell e (noteAllAsks e d)
  { d with kTok := tokenStep d (tokensHeld d) }

theorem recomputeToken_eq {d' : Dev} (h : takeCal d = d') : recomputeToken e d = tokensJudged e d' := by
  subst h
  rfl

theorem grantToken_of_first {p h c n : Nat} {x : TokenAsk}
    (hasks : (tokenAsks (noteAllAsks e d)).find? (fun y => y.p = p && y.h = h && y.c = c && y.idx = n) = some x)
    (hfree : tokensHeld (noteAllAsks e d) < capacity (noteAllAsks e d))
    (hfirst : ∀ y ∈ tokenAsks (noteAllAsks e d), grantBefore y x = false) : grantToken e p h c n d =
      let d := noteAllAsks e d
      let i := (getStrm d p h c).win.findIdx (fun w => w.idx = n && !w.issued && tokenOf w.raw = 1 && !w.token)
      setStrm d p h c { getStrm d p h c with win := (getStrm d p h c).win.modify i (fun w => { w with token := true }) } := by
  have hgrants : ¬ (capacity (noteAllAsks e d) ≤ tokensHeld (noteAllAsks e d) ∨
      (tokenAsks (noteAllAsks e d)).any (fun y => grantBefore y x) = true) := by
    rintro (hfull | hlater)
    · exact Nat.not_le.2 hfree hfull
    · obtain ⟨y, hy, hbefore⟩ := List.any_eq_true.1 hlater
      exact Bool.false_ne_true ((hfirst y hy).symm.trans hbefore)
  simp only [grantToken, hasks, if_neg hgrants]

theorem tokenGrant_gives {s : State} {p h c : Nat} (hplace : placeOk p h c = true) (hr : Runs s) (n : Nat) :
    Gives (.tokenGrant p h c n) s (grantToken s.env p h c n s.dev) :=
  gives_of_act (f := fun e d => grantToken e p h c n d) rfl hplace hr

/-! Temperatures. -/

section
variable (hhot : (rget d ⟨.PWR_TJ_THROTTLE, 0, 0, 0⟩ : Int) ≤ hottest d)
include hhot

theorem thermalUp_of_hot (hlow : d.kTherm < 14) : thermalUp e d =
    if d.kTherm = 0 then throttleRecord e 1 true (wset .PWR_THERMAL_SEEN 1 { d with kTherm := d.kTherm + 1 })
    else wset .PWR_THERMAL_SEEN 1 { d with kTherm := d.kTherm + 1 } := by
  have hcold : ¬ hottest d < wget d .PWR_TJ_THROTTLE := Int.not_lt.2 hhot
  simp only [thermalUp, if_neg hcold, if_pos hlow]

end

theorem thermalDown_of_cool (h : hottest d < (rget d ⟨.PWR_TJ_THROTTLE, 0, 0, 0⟩ : Int) - 40) :
    thermalDown d = { d with kTherm := d.kTherm - 1 } := if_pos h

/-! MOD_THROTTLE_N. -/

theorem throttleOn_of_off (h : rget d ⟨.PWR_THROTTLED, 0, 0, 0⟩ = 0) : throttleOn e d = throttleRecord e 0 true (budgetFell e
    (satAdd e ⟨.PWR_THROTTLE_COUNT, 0, 0, 0⟩ 1 (wset .PWR_THROTTLE_SEEN 1 (wset .PWR_THROTTLED 1 d)))) := by
  have hoff : ¬ wget d .PWR_THROTTLED = 1 := fun h1 => Nat.zero_ne_one (h.symm.trans h1)
  exact if_neg hoff

theorem throttleOff_of_on (h : rget d ⟨.PWR_THROTTLED, 0, 0, 0⟩ = 1) :
    throttleOff e d = throttleRecord e 0 false (wset .PWR_THROTTLED 0 d) := by
  have hon : ¬ wget d .PWR_THROTTLED = 0 := fun h0 => Nat.one_ne_zero (h.symm.trans h0)
  exact if_neg hon

/-- The device with a level at MOD_THROTTLE_N. -/
def throttleLevel (high : Bool) (d : Dev) : Dev := { d with inputs := { d.inputs with throttle := high } }

theorem throttleSeen_of_taken (h : pinsTaken d = true) : throttleSeen e d = d := if_pos h

theorem throttleSeen_of_running (h : pinsTaken d = false) (hr : d.power = .running) :
    throttleSeen e d = if d.inputs.throttle then throttleOff e d else throttleOn e d := by
  simp only [throttleSeen, h, hr, Bool.false_eq_true, if_false]

theorem throttleAssert_gives (s : State) : Gives .throttleAssert s (throttleSeen s.env (throttleLevel false s.dev)) := by
  unfold Gives
  exact congrArg Host.Outcome.next (by unfold throttlePin; rfl)

theorem throttleRelease_gives (s : State) : Gives .throttleRelease s (throttleSeen s.env (throttleLevel true s.dev)) := by
  unfold Gives
  exact congrArg Host.Outcome.next (by unfold throttlePin; rfl)

/-! Load shedding and the budget. -/

/-- The device with MOD_ALERT_N asserted. -/
def alerted (d : Dev) : Dev := { d with pins := { d.pins with alert := true } }

theorem shedOn_of_low {mv : Nat} (hoff : rget d ⟨.PWR_SHED, 0, 0, 0⟩ = 0) (hlow : mv < 34000) : shedOn e mv d =
    alerted (shedRecord e mv true (withdrawLovage e (satAdd e ⟨.PWR_SHED_COUNT, 0, 0, 0⟩ 1
      (wset .PWR_SHED_SEEN 1 (wset .PWR_SHED 1 (wset .PWR_INPUT_MV mv d)))))) := by
  have hentry : ¬ (wget d .PWR_SHED = 1 ∨ mv ≥ 34000) := by
    rintro (h1 | hhigh)
    · exact Nat.zero_ne_one (hoff.symm.trans h1)
    · exact Nat.not_lt.2 hhigh hlow
  exact if_neg hentry

theorem shedOff_of_high {mv : Nat} (hon : rget d ⟨.PWR_SHED, 0, 0, 0⟩ = 1) (hhigh : 35000 ≤ mv) : shedOff e mv d =
    alertRelease (shedRecord e mv false (wset .PWR_SHED 0 (wset .PWR_INPUT_MV mv d))) := by
  have hexit : ¬ (wget d .PWR_SHED = 0 ∨ mv < 35000) := by
    rintro (h0 | hlow)
    · exact Nat.one_ne_zero (hon.symm.trans h0)
    · exact Nat.not_le.2 hlow hhigh
  exact if_neg hexit

theorem writeBudget_of_range {v : Nat} (hlow : 2000 ≤ v % 8192) (hhigh : v % 8192 ≤ 4000) :
    writeBudget e v d = budgetFell e (rset d ⟨.PWR_BUDGET_W, 0, 0, 0⟩ (v % 8192)) := by
  have hset : wset .PWR_BUDGET_W v d = rset d ⟨.PWR_BUDGET_W, 0, 0, 0⟩ (v % 8192) :=
    (rset_mod d ⟨.PWR_BUDGET_W, 0, 0, 0⟩ v).symm
  rw [← hset]
  exact if_pos ⟨hlow, hhigh⟩

theorem writeBudget_of_refused {v : Nat} (h : v % 8192 < 2000 ∨ 4000 < v % 8192) :
    writeBudget e v d = regAccess e (regOffset ⟨.PWR_BUDGET_W, 0, 0, 0⟩) true d :=
  if_neg fun ⟨hlow, hhigh⟩ => h.elim (Nat.not_lt.2 hlow) (Nat.not_lt.2 hhigh)

end

/-- Settles O49: samples, the step over the budget, tokens, the clock step, temperatures, MOD_THROTTLE_N, load shedding, and
writes of the budget. -/
theorem powerArbitrationFollowsItsInputs : Obligations.PowerArbitrationFollowsItsInputs := by
  intro s w mv rails rs v p h c n x e d get put input above warm asked judged pin st i granted shed shedAlert hr
  have hsample : Gives (.powerSample w mv rails) s (powerSample e w mv rails d) :=
    gives_of_act (f := fun e d => powerSample e w mv rails d) rfl rfl hr
  have hover : Gives .overBudgetStepUp s (overStepUp e d) := gives_of_act (f := overStepUp) rfl rfl hr
  have htokens : Gives .tokenStepRecompute s (recomputeToken e d) := gives_of_act (f := recomputeToken) rfl rfl hr
  have hthermal : Gives .thermalStepUp s (thermalUp e d) := gives_of_act (f := thermalUp) rfl rfl hr
  have hread : (sampleRead w mv rails d).kOver = d.kOver := sampleRead_kOver w mv rails d
  refine ⟨fun hw => ?_, fun hw hk => ?_, fun hw hk => ?_, fun hb hk => ?_, fun hb hpos hk => ?_, fun hb hk => ?_, fun hb => ?_,
    fun hcal => ?_, fun res cost hcal => ?_, fun hplace hasks hfree hfirst => ?_, ?_, fun hsensors => ?_, fun hhot hk => ?_,
    fun hhot hpos hk => ?_, fun hcool => ?_, fun hpins hoff => ?_, fun hpins hon => ?_, fun hpins => ⟨?_, ?_⟩,
    fun hoff hlow => ?_, fun hon hhigh => ?_, fun hs hlow hhigh => ?_, fun hs hout => ?_⟩
  · exact gives_congr hsample (powerSample_of_no_peak e hw)
  · refine gives_congr hsample ((powerSample_of_peak e hw).trans ?_)
    rw [overRises_of_lower (hread.trans_lt hk)]
    rfl
  · refine gives_congr hsample ((powerSample_of_peak e hw).trans ?_)
    rw [overRises_of_not (hk.trans_eq hread.symm)]
    rfl
  · refine gives_congr hover ((overStepUp_of_above e hb).trans ((if_pos hk).trans ?_))
    rw [hk, overRises_of_lower (show d.kOver < min 14 (0 + 1) by omega)]
    rfl
  · refine gives_congr hover ((overStepUp_of_above e hb).trans ((if_neg (Nat.pos_iff_ne_zero.1 hpos)).trans ?_))
    rw [show min 14 (d.kOver + 1) = d.kOver + 1 by omega, overRises_of_lower (Nat.lt_succ_self _)]
    rfl
  · refine gives_congr hover ((overStepUp_of_above e hb).trans ((if_neg (by omega)).trans ?_))
    exact overRises_of_not (by omega)
  · exact gives_congr (gives_of_act (f := fun _ d => overStepDown d) rfl rfl hr) (overStepDown_of_below hb)
  · exact gives_congr htokens (recomputeToken_eq e (takeCal_of_none hcal))
  · exact gives_congr htokens (recomputeToken_eq e (takeCal_of_some hcal))
  · exact gives_congr (tokenGrant_gives hplace hr n) (grantToken_of_first e hasks hfree hfirst)
  · exact gives_of_act (f := fun _ d => applyStep d) rfl rfl hr
  · have hall : rs.all (fun r => r.sensor ≤ 1460) = true := List.all_eq_true.2 fun r hmem => decide_eq_true (hsensors r hmem)
    exact gives_of_act (f := fun _ d => readSensors rs d) rfl hall hr
  · exact gives_congr hthermal ((thermalUp_of_hot e hhot (by omega)).trans (if_pos hk))
  · exact gives_congr hthermal ((thermalUp_of_hot e hhot hk).trans (if_neg (Nat.pos_iff_ne_zero.1 hpos)))
  · exact gives_congr (gives_of_act (f := fun _ d => thermalDown d) rfl rfl hr) (thermalDown_of_cool hcool)
  · exact gives_congr (throttleAssert_gives s) ((throttleSeen_of_running (d := throttleLevel false d) e hpins hr).trans
      (throttleOn_of_off (d := throttleLevel false d) e hoff))
  · exact gives_congr (throttleRelease_gives s) ((throttleSeen_of_running (d := throttleLevel true d) e hpins hr).trans
      (throttleOff_of_on (d := throttleLevel true d) e hon))
  · exact gives_congr (throttleAssert_gives s) (throttleSeen_of_taken (d := throttleLevel false d) e hpins)
  · exact gives_congr (throttleRelease_gives s) (throttleSeen_of_taken (d := throttleLevel true d) e hpins)
  · have hentry : shedOn e w d = alerted (shedRecord e w true shed) := shedOn_of_low e hoff hlow
    exact gives_congr (gives_of_act (f := fun e d => shedOn e w d) rfl rfl hr) hentry
  · exact gives_congr (gives_of_act (f := fun e d => shedOff e w d) rfl rfl hr) (shedOff_of_high e hon hhigh)
  · exact gives_congr (gives_of_actT (f := fun e d => writeBudget e v.toNat d) rfl rfl hs) (writeBudget_of_range e hlow hhigh)
  · exact gives_congr (gives_of_actT (f := fun e d => writeBudget e v.toNat d) rfl rfl hs) (writeBudget_of_refused e hout)

end Sys2Proof.Machine
end

section
/-! SUPPORT. Trips, rails, shutdowns, supplies and MOD_RST_N (R363, R377 to R379, R388, R399, R432). -/

namespace Sys2Proof.Machine

/-! Trips and rails. -/

theorem toSigned_toNat (x : BitVec 16) : toSigned 16 x.toNat = x.toInt := by
  have hlt : x.toNat < 2 ^ 16 := x.isLt
  rw [toSigned, BitVec.toInt, Nat.mod_eq_of_lt hlt]
  split <;> split <;> omega

section
variable {e : Env} {d : Dev}

/-- The syndrome of a trip. -/
def tripSyn (hbm : Bool) (unit temp : Nat) : Nat := packFields [(2, b2n hbm), (11, unit), (3, 0), (16, temp)]

section
variable {unit : Nat} {temp : BitVec 16}

theorem thermalTrips_tile (h : (rget d ⟨.PWR_TJ_TRIP, 0, 0, 0⟩ : Int) ≤ temp.toInt) : thermalTrips e false unit temp.toNat d =
    logError e { cls := 0x0803, level := 3, index := unit, syn := tripSyn false unit temp.toNat } d := by
  have hhot : ¬ toSigned 16 temp.toNat < (wget d .PWR_TJ_TRIP : Int) := Int.not_lt.2 ((toSigned_toNat temp).symm ▸ h)
  simp only [thermalTrips, Bool.false_eq_true, if_false, if_neg hhot, tripSyn]

theorem thermalTrips_stack (h : (rget d ⟨.PWR_TJ_HBM_TRIP, 0, 0, 0⟩ : Int) ≤ temp.toInt) : thermalTrips e true unit temp.toNat d =
    logError e { cls := 0x0803, level := 4, kind := 1, index := unit * 32, syn := tripSyn true unit temp.toNat } d := by
  have hhot : ¬ toSigned 16 temp.toNat < (wget d .PWR_TJ_HBM_TRIP : Int) := Int.not_lt.2 ((toSigned_toNat temp).symm ▸ h)
  simp only [thermalTrips, if_true, if_neg hhot, tripSyn]

theorem thermalTrips_below (h : temp.toInt < (rget d ⟨.PWR_TJ_TRIP, 0, 0, 0⟩ : Int)) : thermalTrips e false unit temp.toNat d = d := by
  have hcool : toSigned 16 temp.toNat < (wget d .PWR_TJ_TRIP : Int) := (toSigned_toNat temp).symm ▸ h
  simp only [thermalTrips, Bool.false_eq_true, if_false, if_pos hcool]

theorem thermalTrip_gives {s : State} {hbm : Bool} (hr : Runs s) (hunit : (if hbm then unit < 20 else unit < 1440)) :
    Gives (.thermalTrip hbm unit temp) s (thermalTrips s.env hbm unit temp.toNat s.dev) := by
  have hok : (if hbm = true then decide (unit < 20) else decide (unit < 1440)) = true := by
    cases hbm <;> exact decide_eq_true hunit
  exact gives_of_act (f := fun e d => thermalTrips e hbm unit temp.toNat d) rfl hok hr

end

/-- Outside ±5 %, in integers. -/
theorem outOfRange_iff (target mv : Nat) : outOfRange target mv = true ↔
    100000 * mv < 95 * target ∨ 105 * target < 100000 * mv := by
  simp only [outOfRange, Bool.or_eq_true, decide_eq_true_eq]
  omega

/-- The fatal record of a rail. -/
def railFailed (e : Env) (r : Nat) (d : Dev) : Dev := logError e { cls := 0x0804, level := 4, kind := 6, index := r, syn := r } d

section
variable {r mv : Nat}

theorem railFails_of_rail (hr : 0 < r) : railFails e r mv none d =
    if outOfRange (railNominal.getD r 0 * 1000) mv = true then railFailed e r (rset d ⟨.PWR_RAIL_MV, r, 0, 0⟩ mv)
    else rset d ⟨.PWR_RAIL_MV, r, 0, 0⟩ mv := by
  have hne : r ≠ 0 := Nat.pos_iff_ne_zero.1 hr
  simp only [railFails, Option.isNone_none, if_true, hne, false_or]
  cases outOfRange (railNominal.getD r 0 * 1000) mv <;> rfl

theorem railFails_of_input : railFails e 0 mv none d = rset d ⟨.PWR_RAIL_MV, 0, 0, 0⟩ mv := by
  simp only [railFails, Option.isNone_none, if_true, true_or]

theorem railFails_of_band (p : Nat) : railFails e 2 mv (some p) d =
    if outOfRange (bandTarget d p) mv = true then railFailed e 2 d else d := by
  have hband : (some p).isNone = false := rfl
  simp only [railFails, hband, Bool.false_eq_true, if_false, OfNat.ofNat_ne_zero, false_or]
  cases outOfRange (bandTarget d p) mv <;> rfl

end

theorem bandTarget_of_untested {p : Nat} (h : ∀ k ∈ lovageRuns d, lovageTile d k ≠ p) : bandTarget d p = 700000 := by
  have hnone : (lovageRuns d).find? (fun k => lovageTile d k = p) = none :=
    List.find?_eq_none.2 fun k hk => by simpa using h k hk
  rw [bandTarget, hnone]
  rfl

theorem bandTarget_of_tested {p k : Nat} (h : (lovageRuns d).find? (fun k => lovageTile d k = p) = some k) :
    bandTarget d p = 700 * (1000 - rget d ⟨.TEST_L_VDROP, k, 0, 0⟩) := by
  rw [bandTarget, h]
  rfl

theorem railFault_gives {s : State} {r : Nat} {band : Option Nat} (hr : Runs s)
    (hunit : (decide (r < 12) && band.all (fun p => r = 2 && p < 1440)) = true) (mv : Nat) :
    Gives (.railFault r mv band) s (railFails s.env r mv band s.dev) :=
  gives_of_act (f := fun e d => railFails e r mv band d) rfl hunit hr

end

/-! Shutdowns. -/

/-- t is the module off after s: nothing volatile is left, and the fuses are as they were unless an operation was under way. -/
def OffAfter (s t : State) : Prop :=
  t.dev.power = .off ∧ t.dev.pins.pwrgd = false ∧ (∀ k, rget t.dev k = k.reg.reset % 2 ^ k.reg.bits) ∧ t.clk.ft = 0 ∧
  t.clk.ns = s.clk.ns ∧ t.pending = s.pending ∧ (s.dev.fuseOp = none → t.nv = s.nv)

theorem shutDown_off (s : State) : OffAfter s (shutDown s) := by
  refine ⟨rfl, rfl, fun k => rfl, rfl, rfl, rfl, fun hnone => ?_⟩
  simp only [shutDown, loseAll, fusesKept, hnone]

theorem vinFails_off (s : State) : OffAfter s (vinFails s) := shutDown_off s

/-! Supplies. -/

theorem softStart_of_up {s : State} (hoff : s.dev.power = .off) (hmated : s.dev.mated = true) (hvin : s.dev.inputs.vin = true) :
    softStart s = { s with dev := { s.dev with power := .softStart } } := if_pos ⟨hoff, hmated, hvin⟩

/-- The state with MOD_MATED_N low. -/
def mate (s : State) : State := { s with dev := { s.dev with mated := true } }

theorem softStart_of_not {s : State} (h : s.dev.mated = false ∨ s.dev.inputs.vin = false) : softStart s = s := by
  refine if_neg fun ⟨_, hmated, hvin⟩ => ?_
  exact h.elim (fun hf => Bool.false_ne_true (hf.symm.trans hmated)) fun hf => Bool.false_ne_true (hf.symm.trans hvin)

/-! MOD_RST_N. -/

section
variable {s : State}

theorem resetSeen_of_taken (h : pinsTaken s.dev = true) : resetSeen s = s := if_pos h

theorem resetSeen_of_softStart (h : s.dev.power = .softStart) : resetSeen s = s := by
  simp [resetSeen, h]

/-- Before the rails are up, or while the boundary scan has the pins, a level of MOD_RST_N does nothing. -/
theorem resetSeen_still (h : s.dev.power = .softStart ∨ pinsTaken s.dev = true) : resetSeen s = s :=
  h.elim resetSeen_of_softStart resetSeen_of_taken

section
variable (hpins : pinsTaken s.dev = false)
include hpins

theorem resetSeen_of_high (hrst : s.dev.inputs.rst = true) (hp : s.dev.power = .inReset) : resetSeen s =
    { s with dev := fromFlash s.nv (latchStraps s.dev.inputs.slot s.dev.inputs.cr8 { s.dev with power := .running }) } := by
  simp only [resetSeen, hpins, hrst, hp, Bool.false_eq_true, if_false, if_true]

theorem resetSeen_of_low (hrst : s.dev.inputs.rst = false) (hp : s.dev.power = .running ∨ s.dev.power = .inReset) :
    resetSeen s = loseAll .inReset true { s with nv := fusesFinished s.dev s.nv } := by
  simp only [resetSeen, hpins, hrst, hp, Bool.false_eq_true, if_false, if_true]

end

end

/-- A register in reset: PWR_THROTTLED follows MOD_THROTTLE_N, every other has its reset value. -/
def resetValue (throttle : Bool) (k : RegKey) : Nat :=
  if k = ⟨.PWR_THROTTLED, 0, 0, 0⟩ ∧ throttle = false then 1 else k.reg.reset % 2 ^ k.reg.bits

theorem rget_inReset (d : Dev) (k : RegKey) : rget (volatileLost .inReset true d) k = resetValue d.inputs.throttle k := by
  cases hthrottle : d.inputs.throttle with
  | true => simp [rget, volatileLost, resetValue, hthrottle, tblGet]
  | false =>
    by_cases hk : k = ⟨.PWR_THROTTLED, 0, 0, 0⟩
    · subst hk
      have hbits : 0 < Reg.PWR_THROTTLED.bits := by decide
      simp [rget, volatileLost, resetValue, hthrottle, tblGet, hbits]
    · simp [rget, volatileLost, resetValue, hthrottle, tblGet, hk, Ne.symm hk]

/-- t is the module in reset after s: nothing volatile is left, a fuse operation that was under way is done. -/
def InResetAfter (s t : State) : Prop :=
  t.dev.power = .inReset ∧ t.dev.pins.pwrgd = true ∧ (∀ k, rget t.dev k = resetValue s.dev.inputs.throttle k) ∧
  t.clk.ft = 0 ∧ t.pending = s.pending ∧ t.nv = fusesFinished s.dev s.nv

theorem resetSeen_resets {s : State} (hpins : pinsTaken s.dev = false) (hrst : s.dev.inputs.rst = false)
    (hp : s.dev.power = .running ∨ s.dev.power = .inReset) : InResetAfter s (resetSeen s) := by
  rw [resetSeen_of_low hpins hrst hp]
  exact ⟨rfl, rfl, rget_inReset s.dev, rfl, rfl, rfl⟩

/-! The end of soft start. -/

/-- Rails in regulation: MOD_PWRGD is asserted, and MOD_THROTTLE_N honoured. -/
def railsRegulated (d : Dev) : Dev :=
  let up : Dev := { d with power := .inReset, pins := { d.pins with pwrgd := true } }
  if d.inputs.throttle then up else rset up ⟨.PWR_THROTTLED, 0, 0, 0⟩ 1

theorem railsUp_of_softStart {s : State} (h : s.dev.power = .softStart) : railsUp s = resetSeen { s with dev := railsRegulated s.dev } :=
  if_pos h

section
variable (d : Dev)

theorem railsRegulated_power : (railsRegulated d).power = .inReset := by
  unfold railsRegulated; dsimp only; split <;> rfl

theorem railsRegulated_inputs : (railsRegulated d).inputs = d.inputs := by
  unfold railsRegulated; dsimp only; split <;> rfl

theorem railsRegulated_pinsTaken : pinsTaken (railsRegulated d) = pinsTaken d := by
  unfold railsRegulated; dsimp only; split <;> rfl

theorem railsRegulated_fusesFinished (nv : NonVol) : fusesFinished (railsRegulated d) nv = fusesFinished d nv := by
  unfold railsRegulated; dsimp only; split <;> rfl

end

theorem railsUp_resets {s : State} (hsoft : s.dev.power = .softStart) (hpins : pinsTaken s.dev = false)
    (hrst : s.dev.inputs.rst = false) : InResetAfter s (railsUp s) := by
  rw [railsUp_of_softStart hsoft]
  have hinputs := railsRegulated_inputs s.dev
  have hresets : InResetAfter { s with dev := railsRegulated s.dev } (resetSeen { s with dev := railsRegulated s.dev }) :=
    resetSeen_resets ((railsRegulated_pinsTaken s.dev).trans hpins) ((congrArg Inputs.rst hinputs).trans hrst)
      (.inr (railsRegulated_power s.dev))
  obtain ⟨hpower, hpwrgd, hregs, hft, hpending, hnv⟩ := hresets
  refine ⟨hpower, hpwrgd, fun k => ?_, hft, hpending, hnv.trans (railsRegulated_fusesFinished s.dev s.nv)⟩
  rw [hregs k, hinputs]

/-- Settles O50: trips and rails, the five shutdowns, the supplies, the end of soft start, and both levels of MOD_RST_N. -/
theorem suppliesAndResetRule : Obligations.SuppliesAndResetRule := by
  intro s unit_ r mv p k temp slot cr8 e limit syn off out nominal failed read tested untested lowered ins up high goes regulated good
    lost resets seen
  have hrail (hr : Runs s) (hlt : r < 12) : Gives (.railFault r mv none) s (railFails e r mv none s.dev) :=
    railFault_gives hr (by simp [hlt]) mv
  have hband (hr : Runs s) (hr2 : r = 2) (hp : p < 1440) : Gives (.railFault 2 mv (some p)) s (railFails e 2 mv (some p) s.dev) :=
    railFault_gives hr (by simp [hp]) mv
  refine ⟨fun hr hunit htrip => ?_, fun hr hunit htrip => ?_, fun hr hunit hcool => ?_, fun hr hpos hlt hout => ?_,
    fun hr hpos hlt hin => ?_, fun hr h0 => ?_, fun hr hr2 hp huntested hout => ?_, fun hr hr2 hp huntested hin => ?_,
    fun hr hr2 hp htested hout => ?_, fun hr hr2 hp htested hin => ?_, ?_, ?_, ?_, ?_, ?_, fun hoff hmated => ?_,
    fun hoff hmated => ?_, fun hoff => ?_, fun hsoft hpins => ?_, fun hsoft hpins hrst => ?_, fun hsoft hpins hrst => ?_,
    fun hr hpins => ?_, fun hp hpins => ?_, fun hno => ⟨?_, ?_⟩⟩
  · exact gives_congr (thermalTrip_gives hr hunit) (thermalTrips_tile htrip)
  · exact gives_congr (thermalTrip_gives hr hunit) (thermalTrips_stack htrip)
  · exact gives_congr (thermalTrip_gives hr hunit) (thermalTrips_below hcool)
  · exact gives_congr (hrail hr hlt) ((railFails_of_rail hpos).trans (if_pos ((outOfRange_iff _ _).2 hout)))
  · exact gives_congr (hrail hr hlt) ((railFails_of_rail hpos).trans (if_neg (mt (outOfRange_iff _ _).1 hin)))
  · subst h0
    exact gives_congr (hrail hr (by decide)) railFails_of_input
  · subst hr2
    refine gives_congr (hband hr rfl hp) ((railFails_of_band p).trans (if_pos ?_))
    rw [bandTarget_of_untested huntested]
    exact (outOfRange_iff _ _).2 hout
  · subst hr2
    refine gives_congr (hband hr rfl hp) ((railFails_of_band p).trans (if_neg ?_))
    rw [bandTarget_of_untested huntested]
    exact mt (outOfRange_iff _ _).1 hin
  · subst hr2
    refine gives_congr (hband hr rfl hp) ((railFails_of_band p).trans (if_pos ?_))
    rw [bandTarget_of_tested htested]
    exact (outOfRange_iff _ _).2 hout
  · subst hr2
    refine gives_congr (hband hr rfl hp) ((railFails_of_band p).trans (if_neg ?_))
    rw [bandTarget_of_tested htested]
    exact mt (outOfRange_iff _ _).1 hin
  · exact ⟨_, rfl, vinFails_off s⟩
  · exact ⟨_, rfl, vinFails_off s⟩
  · exact ⟨_, rfl, shutDown_off s⟩
  · exact ⟨_, rfl, shutDown_off s⟩
  · exact ⟨_, rfl, shutDown_off { s with dev := { s.dev with mated := false } }⟩
  · exact congrArg Host.Outcome.next (softStart_of_up (s := setInputs (fun i => { i with vin := true }) s) hoff hmated rfl)
  · refine congrArg Host.Outcome.next ((softStart_of_not (s := setInputs (fun i => { i with vin := true }) s) (.inl hmated)).trans ?_)
    rw [← hoff]
    rfl
  · refine congrArg Host.Outcome.next ?_
    cases hvin : s.dev.inputs.vin with
    | true => exact (softStart_of_up (s := mate s) hoff rfl hvin).trans rfl
    | false =>
      refine (softStart_of_not (s := mate s) (.inr hvin)).trans ?_
      rw [if_neg Bool.false_ne_true, ← hoff]
      rfl
  · refine congrArg Host.Outcome.next ((railsUp_of_softStart hsoft).trans ?_)
    exact resetSeen_of_taken ((railsRegulated_pinsTaken s.dev).trans hpins)
  · exact ⟨_, rfl, railsUp_resets hsoft hpins hrst⟩
  · refine congrArg Host.Outcome.next ((railsUp_of_softStart hsoft).trans ?_)
    have hhigh := resetSeen_of_high (s := { s with dev := railsRegulated s.dev }) ((railsRegulated_pinsTaken s.dev).trans hpins)
      ((congrArg Inputs.rst (railsRegulated_inputs s.dev)).trans hrst) (railsRegulated_power s.dev)
    rw [railsRegulated_inputs] at hhigh
    exact hhigh
  · exact ⟨_, rfl, resetSeen_resets (s := setInputs (fun i => { i with rst := false }) s) hpins rfl (.inl hr)⟩
  · exact congrArg Host.Outcome.next (resetSeen_of_high
      (s := setInputs (fun i => { i with rst := true, slot := slot.toNat, cr8 := cr8.toNat }) s) hpins rfl hp)
  · exact congrArg Host.Outcome.next (resetSeen_still
      (s := setInputs (fun i => { i with rst := true, slot := slot.toNat, cr8 := cr8.toNat }) s) hno)
  · exact congrArg Host.Outcome.next (resetSeen_still (s := setInputs (fun i => { i with rst := false }) s) hno)

end Sys2Proof.Machine
end

section
/-! SUPPORT. Collectives: the walk of a table, the ends, and recovery permutes (R324 to R336, R354). -/

namespace Sys2Proof.Machine

section
variable {d : Dev} (e : Env)

/-! The walk of a context's table. -/

/-- The address of the entry that the walk is at. -/
def walkAddr (c : Nat) (d : Dev) : Nat := rbase d ⟨.LNK_COL_TBL, c, 0, 0⟩ + 64 * (getCtx d c).walkNext

/-- The device once the entry that the walk is at has been read and taken. -/
def walkRead (e : Env) (c : Nat) (d : Dev) : Dev := entryTaken c (hbmDone e (walkAddr c d) 64 d)

/-- What the walk makes of the entry that it is at, by the outcome of its read. -/
def walkTakes (e : Env) (c : Nat) (r : HbmRes) (d : Dev) : Dev :=
  match r with
  | .ok bs =>
    if colPos d c < enTrigger (getCtx d c).walkStep (leNat bs) then d
    else match enMember (myRank (walkRead e c d)) (leNat bs) with
      | some i => openEntry e c (leNat bs) (getCtx d c).walkStep i (walkRead e c d)
      | none => walkRead e c d
  | r => entryUnread e c (getCtx d c).walkStep (getCtx d c).walkNext r (entryTaken c d)

theorem walkTakes_of_unread {c : Nat} {r : HbmRes} (hbad : ∀ bs, r ≠ .ok bs) : walkTakes e c r d =
    entryUnread e c (getCtx d c).walkStep (getCtx d c).walkNext r (entryTaken c d) := by
  cases r with
  | ok bs => exact absurd rfl (hbad bs)
  | _ => rfl

section
variable {c : Nat} (hloaded : ctxLoaded d c = true) (htable : tableSize d c ≠ 0)
  (hleft : (getCtx (nextWalk c d) c).walkNext < tableSize (nextWalk c d) c)
  (hstep : (getCtx (nextWalk c d) c).walkStep ≤ rcStep (colPos (nextWalk c d) c))
  (hroom : ((nextWalk c d).cols.filter (fun y => y.c = c)).length < 16)
include hloaded htable hleft hstep hroom

/-- With an entry left, its step reached and a place free, the outcome is that of the entry's read. -/
theorem entryStarts_of_turn : entryStarts e c d =
    walkTakes e c (hbmRead (nextWalk c d) (walkAddr c (nextWalk c d)) 64) (nextWalk c d) := by
  have hwalks : ¬ ((!ctxLoaded d c) = true ∨ tableSize d c = 0) := by simp [hloaded, htable]
  have hturn : ¬ (tableSize (nextWalk c d) c ≤ (getCtx (nextWalk c d) c).walkNext ∨
      rcStep (colPos (nextWalk c d) c) < (getCtx (nextWalk c d) c).walkStep ∨
      ((nextWalk c d).cols.filter (fun y => y.c = c)).length ≥ 16) := by omega
  unfold entryStarts
  dsimp only
  rw [if_neg hwalks, if_neg hturn]
  rfl

theorem entryStarts_of_ahead {bs : List Byte} (hread : hbmRead (nextWalk c d) (walkAddr c (nextWalk c d)) 64 = .ok bs)
    (hahead : colPos (nextWalk c d) c < enTrigger (getCtx (nextWalk c d) c).walkStep (leNat bs)) :
    entryStarts e c d = nextWalk c d := by
  rw [entryStarts_of_turn e hloaded htable hleft hstep hroom, hread]
  exact if_pos hahead

section
variable {bs : List Byte} (hread : hbmRead (nextWalk c d) (walkAddr c (nextWalk c d)) 64 = .ok bs)
  (hdue : enTrigger (getCtx (nextWalk c d) c).walkStep (leNat bs) ≤ colPos (nextWalk c d) c)
include hread hdue

theorem entryStarts_of_member {i : Nat} (hmember : enMember (myRank (walkRead e c (nextWalk c d))) (leNat bs) = some i) :
    entryStarts e c d =
      openEntry e c (leNat bs) (getCtx (nextWalk c d) c).walkStep i (walkRead e c (nextWalk c d)) := by
  rw [entryStarts_of_turn e hloaded htable hleft hstep hroom, hread]
  simp only [walkTakes, if_neg (Nat.not_lt.2 hdue), hmember]

theorem entryStarts_of_other (hother : enMember (myRank (walkRead e c (nextWalk c d))) (leNat bs) = none) :
    entryStarts e c d = walkRead e c (nextWalk c d) := by
  rw [entryStarts_of_turn e hloaded htable hleft hstep hroom, hread]
  simp only [walkTakes, if_neg (Nat.not_lt.2 hdue), hother]

end

theorem entryStarts_of_unread {r : HbmRes} (hread : hbmRead (nextWalk c d) (walkAddr c (nextWalk c d)) 64 = r)
    (hbad : ∀ bs, r ≠ .ok bs) : entryStarts e c d =
      entryUnread e c (getCtx (nextWalk c d) c).walkStep (getCtx (nextWalk c d) c).walkNext r (entryTaken c (nextWalk c d)) := by
  rw [entryStarts_of_turn e hloaded htable hleft hstep hroom, hread, walkTakes_of_unread e hbad]

end

/-! Ends. -/

section
variable {k : Nat} {x : Col} (hopen : d.cols[k]? = some x)
include hopen

/-- The device without an open collective. -/
def colClosed (x : Col) (d : Dev) : Dev := { d with cols := d.cols.filter (fun y => y.handle ≠ x.handle) }

theorem colDone_of_over (hover : colOver d x = true) : colDone e k d =
    if x.c < 8 then satAdd e ⟨.LNK_COL_DONE, x.c, 0, 0⟩ 1
      { colClosed x d with arrivals := d.arrivals ++ doneArrivals (colClosed x d) x }
    else rset (colClosed x d) ⟨.TEST_RCP_STATE, 0, 0, 0⟩ 2 := by
  simp only [colDone, hopen, hover, Bool.not_true, Bool.false_eq_true, if_false, colClosed]

theorem colStalls_of_unfinished (hstalled : ∃ y ∈ x.streams, y.started = true ∧ unfinished d x y = true) :
    colStalls e k d = failHandle e x.handle 3 false d := by
  have hany : x.streams.any (fun s => s.started && unfinished d x s) = true := by simpa using hstalled
  simp only [colStalls, hopen, hany, if_true]

end

/-! Recovery permutes. -/

/-- Every context is not loaded, idle or halted. -/
def ctxsFree (d : Dev) : Prop := ∀ c < 8, ctxState d c = 0 ∨ ctxState d c = 1 ∨ ctxState d c = 3

theorem ctxsFree_iff : (List.range 8).all (fun c => ctxState d c = 0 || ctxState d c = 1 || ctxState d c = 3) = true ↔ ctxsFree d := by
  simp [ctxsFree, or_assoc]

/-- The registers of a recovery permute that has started. -/
def recoveryStarted (d : Dev) : Dev := rset (rset d ⟨.TEST_RCP_STATE, 0, 0, 0⟩ 1) ⟨.TEST_RCP_CAUSE, 0, 0, 0⟩ 0

theorem rcpStep_recoveryStarted : rget (recoveryStarted d) ⟨.TEST_RCP_STEP, 0, 0, 0⟩ = rget d ⟨.TEST_RCP_STEP, 0, 0, 0⟩ :=
  (rget_rset_of_reg _ _ (by decide)).trans (rget_rset_of_reg _ _ (by decide))

theorem recoveryGo_refused (h : ¬ ctxsFree d ∨ rget d ⟨.TEST_RCP_STATE, 0, 0, 0⟩ = 1) :
    recoveryGo e d = regAccess e (regOffset ⟨.TEST_RCP_GO, 0, 0, 0⟩) true d := by
  have hno : (!(List.range 8).all (fun c => ctxState d c = 0 || ctxState d c = 1 || ctxState d c = 3)) = true ∨
      rget d ⟨.TEST_RCP_STATE, 0, 0, 0⟩ = 1 :=
    h.imp (fun hbusy => by rw [Bool.not_eq_true', ← Bool.not_eq_true]; exact mt ctxsFree_iff.1 hbusy) id
  exact if_pos hno

theorem recoveryGo_started (hfree : ctxsFree d) (hstate : rget d ⟨.TEST_RCP_STATE, 0, 0, 0⟩ ≠ 1) : recoveryGo e d =
    if enMalformed (recoveryImage d) = true ∨ idOpen d (recoveryImage d) = true then
      let a := addCol 8 (recoveryImage d) (rget d ⟨.TEST_RCP_STEP, 0, 0, 0⟩) 0 [] (recoveryStarted d)
      failHandle e a.1 7 false a.2
    else openPermute e 8 (recoveryImage d) (rget d ⟨.TEST_RCP_STEP, 0, 0, 0⟩) 0 (recoveryStarted d) := by
  have hgo : ¬ ((!(List.range 8).all (fun c => ctxState d c = 0 || ctxState d c = 1 || ctxState d c = 3)) = true ∨
      rget d ⟨.TEST_RCP_STATE, 0, 0, 0⟩ = 1) := by
    rw [ctxsFree_iff.2 hfree]
    exact not_or_intro Bool.false_ne_true hstate
  rw [← rcpStep_recoveryStarted]
  exact if_neg hgo

theorem recoveryAbort_of_open {x : Col} (h : d.cols.find? (fun y => y.c = 8) = some x) :
    recoveryAbort e d = failHandle e x.handle 6 false d := by
  simp only [recoveryAbort, h]

end

theorem collectiveEntryStart_gives {s : State} {c : Nat} (hc : c < 8) (hr : Runs s) :
    Gives (.collectiveEntryStart c) s (entryStarts s.env c s.dev) :=
  gives_of_act (f := fun e d => entryStarts e c d) rfl (decide_eq_true hc) hr

/-- Settles O46: an entry's start in its four outcomes, the two ends of a collective, and a recovery permute's start and
abort. -/
theorem collectivesStartAndEnd : Obligations.CollectivesStartAndEnd := by
  refine ⟨fun s c bs => ?_, fun s k x => ?_⟩
  · intro e d x at_ taken read turn hc hr hloaded htable hturn
    obtain ⟨hleft, hstep, hroom⟩ := hturn
    have hstart := collectiveEntryStart_gives hc hr
    refine ⟨fun i hread hdue hmember => ?_, fun hread hdue hother => ?_, fun hread hahead => ?_, fun r hread hbad => ?_⟩
    · exact gives_congr hstart (entryStarts_of_member e hloaded htable hleft hstep hroom hread hdue hmember)
    · exact gives_congr hstart (entryStarts_of_other e hloaded htable hleft hstep hroom hread hdue hother)
    · exact gives_congr hstart (entryStarts_of_ahead e hloaded htable hleft hstep hroom hread hahead)
    · exact gives_congr hstart (entryStarts_of_unread e hloaded htable hleft hstep hroom hread hbad)
  · intro e get closed free img started refused hk hr
    have hk129 : decide (k < 129) = true := decide_eq_true hk
    have hdone : Gives (.collectiveDone k) s (colDone e k s.dev) := gives_of_act (f := fun e d => colDone e k d) rfl hk129 hr
    have hgo (hs : Serves s) : Gives .testRcpGo s (recoveryGo e s.dev) := gives_of_actT (f := recoveryGo) rfl rfl hs
    refine ⟨fun hopen hover hc => ?_, fun hopen hover hc => ?_, fun hopen hstalled => ?_, fun hs hfree hstate hform hid => ?_,
      fun hs hfree hstate hbad => ?_, fun hs hno => ?_, fun hs hopen => ?_⟩
    · exact gives_congr hdone ((colDone_of_over e hopen hover).trans (if_pos hc))
    · exact gives_congr hdone ((colDone_of_over e hopen hover).trans (if_neg (Nat.not_lt.2 hc)))
    · exact gives_congr (gives_of_act (f := fun e d => colStalls e k d) rfl hk129 hr) (colStalls_of_unfinished e hopen hstalled)
    · refine gives_congr (hgo hs) ((recoveryGo_started e hfree hstate).trans (if_neg ?_))
      exact not_or_intro (Bool.eq_false_iff.1 hform) (Bool.eq_false_iff.1 hid)
    · exact gives_congr (hgo hs) ((recoveryGo_started e hfree hstate).trans (if_pos hbad))
    · exact gives_congr (hgo hs) (recoveryGo_refused e hno)
    · exact gives_congr (gives_of_actT (f := recoveryAbort) rfl rfl hs) (recoveryAbort_of_open e hopen)

end Sys2Proof.Machine
end

section
/-! SUPPORT. Packets of collectives (R331 to R336): what one does for the open collective of its identifier, and without one. -/

namespace Sys2Proof.Machine

/-- The open collective that a packet names. -/
def colNamed (d : Dev) (p : Pkt) : Option Col := d.cols.find? (fun y => enId y.img = bitsOf p.body 59 44)

section
variable {e : Env} {n cls vc type : Nat} {f : Col → Pkt → Dev → Dev} {s d : Dev} {p : Pkt}
  (hcomes : takeHere e n (2 * vc + cls) type s = (some p, d))
include hcomes

section
variable {x : Col} (hopen : colNamed d p = some x)
include hopen

theorem colArrives_of_same (hsame : sameRound x p = true) : colArrives e n cls vc type f s = f x p d := by
  have hfound : d.cols.find? (fun y => enId y.img = bitsOf p.body 59 44) = some x := hopen
  simp only [colArrives, hcomes, hfound, hsame, if_true]

theorem colArrives_of_other (hother : sameRound x p = false) (htype : type ≠ 7) : colArrives e n cls vc type f s =
    failCol e x 1 (linkOr n d).1 false none (linkOr n d).2 := by
  have hfound : d.cols.find? (fun y => enId y.img = bitsOf p.body 59 44) = some x := hopen
  simp only [colArrives, hcomes, hfound, hother, Bool.false_eq_true, if_false, htype]

end

section
variable (hnone : colNamed d p = none)
include hnone

theorem colArrives_of_early (hearly : type = 5 ∧ awaited d (bitsOf p.body 59 0) = true) :
    colArrives e n cls vc type f s = { d with early := d.early ++ [{ pkt := p, via := if n < 36 then some n else none }] } := by
  have hfound : d.cols.find? (fun y => enId y.img = bitsOf p.body 59 44) = none := hnone
  simp only [colArrives, hcomes, hfound, if_pos hearly]

theorem colArrives_of_stale (h : type ≠ 5 ∨ awaited d (bitsOf p.body 59 0) = false) :
    colArrives e n cls vc type f s = colStale e n p d := by
  have hfound : d.cols.find? (fun y => enId y.img = bitsOf p.body 59 44) = none := hnone
  have hnot : ¬ (type = 5 ∧ awaited d (bitsOf p.body 59 0) = true) := fun ⟨h5, hawaited⟩ =>
    h.elim (· h5) fun hno => Bool.false_ne_true (hno.symm.trans hawaited)
  simp only [colArrives, hcomes, hfound, if_neg hnot]

end

end

/-- COL_ABORT of another round is stale. -/
theorem colArrives_of_abort {e : Env} {n cls vc : Nat} {f : Col → Pkt → Dev → Dev} {s d : Dev} {p : Pkt} {x : Col}
    (hcomes : takeHere e n (2 * vc + cls) 7 s = (some p, d)) (hopen : colNamed d p = some x) (hother : sameRound x p = false) :
    colArrives e n cls vc 7 f s = colStale e n p d := by
  have hfound : d.cols.find? (fun y => enId y.img = bitsOf p.body 59 44) = some x := hopen
  simp only [colArrives, hcomes, hfound, hother, Bool.false_eq_true, if_false, if_true]

section
variable {s : State} {n cls : Nat} (hn : n ≤ 36) (hcls : cls < 2) (hr : Runs s)
include hn hcls hr

theorem colData_gives : Gives (.colData n cls) s
    (colArrives s.env n cls 2 4 (fun x p d => dataArrives s.env x n p d) s.dev) :=
  gives_of_act (f := fun e d => colArrives e n cls 2 4 (fun x p d => dataArrives e x n p d) d) rfl (by simp [hn, hcls]) hr

theorem colCredit_gives : Gives (.colCredit n cls) s
    (colArrives s.env n cls 1 5 (fun x p d => creditArrives s.env x n p d) s.dev) :=
  gives_of_act (f := fun e d => colArrives e n cls 1 5 (fun x p d => creditArrives e x n p d) d) rfl (by simp [hn, hcls]) hr

theorem permData_gives : Gives (.permData n cls) s
    (pumpAll s.env (colArrives s.env n cls 2 6 (fun x p d => permArrives s.env x n p d) s.dev)) :=
  gives_of_act (f := fun e d => pumpAll e (colArrives e n cls 2 6 (fun x p d => permArrives e x n p d) d)) rfl
    (by simp [hn, hcls]) hr

/-- An abort that came over a link fails the collective, and is not sent back. -/
def abortArrives (e : Env) (n : Nat) (x : Col) (p : Pkt) (d : Dev) : Dev :=
  failCol e x 6 (linkOr n d).1 false (peerFrom d x p.src) (linkOr n d).2

theorem colAbort_gives : Gives (.colAbort n cls) s (colArrives s.env n cls 1 7 (abortArrives s.env n) s.dev) :=
  gives_of_act (f := fun e d => colArrives e n cls 1 7 (abortArrives e n) d) rfl (by simp [hn, hcls]) hr

end

/-- Settles O47: each of the four packets for an open collective of its round and of another, and with none open. -/
theorem collectivePacketsAreMatched : Obligations.CollectivePacketsAreMatched := by
  intro s n cls p d x e comes open_ unit_ same stale early hn hcls hr
  have hdata := colData_gives hn hcls hr
  have hcredit := colCredit_gives hn hcls hr
  have hperm := permData_gives hn hcls hr
  have habort := colAbort_gives hn hcls hr
  have hround (h : same) : sameRound x p = true := decide_eq_true h
  have hother (h : ¬ same) : sameRound x p = false := decide_eq_false h
  refine ⟨fun hcomes hopen hsame => ?_, fun hcomes hopen hsame => ?_, fun hcomes hopen hsame => ?_, fun hcomes hopen hsame => ?_,
    fun hcomes hopen hno => ?_, fun hcomes hopen hno => ?_, fun hcomes hopen hno => ?_, fun hcomes hopen hno => ?_,
    fun hcomes hnone => ?_, fun hcomes hnone => ?_, fun hcomes hnone => ?_, fun hcomes hnone hawaited => ?_,
    fun hcomes hnone hawaited => ?_⟩
  · exact gives_congr hdata (colArrives_of_same hcomes hopen (hround hsame))
  · exact gives_congr hcredit (colArrives_of_same hcomes hopen (hround hsame))
  · exact gives_congr hperm (congrArg (pumpAll e) (colArrives_of_same hcomes hopen (hround hsame)))
  · exact gives_congr habort (colArrives_of_same hcomes hopen (hround hsame))
  · exact gives_congr hdata (colArrives_of_other hcomes hopen (hother hno) (by decide))
  · exact gives_congr hcredit (colArrives_of_other hcomes hopen (hother hno) (by decide))
  · exact gives_congr hperm (congrArg (pumpAll e) (colArrives_of_other hcomes hopen (hother hno) (by decide)))
  · exact gives_congr habort (colArrives_of_abort hcomes hopen (hother hno))
  · exact gives_congr hdata (colArrives_of_stale hcomes hnone (.inl (by decide)))
  · exact gives_congr hperm (congrArg (pumpAll e) (colArrives_of_stale hcomes hnone (.inl (by decide))))
  · exact gives_congr habort (colArrives_of_stale hcomes hnone (.inl (by decide)))
  · exact gives_congr hcredit (colArrives_of_early hcomes hnone ⟨rfl, hawaited⟩)
  · exact gives_congr hcredit (colArrives_of_stale hcomes hnone (.inr hawaited))

end Sys2Proof.Machine
end
